-- ==== Sys2Proof/Word.lean ====
section
/-!
DEFINITION. Sys2Proof/Word.lean: the word types of the VX9 package and the small closed enumerations that the
spec gives numbers to (format codes of R33, rounding modes of R45, overflow policies of R48, scopes of R163,
clause classes of R301).
-/
namespace Sys2Proof

/-- A 32-bit instruction, register or data word. -/
abbrev W := BitVec 32
/-- A 64-bit register pair, virtual address or counter (R3). -/
abbrev DW := BitVec 64
/-- One byte of memory (R2). -/
abbrev Byte := BitVec 8

/-- Number formats of R33. -/
inductive Fmt where
  | bf16 | fp16 | e4m3 | e5m2 | e2m1x | i8 | int4g | fp32 | fp64 | i32 | n32 | i4 | e2m1
deriving DecidableEq, Repr

/-- R33: the format a 4-bit code names; the reserved codes 0xD to 0xF name none (R34). -/
def Fmt.ofCode (c : Nat) : Option Fmt :=
  match c with
  | 0 => some .bf16 | 1 => some .fp16 | 2 => some .e4m3 | 3 => some .e5m2
  | 4 => some .e2m1x | 5 => some .i8 | 6 => some .int4g | 7 => some .fp32
  | 8 => some .fp64 | 9 => some .i32 | 10 => some .n32 | 11 => some .i4
  | 12 => some .e2m1 | _ => none

/-- R33: the code of a format. -/
def Fmt.code (f : Fmt) : Nat :=
  match f with
  | .bf16 => 0 | .fp16 => 1 | .e4m3 => 2 | .e5m2 => 3 | .e2m1x => 4 | .i8 => 5 | .int4g => 6
  | .fp32 => 7 | .fp64 => 8 | .i32 => 9 | .n32 => 10 | .i4 => 11 | .e2m1 => 12

/-- R33: the element width in bits (block and group side data not counted). -/
def Fmt.bits (f : Fmt) : Nat :=
  match f with
  | .bf16 => 16 | .fp16 => 16 | .e4m3 => 8 | .e5m2 => 8 | .e2m1x => 4 | .i8 => 8 | .int4g => 4
  | .fp32 => 32 | .fp64 => 64 | .i32 => 32 | .n32 => 32 | .i4 => 4 | .e2m1 => 4

/-- Rounding modes of R45. -/
inductive Rm where
  | rne | rtz | rdn | rup
deriving DecidableEq, Repr

/-- R45: the mode a 2-bit code names. -/
def Rm.ofCode (c : Nat) : Rm :=
  match c with
  | 0 => .rne | 1 => .rtz | 2 => .rdn | _ => .rup

/-- R45: the code of a mode. -/
def Rm.code (r : Rm) : Nat :=
  match r with
  | .rne => 0 | .rtz => 1 | .rdn => 2 | .rup => 3

/-- Overflow policies of R48. -/
inductive Ov where
  | sat | inf | nan | trap
deriving DecidableEq, Repr

/-- R48: the policy a 2-bit code names. -/
def Ov.ofCode (c : Nat) : Ov :=
  match c with
  | 0 => .sat | 1 => .inf | 2 => .nan | _ => .trap

/-- R48: the code of a policy. -/
def Ov.code (o : Ov) : Nat :=
  match o with
  | .sat => 0 | .inf => 1 | .nan => 2 | .trap => 3

/-- Scopes of R163. -/
inductive Scope where
  | group | crew | cluster | package | tenant | system
deriving DecidableEq, Repr

/-- R163: the scope a number names; 6 and 7 are reserved. -/
def Scope.ofCode (c : Nat) : Option Scope :=
  match c with
  | 0 => some .group | 1 => some .crew | 2 => some .cluster | 3 => some .package
  | 4 => some .tenant | 5 => some .system | _ => none

/-- R163: the number of a scope. -/
def Scope.code (s : Scope) : Nat :=
  match s with
  | .group => 0 | .crew => 1 | .cluster => 2 | .package => 3 | .tenant => 4 | .system => 5

/-- Clause classes of R301. -/
inductive Cls where
  | alu | mem | mtx | eng | ctl
deriving DecidableEq, Repr

/-- R301: the class a 3-bit code names; 5 to 7 are reserved. -/
def Cls.ofCode (c : Nat) : Option Cls :=
  match c with
  | 0 => some .alu | 1 => some .mem | 2 => some .mtx | 3 => some .eng | 4 => some .ctl | _ => none

/-- R301: the code of a class. -/
def Cls.code (c : Cls) : Nat :=
  match c with
  | .alu => 0 | .mem => 1 | .mtx => 2 | .eng => 3 | .ctl => 4

/-- Page sizes of R133. -/
inductive PgSize where
  | k64 | m2 | m512 | g32
deriving DecidableEq, Repr

/-- R133: the size a 2-bit code names. -/
def PgSize.ofCode (c : Nat) : PgSize :=
  match c with
  | 0 => .k64 | 1 => .m2 | 2 => .m512 | _ => .g32

/-- R133: the code of a page size. -/
def PgSize.code (p : PgSize) : Nat :=
  match p with
  | .k64 => 0 | .m2 => 1 | .m512 => 2 | .g32 => 3

/-- R30: the page size's number of address bits. -/
def PgSize.log2 (p : PgSize) : Nat :=
  match p with
  | .k64 => 16 | .m2 => 21 | .m512 => 29 | .g32 => 35

end Sys2Proof
end

