-- ==== Sys2Proof/Machine/Num.lean ====
section
/-!
DEFINITION. Sys2Proof/Machine/Num.lean: the numbers of 02_arithmetic.md: exact values of the formats (R35 to R42),
exact sums and products, and the one rounding of R45, R46 and R48.
-/
namespace Sys2Proof.Machine

/-- The value a pattern stands for: a NaN (signalling or not, R37), an infinity, or (−1)^neg × m × 2^e exactly. -/
inductive FVal where
  | nan (sig : Bool)
  | inf (neg : Bool)
  | fin (neg : Bool) (m : Nat) (e : Int)
deriving DecidableEq, Repr

/-- R35: exponent bits, fraction bits and bias of a floating-point format; `none` of an integer or block format. -/
def Fmt.layout (f : Fmt) : Option (Nat × Nat × Nat) :=
  match f with
  | .fp64 => some (11, 52, 1023)
  | .fp32 => some (8, 23, 127)
  | .bf16 => some (8, 7, 127)
  | .fp16 => some (5, 10, 15)
  | .e5m2 => some (5, 2, 15)
  | .e4m3 => some (4, 3, 7)
  | .e2m1 => some (2, 1, 1)
  | _ => none

/-- R36: whether the format has an infinity. -/
def Fmt.hasInf (f : Fmt) : Bool :=
  match f with
  | .fp64 | .fp32 | .bf16 | .fp16 | .e5m2 => true
  | _ => false

/-- R36: whether the format has a NaN. -/
def Fmt.hasNan (f : Fmt) : Bool :=
  match f with
  | .fp64 | .fp32 | .bf16 | .fp16 | .e5m2 | .e4m3 => true
  | _ => false

/-- R33: whether the format is one of the floating-point formats of R35. -/
def Fmt.isFloat (f : Fmt) : Bool := (Fmt.layout f).isSome

/-- R42: the least and greatest value of an integer format. -/
def Fmt.intRange (f : Fmt) : Option (Int × Int) :=
  match f with
  | .i4 => some (-8, 7)
  | .i8 => some (-128, 127)
  | .i32 => some (-2147483648, 2147483647)
  | .n32 => some (0, 4294967295)
  | _ => none

/-- R43: the canonical NaN of a format that has one. -/
def Fmt.canonNan (f : Fmt) : Nat :=
  match f with
  | .fp64 => 0x7FF8000000000000
  | .fp32 => 0x7FC00000
  | .bf16 => 0x7FC0
  | .fp16 => 0x7E00
  | .e5m2 => 0x7E
  | .e4m3 => 0x7F
  | _ => 0

/-- R36: the magnitude bits of the largest finite value. -/
def Fmt.maxBits (f : Fmt) : Nat :=
  match f with
  | .fp64 => 0x7FEFFFFFFFFFFFFF
  | .fp32 => 0x7F7FFFFF
  | .bf16 => 0x7F7F
  | .fp16 => 0x7BFF
  | .e5m2 => 0x7B
  | .e4m3 => 0x7E
  | .e2m1 => 0x7
  | _ => 0

/-- R36: the magnitude bits of infinity. -/
def Fmt.infBits (f : Fmt) : Nat :=
  match f with
  | .fp64 => 0x7FF0000000000000
  | .fp32 => 0x7F800000
  | .bf16 => 0x7F80
  | .fp16 => 0x7C00
  | .e5m2 => 0x7C
  | _ => 0

/-- R35 to R38: the value of a floating-point pattern with the given layout. -/
def decodeFloat (f : Fmt) (eb fb bias : Nat) (x : Nat) : FVal :=
  let neg := x / 2 ^ (eb + fb) % 2 == 1
  let ex := x / 2 ^ fb % 2 ^ eb
  let fr := x % 2 ^ fb
  if f == .e4m3 && x % 128 == 0x7F then .nan false
  else if Fmt.hasInf f && ex == 2 ^ eb - 1 then
    if fr == 0 then .inf neg else .nan (f != .e5m2 && fr < 2 ^ (fb - 1))
  else if ex == 0 then .fin neg fr (1 - (bias : Int) - fb)
  else .fin neg (2 ^ fb + fr) ((ex : Int) - bias - fb)

/-- R35 to R38, R42: the value of a pattern of a floating-point or integer format (bits above its width ignored). -/
def Fmt.value (f : Fmt) (x : Nat) : FVal :=
  match Fmt.layout f with
  | some (eb, fb, bias) => decodeFloat f eb fb bias (x % 2 ^ (1 + eb + fb))
  | none =>
    match f with
    | .n32 => .fin false (x % 2 ^ 32) 0
    | .i32 | .i8 | .i4 =>
      let w := f.bits
      let y := x % 2 ^ w
      if y < 2 ^ (w - 1) then .fin false y 0 else .fin true (2 ^ w - y) 0
    | _ => .nan false

/-- The value with R46's flush of a subnormal FP32, FP16 or BF16 input. -/
def Fmt.valueFtz (ftz : Bool) (f : Fmt) (x : Nat) : FVal :=
  match Fmt.layout f with
  | some (eb, fb, _) =>
    if ftz && (f == .fp32 || f == .fp16 || f == .bf16) && x / 2 ^ fb % 2 ^ eb == 0 then
      .fin (x / 2 ^ (eb + fb) % 2 == 1) 0 0
    else Fmt.value f x
  | none => Fmt.value f x

def FVal.isNan (v : FVal) : Bool :=
  match v with
  | .nan _ => true
  | _ => false

/-- R37: a signalling NaN. -/
def FVal.isSig (v : FVal) : Bool :=
  match v with
  | .nan s => s
  | _ => false

def FVal.isInf (v : FVal) : Bool :=
  match v with
  | .inf _ => true
  | _ => false

def FVal.isZero (v : FVal) : Bool :=
  match v with
  | .fin _ m _ => m == 0
  | _ => false

def FVal.sign (v : FVal) : Bool :=
  match v with
  | .nan _ => false
  | .inf n => n
  | .fin n _ _ => n

def FVal.neg (v : FVal) : FVal :=
  match v with
  | .nan s => .nan s
  | .inf n => .inf (!n)
  | .fin n m e => .fin (!n) m e

def FVal.abs (v : FVal) : FVal :=
  match v with
  | .nan s => .nan s
  | .inf _ => .inf false
  | .fin _ m e => .fin false m e

/-- A signed integer as a value. -/
def FVal.ofInt (i : Int) : FVal := .fin (i < 0) i.natAbs 0

/-- m × 2^(e − q) for q ≤ e. -/
def scaleTo (m : Nat) (e q : Int) : Nat := m * 2 ^ (e - q).toNat

/-- The least exponent of the finite terms. -/
def minExp (l : List FVal) : Option Int :=
  l.foldl (fun acc v =>
    match v with
    | .fin _ _ e =>
      match acc with
      | none => some e
      | some q => some (if e < q then e else q)
    | _ => acc) none

/-- A finite term as an integer multiple of 2^q. -/
def FVal.toIntAt (q : Int) (v : FVal) : Int :=
  match v with
  | .fin n m e => if n then -((scaleTo m e q : Nat) : Int) else ((scaleTo m e q : Nat) : Int)
  | _ => 0

/-- The exact product (R44: 0 × ∞ is a NaN, reported by `mulInvalid`). -/
def FVal.mul (a b : FVal) : FVal :=
  match a, b with
  | .nan _, _ => .nan false
  | _, .nan _ => .nan false
  | .inf n, .inf k => .inf (n != k)
  | .inf n, .fin k m _ => if m == 0 then .nan false else .inf (n != k)
  | .fin n m _, .inf k => if m == 0 then .nan false else .inf (n != k)
  | .fin n m e, .fin k p g => .fin (n != k) (m * p) (e + g)

/-- R44: 0 × ∞. -/
def mulInvalid (a b : FVal) : Bool := (a.isZero && b.isInf) || (a.isInf && b.isZero)

/-- R44: infinities of both signs among the terms. -/
def sumInvalid (l : List FVal) : Bool :=
  l.any (fun v => v == .inf false) && l.any (fun v => v == .inf true)

/-- The exact sum of the terms; `nz` is the sign of an exact zero that is not a sum of zeros of one sign (R381:
negative under RDN; R55: never). -/
def sumExact (nz : Bool) (l : List FVal) : FVal :=
  if l.any FVal.isNan || sumInvalid l then .nan false
  else if l.any (fun v => v == .inf false) then .inf false
  else if l.any (fun v => v == .inf true) then .inf true
  else
    match minExp l with
    | none => .fin nz 0 0
    | some q =>
      let t := (l.map (FVal.toIntAt q)).foldl (· + ·) 0
      if t = 0 then
        if l.all (fun v => v.isZero && v.sign) then .fin true 0 0
        else if l.all (fun v => v.isZero && !v.sign) then .fin false 0 0
        else .fin nz 0 0
      else .fin (t < 0) t.natAbs q

/-- Comparison of two values that are not NaN, −0 equal to +0. -/
def FVal.lt (a b : FVal) : Bool :=
  match a, b with
  | .inf n, .inf k => n && !k
  | .inf n, _ => n
  | _, .inf k => !k
  | .fin _ _ e, .fin _ _ g =>
    let q := if e < g then e else g
    a.toIntAt q < b.toIntAt q
  | _, _ => false

def FVal.eqv (a b : FVal) : Bool := !(a.lt b) && !(b.lt a)

/-- −0 below +0 (R394, R468). -/
def FVal.ltz (a b : FVal) : Bool := a.lt b || (a.eqv b && a.isZero && b.isZero && a.sign && !b.sign)

/-- R45: an integer part `n` with remainder `r` of a divisor 2 × `half`, rounded by the mode. -/
def roundInt (rm : Rm) (neg : Bool) (n : Nat) (below : Bool) (tie : Bool) (above : Bool) : Nat :=
  match rm with
  | .rne => if above || (tie && n % 2 == 1) then n + 1 else n
  | .rtz => n
  | .rdn => if neg && (below || tie || above) then n + 1 else n
  | .rup => if !neg && (below || tie || above) then n + 1 else n

/-- m × 2^e as a multiple of 2^q, rounded by the mode; the flag says that it is not exact. -/
def roundAt (rm : Rm) (neg : Bool) (m : Nat) (e q : Int) : Nat × Bool :=
  if q ≤ e then (scaleTo m e q, false)
  else
    let k := (q - e).toNat
    let r := m % 2 ^ k
    let h := 2 ^ (k - 1)
    (roundInt rm neg (m / 2 ^ k) (decide (0 < r) && decide (r < h)) (decide (r = h)) (decide (h < r)), decide (r ≠ 0))

/-- floor(log2 (m × 2^e)) for m ≠ 0. -/
def log2Of (m : Nat) (e : Int) : Int := (Nat.log2 m : Int) + e

/-- The outcome of a rounding: the magnitude bits as if the exponent range were unbounded, and inexactness. -/
def roundMag (eb fb bias : Nat) (rm : Rm) (neg : Bool) (m : Nat) (e : Int) : Nat × Bool :=
  if m = 0 then (0, false)
  else
    let emin : Int := 1 - (bias : Int) - fb
    let q0 := log2Of m e - fb
    let q := if q0 < emin then emin else q0
    let (n, inx) := roundAt rm neg m e q
    -- n × 2^q with n ≤ 2^(fb + 1): exponent field (q − emin + 1) when n ≥ 2^fb
    ((q - emin).toNat * 2 ^ fb + n, inx)

/-- A rounded result: the pattern with its sign, and the flags it raises. -/
structure Rounded where
  bits : Nat
  ovf : Bool
  inx : Bool
deriving DecidableEq, Repr

/-- The sign bit of a floating-point format. -/
def Fmt.signBit (f : Fmt) (neg : Bool) : Nat := if neg then 2 ^ (f.bits - 1) else 0

/-- R45: where an overflow goes in IEEE arithmetic. -/
def ovfToInf (rm : Rm) (neg : Bool) : Bool :=
  match rm with
  | .rne => true
  | .rtz => false
  | .rdn => neg
  | .rup => !neg

/-- R45, R46: an exact value rounded once to a floating-point format as IEEE arithmetic does, with FTZ. -/
def roundArith (f : Fmt) (rm : Rm) (ftz : Bool) (v : FVal) : Rounded :=
  match v with
  | .nan _ => { bits := Fmt.canonNan f, ovf := false, inx := false }
  | .inf n => { bits := Fmt.signBit f n + Fmt.infBits f, ovf := false, inx := false }
  | .fin n m e =>
    match Fmt.layout f with
    | none => { bits := 0, ovf := false, inx := false }
    | some (eb, fb, bias) =>
      let (mag, inx) := roundMag eb fb bias rm n m e
      if Fmt.maxBits f < mag then
        { bits := Fmt.signBit f n + (if ovfToInf rm n then Fmt.infBits f else Fmt.maxBits f), ovf := true, inx := true }
      else if ftz && (f == .fp32 || f == .fp16 || f == .bf16) && mag != 0 && mag < 2 ^ fb then
        { bits := Fmt.signBit f n, ovf := false, inx := true }
      else { bits := Fmt.signBit f n + mag, ovf := false, inx := inx }

/-- A down-conversion's outcome: the pattern, the flags, and whether OV = TRAP stops it. -/
structure Conv where
  bits : Nat
  sov : Bool
  sinv : Bool
  sinx : Bool
  trap : Bool
deriving DecidableEq, Repr

/-- A conversion that raises nothing. -/
def Conv.plain (b : Nat) : Conv := { bits := b, sov := false, sinv := false, sinx := false, trap := false }

/-- R48: what an overflow gives, by policy. -/
def ovResult (f : Fmt) (ov : Ov) (neg : Bool) : Nat :=
  match Fmt.intRange f with
  | some (lo, hi) => (if neg then lo % 2 ^ f.bits else hi % 2 ^ f.bits).toNat
  | none =>
    match ov with
    | .inf => if Fmt.hasInf f then Fmt.signBit f neg + Fmt.infBits f
              else if Fmt.hasNan f then Fmt.canonNan f
              else Fmt.signBit f neg + Fmt.maxBits f
    | .nan => if Fmt.hasNan f then Fmt.canonNan f else Fmt.signBit f neg + Fmt.maxBits f
    | _ => Fmt.signBit f neg + Fmt.maxBits f

/-- R48: an overflow. -/
def Conv.overflow (f : Fmt) (ov : Ov) (neg : Bool) : Conv :=
  { bits := ovResult f ov neg, sov := true, sinv := false, sinx := true, trap := ov == .trap }

/-- R48, R49, R46: an exact value converted to a format. -/
def convertTo (f : Fmt) (rm : Rm) (ov : Ov) (ftz : Bool) (v : FVal) : Conv :=
  match v with
  | .nan s =>
    if Fmt.hasNan f then { Conv.plain (Fmt.canonNan f) with sinv := s }
    else { Conv.plain 0 with sinv := true }
  | .inf n => if Fmt.hasInf f then Conv.plain (Fmt.signBit f n + Fmt.infBits f) else Conv.overflow f ov n
  | .fin n m e =>
    match Fmt.layout f with
    | some (eb, fb, bias) =>
      let (mag, inx) := roundMag eb fb bias rm n m e
      if Fmt.maxBits f < mag then Conv.overflow f ov n
      else if ftz && (f == .fp32 || f == .fp16 || f == .bf16) && mag != 0 && mag < 2 ^ fb then
        { Conv.plain (Fmt.signBit f n) with sinx := true }
      else { Conv.plain (Fmt.signBit f n + mag) with sinx := inx }
    | none =>
      match Fmt.intRange f with
      | some (lo, hi) =>
        let (k, inx) := roundAt rm n m e 0
        let i : Int := if n then -(k : Int) else k
        if i < lo || hi < i then Conv.overflow f ov n
        else { Conv.plain (i % 2 ^ f.bits).toNat with sinx := inx }
      | none => Conv.plain 0

/-- floor(√n) from the bits `k` − 1 … 0 of the root. -/
def isqrtBits (n : Nat) : Nat → Nat → Nat
  | 0, acc => acc
  | k + 1, acc =>
    let t := acc + 2 ^ k
    isqrtBits n k (if t * t ≤ n then t else acc)

/-- The square root of a positive finite value, exact or with a sticky last bit below 30 significant bits, so that any
later rounding to FP32 is the correct one (R387, FSQRT). -/
def sqrtVal (m : Nat) (e : Int) : FVal :=
  let k : Nat := 62 + (if (e - 62) % 2 == 0 then 0 else 1)
  let n := m * 2 ^ k
  let r := isqrtBits n (Nat.log2 n / 2 + 1) 0
  .fin false (2 * r + (if r * r = n then 0 else 1)) ((e - k) / 2 - 1)

/-- The number in 64 bits. -/
def toDW (n : Nat) : DW := BitVec.ofNat 64 n

end Sys2Proof.Machine
end

