-- ==== Sys2Proof/Config.lean ====
section
/-!
DEFINITION. Sys2Proof/Config.lean: what an implementation fixes and the FREE VALUES of the model: constants with
no body, so that nothing can be proved about the value they give (DESIGN CHOICE, notes/assumptions/2.md).
-/
namespace Sys2Proof

/-- A fresh unpredictable 32-bit value (R7): applied to the counter `State.free`. -/
opaque Config.freeWord : Nat → BitVec 32
/-- A fresh unpredictable byte (R7): applied to the counter `State.free`. -/
opaque Config.freeByte : Nat → BitVec 8
/-- A fresh unpredictable choice (R7, R161, R229): applied to the counter `State.free`. -/
opaque Config.freeBit : Nat → Bool
/-- R387: the bits that FRCP, FRSQ, FEX2, FLG2, FSIN and FCOS return where the spec bounds the error and does
not fix the result: a function of the operation's number and of the input alone ("the same bits for the same
input on every core and every package"). -/
opaque Config.approx : Nat → BitVec 32 → BitVec 32
/-- R218: the order in which the fabric engines add the contributions of a collective without SHEXP: a position in
the list of partial sums, applied to `State.free`. -/
opaque Config.freeNat : Nat → Nat
/-- R283, R298: the result of an ECDSA P-521 signature over the given message bytes, which the spec does not
compute here: a function of the message. -/
opaque Config.signature : List (BitVec 8) → List (BitVec 8)
/-- R283, R298: the SHA-512 digest of a byte string, taken as an uninterpreted function of it. -/
opaque Config.digest : List (BitVec 8) → List (BitVec 8)
/-- R298: whether the boot ROM verifies an image against the key hash in fuses. -/
opaque Config.verifies : List (BitVec 8) → Bool

/-- R285: the control address of the pending word of a queue: a function of the package and the queue number. -/
opaque Config.pendingWord : Nat → Nat → BitVec 64
/-- R285: the bit of a queue in its pending word. -/
opaque Config.pendingBit : Nat → Nat → BitVec 5

/-- R161, R421: how many of the writes since an engine command started come before its reading for a destination bead, by the number
of the command and of the bead; of an MGT, for each source point. -/
opaque Config.readTime : Nat → Nat → Nat → Nat
/-- R226: where a package looks for free records first, given those in use and how many it needs. -/
opaque Config.recordAt : List Nat → Nat → Nat
/-- R279: the HBM bank that holds a 64 KiB page, by the number under which the page is logged. -/
opaque Config.bankOf : Nat → Nat
/-- R279, R288: the physical address of an HBM bank of a package. -/
opaque Config.bankAddr : Nat → Nat → Nat
/-- R279: the spare frames that the MP considers for a frame of tensor space (true) or control space: by the address and
size of the frame to be retired, the n-th candidate. -/
opaque Config.spareFrame : Bool → Nat → Nat → Nat → Nat
/-- R285: whether the MP can read this many bytes at a host address. -/
opaque Config.hostRange : Nat → Nat → Bool
/-- R141: the slice of its home package that is home of a control line ("a package-wide hash of the address over all 64
slices", which is not visible to programs). -/
opaque Config.homeSlice : Nat → Nat
/-- R116, R141: the way of its home slice that a line takes among those its VF may allocate in. -/
opaque Config.lineWay : Nat → Nat
/-- R289: the 64-bit CRC of the bytes of a flit, whose polynomial the spec does not give. -/
opaque Config.crc : List (BitVec 8) → BitVec 64
/-- R291: the package, by its fuse serial number, and the link there to which a link of a package is wired. -/
opaque Config.linkPeer : Nat → Nat → Option (Nat × Nat)
/-- R289: the credits of a virtual channel on every hop. -/
opaque Config.linkCredits : Nat → Nat
/-- R71: the control physical address of a group's divergence-stack area, a function of the group. -/
opaque Config.divArea : Nat → Nat
/-- R283: the certificate chain in slot 0 of a package, by its fuse serial number. -/
opaque Config.certChain : Nat → List (BitVec 8)

end Sys2Proof
end

