-- ==== Sys2Proof/Syntax.lean ====
section
/-!
DEFINITION. Sys2Proof/Syntax.lean: the instructions and events of the VX9 package, one constructor per row of
spec/opcode_table.json, with their operands decoded into names.
-/
namespace Sys2Proof

/-- A vector register field (R308). -/
abbrev VReg := BitVec 7
/-- A scalar register field (R308). -/
abbrev SReg := BitVec 6
/-- A predicate field (R308). -/
abbrev Pred := BitVec 3
/-- A handle field (R84). -/
abbrev Hnd := BitVec 4
/-- A 5-bit field that names the scalar pair s(2n):s(2n+1) (R307). -/
abbrev SPair := BitVec 5

/-- R309: the B operand of a vector form. -/
inductive VSrc where
  | v (r : VReg)
  | s (r : SReg)
  | lit (w : W)
deriving DecidableEq, Repr

/-- R309: the B operand of a scalar form, and of the vector words whose SB must be 1. -/
inductive SSrc where
  | s (r : SReg)
  | lit (w : W)
deriving DecidableEq, Repr

/-- R311: the offset of a vector form: a register, or an extension word's displacement with an optional register. -/
inductive VOff where
  | reg (r : VReg)
  | ext (disp : BitVec 25) (r : Option VReg)
deriving DecidableEq, Repr

/-- R311: the offset of a scalar form. -/
inductive SOff where
  | reg (r : SReg)
  | ext (disp : BitVec 25) (r : Option SReg)
deriving DecidableEq, Repr

/-- R313: the relations of ICMP. -/
inductive ICond where
  | eq | ne | lt | le | gt | ge | ltn | len | gtn | gen
deriving DecidableEq, Repr

/-- R313: the relations of FCMP. -/
inductive FCond where
  | eq | ne | lt | le | gt | ge | ltn | len | gtn | gen | un | ord
deriving DecidableEq, Repr

/-- R469: the operations of VRED and VSCAN. -/
inductive RedOp where
  | sumI | sumF | minI | minN | minF | maxI | maxN | maxF | and | or | xor
deriving DecidableEq, Repr

/-- R319: Q[2:1] of a load. -/
inductive LdQ where
  | plain | fe | fec | nt
deriving DecidableEq, Repr

/-- R319: Q[2:1] of a store. -/
inductive StQ where
  | plain | lk | nt
deriving DecidableEq, Repr

/-- R171: the kinds of FENCE. -/
inductive FenceKind where
  | acq | rel | full
deriving DecidableEq, Repr

/-- R454: the destination of SREAD. -/
inductive SDst where
  | s (r : SReg)
  | v (r : VReg)
deriving DecidableEq, Repr

/-- R280, R284: a window through which the host reaches the MP: a PF by port, or a VF's. -/
inductive Window where
  | pf (port : Nat)
  | vf (v : Nat)
deriving DecidableEq, Repr

/-- R277: the unit an ECC error strikes. -/
inductive EccUnit where
  /-- a 128 B line of control space, by line number -/
  | ctl (line : Nat)
  /-- a 128 B line of tensor space, by line number -/
  | ten (line : Nat)
  /-- a bead of a crew's allocation -/
  | bead (crew n : Nat)
  /-- one register of one lane of a group -/
  | reg (agent r lane : Nat)
  /-- one scalar register of a group or a control core -/
  | sreg (agent r : Nat)
  /-- a core's L1 copy of a 128 B line of tensor space (`ten`) or of control space -/
  | l1 (core : Nat) (ten : Bool) (line : Nat)
  /-- the home slice's L2 copy of a 128 B line -/
  | l2 (ten : Bool) (line : Nat)
  /-- a word of a table memory -/
  | table
deriving DecidableEq, Repr

/-- The steps of the machine: the instruction words of R318 to R321 and the events of the opcode table. Operand names
follow the spec: g guard, d destination, a and b sources, o offset or OFFS, q scope, h handle, c scalar pair. -/
inductive Instr where
  -- class ALU (R318)
  | iaddV (g : Pred) (d a : VReg) (b : VSrc)
  | iaddS (g : Pred) (d a : SReg) (b : SSrc)
  | iaddDV (g : Pred) (d a : VReg) (b : VSrc)
  | iaddDS (g : Pred) (d a : SReg) (b : SSrc)
  | isubV (g : Pred) (d a : VReg) (b : VSrc)
  | isubS (g : Pred) (d a : SReg) (b : SSrc)
  | isubDV (g : Pred) (d a : VReg) (b : VSrc)
  | isubDS (g : Pred) (d a : SReg) (b : SSrc)
  | imulV (g : Pred) (d a : VReg) (b : VSrc)
  | imulS (g : Pred) (d a : SReg) (b : SSrc)
  | imulhIV (g : Pred) (d a : VReg) (b : VSrc)
  | imulhIS (g : Pred) (d a : SReg) (b : SSrc)
  | imulhNV (g : Pred) (d a : VReg) (b : VSrc)
  | imulhNS (g : Pred) (d a : SReg) (b : SSrc)
  | imadV (g : Pred) (d a : VReg) (b : VSrc)
  | imadS (g : Pred) (d a : SReg) (b : SSrc)
  | iminIV (g : Pred) (d a : VReg) (b : VSrc)
  | iminIS (g : Pred) (d a : SReg) (b : SSrc)
  | iminNV (g : Pred) (d a : VReg) (b : VSrc)
  | iminNS (g : Pred) (d a : SReg) (b : SSrc)
  | imaxIV (g : Pred) (d a : VReg) (b : VSrc)
  | imaxIS (g : Pred) (d a : SReg) (b : SSrc)
  | imaxNV (g : Pred) (d a : VReg) (b : VSrc)
  | imaxNS (g : Pred) (d a : SReg) (b : SSrc)
  | iabsV (g : Pred) (d : VReg) (b : VSrc)
  | iabsS (g : Pred) (d : SReg) (b : SSrc)
  | andV (g : Pred) (d a : VReg) (b : VSrc)
  | andS (g : Pred) (d a : SReg) (b : SSrc)
  | orV (g : Pred) (d a : VReg) (b : VSrc)
  | orS (g : Pred) (d a : SReg) (b : SSrc)
  | xorV (g : Pred) (d a : VReg) (b : VSrc)
  | xorS (g : Pred) (d a : SReg) (b : SSrc)
  | notV (g : Pred) (d : VReg) (b : VSrc)
  | notS (g : Pred) (d : SReg) (b : SSrc)
  | shlV (g : Pred) (d a : VReg) (b : VSrc)
  | shlS (g : Pred) (d a : SReg) (b : SSrc)
  | shrV (g : Pred) (d a : VReg) (b : VSrc)
  | shrS (g : Pred) (d a : SReg) (b : SSrc)
  | sarV (g : Pred) (d a : VReg) (b : VSrc)
  | sarS (g : Pred) (d a : SReg) (b : SSrc)
  | rotV (g : Pred) (d a : VReg) (b : VSrc)
  | rotS (g : Pred) (d a : SReg) (b : SSrc)
  | popcV (g : Pred) (d : VReg) (b : VSrc)
  | popcS (g : Pred) (d : SReg) (b : SSrc)
  | clzV (g : Pred) (d : VReg) (b : VSrc)
  | clzS (g : Pred) (d : SReg) (b : SSrc)
  | brevV (g : Pred) (d : VReg) (b : VSrc)
  | brevS (g : Pred) (d : SReg) (b : SSrc)
  | bfeNV (g : Pred) (d a : VReg) (b : VSrc)
  | bfeNS (g : Pred) (d a : SReg) (b : SSrc)
  | bfeIV (g : Pred) (d a : VReg) (b : VSrc)
  | bfeIS (g : Pred) (d a : SReg) (b : SSrc)
  | bfiV (g : Pred) (d a : VReg) (b : VSrc)
  | bfiS (g : Pred) (d a : SReg) (b : SSrc)
  | selV (p : Pred) (d a : VReg) (b : VSrc)
  | selS (p : Pred) (d a : SReg) (b : SSrc)
  | movV (g : Pred) (d : VReg) (b : VSrc)
  | movS (g : Pred) (d : SReg) (b : SSrc)
  | icmpV (g pd : Pred) (c : ICond) (a : VReg) (b : VSrc)
  | icmpS (g pd : Pred) (c : ICond) (a : SReg) (b : SSrc)
  | fcmpF32 (g pd : Pred) (c : FCond) (a : VReg) (b : VSrc)
  | fcmpF64 (g pd : Pred) (c : FCond) (a : VReg) (b : VSrc)
  | plop (g pd : Pred) (lut : BitVec 4) (pa pb : Pred)
  | ballot (g : Pred) (d : SReg) (p : Pred)
  | faddF32V (g : Pred) (d a : VReg) (b : VSrc)
  | faddF32S (g : Pred) (d a : SReg) (b : SSrc)
  | faddF64 (g : Pred) (d a : VReg) (b : VSrc)
  | faddH2 (g : Pred) (d a : VReg) (b : VSrc)
  | faddB2 (g : Pred) (d a : VReg) (b : VSrc)
  | fsubF32 (g : Pred) (d a : VReg) (b : VSrc)
  | fsubF64 (g : Pred) (d a : VReg) (b : VSrc)
  | fmulF32V (g : Pred) (d a : VReg) (b : VSrc)
  | fmulF32S (g : Pred) (d a : SReg) (b : SSrc)
  | fmulF64 (g : Pred) (d a : VReg) (b : VSrc)
  | fmulH2 (g : Pred) (d a : VReg) (b : VSrc)
  | fmulB2 (g : Pred) (d a : VReg) (b : VSrc)
  | ffmaF32V (g : Pred) (d a : VReg) (b : VSrc)
  | ffmaF32S (g : Pred) (d a : SReg) (b : SSrc)
  | ffmaF64 (g : Pred) (d a : VReg) (b : VSrc)
  | ffmaH2 (g : Pred) (d a : VReg) (b : VSrc)
  | ffmaB2 (g : Pred) (d a : VReg) (b : VSrc)
  | fminF32 (g : Pred) (d a : VReg) (b : VSrc)
  | fmaxF32 (g : Pred) (d a : VReg) (b : VSrc)
  | fminF64 (g : Pred) (d a : VReg) (b : VSrc)
  | fmaxF64 (g : Pred) (d a : VReg) (b : VSrc)
  | fdot2 (g : Pred) (d a : VReg) (b : VSrc)
  | frcp (g : Pred) (d : VReg) (b : VSrc)
  | frsq (g : Pred) (d : VReg) (b : VSrc)
  | fsqrt (g : Pred) (d : VReg) (b : VSrc)
  | fex2 (g : Pred) (d : VReg) (b : VSrc)
  | flg2 (g : Pred) (d : VReg) (b : VSrc)
  | fsin (g : Pred) (d : VReg) (b : VSrc)
  | fcos (g : Pred) (d : VReg) (b : VSrc)
  | cvtFromF32 (g : Pred) (ov : Ov) (rm : Rm) (tf : Fmt) (d a : VReg)
  | cvtFromF64 (g : Pred) (ov : Ov) (rm : Rm) (tf : Fmt) (d a : VReg)
  | cvtFromBf16 (g : Pred) (ov : Ov) (rm : Rm) (tf : Fmt) (d a : VReg)
  | cvtFromF16 (g : Pred) (ov : Ov) (rm : Rm) (tf : Fmt) (d a : VReg)
  | cvtFromE4m3 (g : Pred) (ov : Ov) (rm : Rm) (tf : Fmt) (d a : VReg)
  | cvtFromE5m2 (g : Pred) (ov : Ov) (rm : Rm) (tf : Fmt) (d a : VReg)
  | cvtFromI32 (g : Pred) (ov : Ov) (rm : Rm) (tf : Fmt) (d a : VReg)
  | cvtFromN32 (g : Pred) (ov : Ov) (rm : Rm) (tf : Fmt) (d a : VReg)
  | qnt (g : Pred) (d a : VReg) (b : SSrc)
  | unpk (g : Pred) (d a : VReg) (b : SSrc)
  | pack (g : Pred) (d a : VReg) (b : SSrc)
  | shflIdx (g : Pred) (d a : VReg) (b : VSrc)
  | shflXor (g : Pred) (d a : VReg) (b : VSrc)
  | shflUp (g : Pred) (d a : VReg) (b : VSrc)
  | shflDown (g : Pred) (d a : VReg) (b : VSrc)
  | vred (g : Pred) (d : SReg) (a : VReg) (op : RedOp)
  | vminxN (g : Pred) (d : SReg) (a : VReg) (b : SSrc)
  | vminxI (g : Pred) (d : SReg) (a : VReg) (b : SSrc)
  | vminxF (g : Pred) (d : SReg) (a : VReg) (b : SSrc)
  | vmaxxN (g : Pred) (d : SReg) (a : VReg) (b : SSrc)
  | vmaxxI (g : Pred) (d : SReg) (a : VReg) (b : SSrc)
  | vmaxxF (g : Pred) (d : SReg) (a : VReg) (b : SSrc)
  | vscan (g : Pred) (d a : VReg) (ex : Bool) (op : RedOp)
  | pmovGet (g : Pred) (d : VReg)
  | pmovPut (g : Pred) (b : VSrc)
  | pmovNz (g pd : Pred) (b : VSrc)
  | pmovMask (g pd : Pred) (b : SSrc)
  | nop
  -- class MEM (R319)
  | ldB8 (g : Pred) (acq : Bool) (q : LdQ) (c : SPair) (x : VReg) (o : VOff)
  | ldX8 (g : Pred) (acq : Bool) (q : LdQ) (c : SPair) (x : VReg) (o : VOff)
  | ldB16 (g : Pred) (acq : Bool) (q : LdQ) (c : SPair) (x : VReg) (o : VOff)
  | ldX16 (g : Pred) (acq : Bool) (q : LdQ) (c : SPair) (x : VReg) (o : VOff)
  | ldB32 (g : Pred) (acq : Bool) (q : LdQ) (c : SPair) (x : VReg) (o : VOff)
  | ldB64 (g : Pred) (acq : Bool) (q : LdQ) (c : SPair) (x : VReg) (o : VOff)
  | ldB128 (g : Pred) (acq : Bool) (q : LdQ) (c : SPair) (x : VReg) (o : VOff)
  | ldB32Scalar (g : Pred) (acq : Bool) (q : LdQ) (c : SPair) (x : SReg) (o : SOff)
  | ldB64Scalar (g : Pred) (acq : Bool) (q : LdQ) (c : SPair) (x : SReg) (o : SOff)
  | stB8 (g : Pred) (rel : Bool) (q : StQ) (c : SPair) (x : VReg) (o : VOff)
  | stB16 (g : Pred) (rel : Bool) (q : StQ) (c : SPair) (x : VReg) (o : VOff)
  | stB32 (g : Pred) (rel : Bool) (q : StQ) (c : SPair) (x : VReg) (o : VOff)
  | stB64 (g : Pred) (rel : Bool) (q : StQ) (c : SPair) (x : VReg) (o : VOff)
  | stB128 (g : Pred) (rel : Bool) (q : StQ) (c : SPair) (x : VReg) (o : VOff)
  | stB32Scalar (g : Pred) (rel : Bool) (q : StQ) (c : SPair) (x : SReg) (o : SOff)
  | stB64Scalar (g : Pred) (rel : Bool) (q : StQ) (c : SPair) (x : SReg) (o : SOff)
  | atomAdd (g : Pred) (q : Scope) (c : SPair) (x : VReg) (o : VOff)
  | atomAnd (g : Pred) (q : Scope) (c : SPair) (x : VReg) (o : VOff)
  | atomOr (g : Pred) (q : Scope) (c : SPair) (x : VReg) (o : VOff)
  | atomXor (g : Pred) (q : Scope) (c : SPair) (x : VReg) (o : VOff)
  | atomMinI (g : Pred) (q : Scope) (c : SPair) (x : VReg) (o : VOff)
  | atomMinN (g : Pred) (q : Scope) (c : SPair) (x : VReg) (o : VOff)
  | atomMaxI (g : Pred) (q : Scope) (c : SPair) (x : VReg) (o : VOff)
  | atomMaxN (g : Pred) (q : Scope) (c : SPair) (x : VReg) (o : VOff)
  | atomExch (g : Pred) (q : Scope) (c : SPair) (x : VReg) (o : VOff)
  | atomFadd (g : Pred) (q : Scope) (c : SPair) (x : VReg) (o : VOff)
  | atomFmax (g : Pred) (q : Scope) (c : SPair) (x : VReg) (o : VOff)
  | atomFmin (g : Pred) (q : Scope) (c : SPair) (x : VReg) (o : VOff)
  | redAdd (g : Pred) (q : Scope) (c : SPair) (x : VReg) (o : VOff)
  | redAnd (g : Pred) (q : Scope) (c : SPair) (x : VReg) (o : VOff)
  | redOr (g : Pred) (q : Scope) (c : SPair) (x : VReg) (o : VOff)
  | redXor (g : Pred) (q : Scope) (c : SPair) (x : VReg) (o : VOff)
  | redMinI (g : Pred) (q : Scope) (c : SPair) (x : VReg) (o : VOff)
  | redMinN (g : Pred) (q : Scope) (c : SPair) (x : VReg) (o : VOff)
  | redMaxI (g : Pred) (q : Scope) (c : SPair) (x : VReg) (o : VOff)
  | redMaxN (g : Pred) (q : Scope) (c : SPair) (x : VReg) (o : VOff)
  | redExch (g : Pred) (q : Scope) (c : SPair) (x : VReg) (o : VOff)
  | redFadd (g : Pred) (q : Scope) (c : SPair) (x : VReg) (o : VOff)
  | redFmax (g : Pred) (q : Scope) (c : SPair) (x : VReg) (o : VOff)
  | redFmin (g : Pred) (q : Scope) (c : SPair) (x : VReg) (o : VOff)
  | cas (g : Pred) (q : Scope) (c : SPair) (x : VReg) (o : VOff)
  | casD (g : Pred) (q : Scope) (c : SPair) (x : VReg) (o : VOff)
  | gtswap (g : Pred) (q : Scope) (c : SPair) (x : VReg) (o : VOff)
  | gtswapD (g : Pred) (q : Scope) (c : SPair) (x : VReg) (o : VOff)
  | vswap (g : Pred) (q : Scope) (c : SPair) (x : VReg) (o : VOff)
  | tagswap (g : Pred) (q : Scope) (c : SPair) (x : VReg) (o : VOff)
  | fence (g : Pred) (q : Scope) (k : FenceKind)
  | clasp (g : Pred) (q : Scope) (crew : Bool)
  | pfetch (g : Pred) (l1 : Bool) (c : SPair) (o : SOff)
  | cflush (g : Pred) (c : SPair) (o : SOff)
  | cinv (g : Pred) (c : SPair) (o : SOff)
  | femark (g : Pred) (f : Bool) (c : SPair) (x : SReg) (o : SOff)
  | cohset (g : Pred) (c : SPair) (x : SReg) (o : SOff)
  | lkread (g : Pred) (d : VReg) (a : SReg)
  | lkbind (g : Pred) (d : SReg) (a : SReg)
  | lkrst (g : Pred) (a : SReg)
  -- class MTX (R320)
  | mma (da db : SPair) (acc : VReg) (h : Hnd) (f : Bool)
  | mmaX (da db : SPair) (acc : VReg) (h : Hnd) (f : Bool) (ext : W)
  | oprdy (g : Pred)
  | mkdesc (g : Pred) (d a : SReg) (b : SSrc)
  -- class ENG (R320)
  | copy (g : Pred) (c : SPair) (h : Hnd)
  | gather (g : Pred) (c : SPair) (h : Hnd)
  | scatter (g : Pred) (c : SPair) (h : Hnd)
  | mgt (g : Pred) (c : SPair) (h : Hnd)
  | coll (g : Pred) (c : SPair) (h : Hnd)
  | tsend (g : Pred) (c : SPair) (h : Hnd)
  | ctrset (g : Pred) (c : SPair) (k : BitVec 12)
  | ctradd (g : Pred) (c : SPair) (k : BitVec 12)
  | ctrrd (g : Pred) (c : SPair) (k : BitVec 12)
  | chsend (g : Pred) (c : SPair) (n : BitVec 6)
  | chrecv (g : Pred) (c : SPair) (n : BitVec 6)
  | hwait (g : Pred) (h : Hnd) (d : Option SReg)
  | htest (g : Pred) (h : Hnd) (d : SReg)
  | hcancel (g : Pred) (h : Hnd)
  | hsave (g : Pred) (c : SPair) (h : Hnd)
  | hload (g : Pred) (c : SPair) (h : Hnd)
  | hmov (g : Pred) (h s : Hnd)
  -- class CTL (R321)
  | bra (o : BitVec 22)
  | bany (p : Pred) (o : BitVec 22)
  | ball (p : Pred) (o : BitVec 22)
  | bnone (p : Pred) (o : BitVec 22)
  | bdiv (p : Pred) (o : BitVec 22)
  | call (g : Pred) (o : BitVec 22)
  | ret (g : Pred)
  | brx (g : Pred) (a : SReg)
  | rejoin (g : Pred)
  | exit (g : Pred)
  | yield (g : Pred)
  | bar (g : Pred) (c : SPair) (o : SOff)
  | binit (g : Pred) (c : SPair) (x : SReg) (o : SOff)
  | setfmt (g : Pred) (a : SReg)
  | getfmt (g : Pred) (d : SReg)
  | sread (g : Pred) (sel : BitVec 8) (d : SDst)
  | swrite (g : Pred) (sel : BitVec 8) (a : SReg)
  | trap (g : Pred) (code : BitVec 8)
  | eret (g : Pred)
  | eretNext (g : Pred)
  | tlbinv (g : Pred) (u : PgSize) (d a : SReg)
  -- events of the matrix engine and Lockets; requests and commands are named by their instance number
  | locketMerge (i : Nat)
  | locketCacheExpire (pkg core : Nat)
  | mmaPassGrant (inst : Nat)
  | mmaPromote (inst : Nat)
  | mmaPassDone (inst : Nat)
  -- events of the engines
  | copySetStart (set : Nat)
  | engineTransferChunk (inst n : Nat)
  | engineTranslationCheck (inst : Nat)
  | engineCommandDone (inst : Nat)
  | collStart (set : Nat)
  | collResolve (inst : Nat)
  | tsendFire (inst : Nat)
  | tsendComplete (inst : Nat)
  | counterIncrement (i : Nat)
  -- events of issue
  | yieldHoldExpire (agent : Nat) (slot : Bool)
  | barrierWake (agent : Nat)
  | regang (agent : Nat)
  | sideStarvationIssue (agent : Nat) (slot : Bool)
  | groupMark (agent : Nat)
  -- events of queues and launches
  | recordFetch (pkg q : Nat)
  | queueSweep (pkg : Nat)
  | residencyScan (pkg : Nat)
  | queueEmptyTimeout (pkg q : Nat)
  | evictionComplete (pkg q : Nat)
  | gangDispatch (launch stage : Nat)
  | launchComplete (launch : Nat)
  | markerComplete (launch : Nat)
  | channelOccupancySample (launch : Nat)
  -- events of the Bezel table
  | frameStart (pkg : Nat)
  | slotLeadStart (pkg part : Nat)
  | slotEdge (pkg part : Nat)
  | engineSuspend (inst : Nat)
  | drainDone (pkg part : Nat)
  | ceHandover (pkg part : Nat)
  | saveDone (pkg part : Nat)
  | restoreDone (pkg part : Nat)
  | vfIdleYield (pkg part : Nat)
  | sltEnable (pkg : Nat)
  | sltDisable (pkg : Nat)
  | sltSwapRequest (pkg : Nat)
  | sltFrameWrite (pkg : Nat) (val : W)
  | sltLeadWrite (pkg : Nat) (val : W)
  -- events of the MP and the host
  | configRegisterWrite (pkg : Nat) (win : Window) (off : Nat) (bytes : List Byte)
  | linkBucketRefill (pkg : Nat)
  | hbmBucketRefill (pkg : Nat)
  | preemptRequest (pkg part : Nat)
  | pageFaultServiced (pkg req at_ : Nat) (entry : DW)
  | pageFaultUnresolvable (pkg req : Nat)
  | transitCopyResolve (pkg idx : Nat)
  | cohTransitionFlip (tr : Nat)
  | dirRegionMerge (pkg base size : Nat)
  | clusterSleep (pkg cluster : Nat)
  | clusterWake (pkg cluster : Nat)
  | hostMemoryWrite (pkg port addr : Nat) (bytes : List Byte)
  | hostMemoryRead (pkg port addr len : Nat)
  | qcreate (pkg : Nat) (win : Window)
  | qdestroy (pkg : Nat) (win : Window)
  | vfjoin (pkg : Nat) (win : Window)
  | partmove (pkg : Nat) (win : Window)
  | hacomp (pkg : Nat) (win : Window)
  | peerdown (pkg : Nat) (win : Window)
  | fwload (pkg : Nat) (win : Window)
  | hsemAcquire (pkg port : Nat)
  | hsemRelease (pkg port : Nat)
  | hsemTimeout (pkg : Nat)
  | haEventWrite (pkg : Nat)
  | haTimeout (pkg : Nat)
  | xeSubSubmit (pkg core : Nat) (hi : W)
  | spdmGetVersion (pkg port : Nat)
  | spdmGetCapabilities (pkg port : Nat)
  | spdmNegotiateAlgorithms (pkg port : Nat)
  | spdmGetDigests (pkg port : Nat)
  | spdmGetCertificate (pkg port : Nat)
  | spdmChallenge (pkg port : Nat) (nonce : List Byte)
  | spdmGetMeasurements (pkg port index : Nat) (nonce : List Byte)
  -- events of the fabric, errors and the package
  | flitReceive (pkg link : Nat) (flit : List Byte)
  | linkTimeout (pkg link : Nat)
  | keepaliveSend (pkg link : Nat)
  | domainForm (serials : List Nat)
  | peerRouteTimeout (pkg peer : Nat)
  | peerLossAgree (peer : Nat)
  | homePromoted (peer : Nat)
  | mirrorRebuildDone (peer : Nat)
  | eccCorrectable (pkg : Nat) (u : EccUnit)
  | eccUncorrectable (pkg : Nat) (u : EccUnit)
  | patrolScrub (pkg : Nat)
  | packageReset (pkg : Nat)
  | vfFlr (pkg vf : Nat)
  | lineEviction (pkg core : Nat) (ten : Bool) (line : Nat)
  | powerThrottling (pkg : Nat) (gated : BitVec 8)
deriving DecidableEq, Repr

end Sys2Proof
end

