-- ==== Sys2Proof/Machine/State.lean ====
section
/-!
DEFINITION. Sys2Proof/Machine/State.lean: the state of one load-store domain of VX9 packages as plain data, the
faults and refusals a step can end in, and `State.reset`. INVENTORY.md lists every field with the rule that names it.
-/
namespace Sys2Proof.Machine

/-- Why a step stops. -/
inductive Fault where
  /-- Raised by `exec` of an instruction word when no side of any group or control core is issuing it
  (`State.cur` names none): a word has no effect without an issuing side (R69, R316). `step` never raises it.
  Safe: the machine stops where the hardware has no such situation. -/
  | noIssuer
deriving DecidableEq, Repr

/-- Why the model has no meaning for an instruction. -/
inductive Refusal where
  /-- The instruction of this mnemonic has no meaning in the model. Safe. -/
  | notModelled (mnemonic : String)
deriving DecidableEq, Repr

/-- Memory: the listed (address, byte) pairs, addresses strictly rising, no byte equal to what an unlisted address
reads as (DESIGN CHOICE, notes/assumptions/1.md). -/
abbrev Mem := List Host.Cell

/-- The two translated address classes of R132. -/
inductive Space where
  /-- control space, R132 class 0b00 -/
  | ctl
  /-- tensor space, R132 class 0b01 -/
  | ten
deriving DecidableEq, Repr

/-- Where bytes that a write changes stand. -/
inductive Place where
  | ctl
  | ten
  /-- the scratchpad allocation of this crew -/
  | pad (crew : Nat)
deriving DecidableEq, Repr

/-- A write that has come about: the bytes from `lo` up to but not including `hi`, with the agent whose word it was, if
one's, or the engine command, and what the memory or the scratchpad held there before. -/
structure Wrote where
  agent : Option Nat
  cmd : Option Nat
  place : Place
  lo : Nat
  hi : Nat
  old : List Byte
deriving DecidableEq, Repr

/-- R84: the state of one handle, with the operation instance it is bound to (R88); `loaded` says that the binding came
from an HLOAD (R403). -/
inductive Handle where
  | idle
  | pending (inst : Nat) (loaded : Bool)
  | resolved (inst : Nat) (status : W)
deriving DecidableEq, Repr

/-- R196, R199: engine commands by kind. -/
inductive CmdKind where
  | copy | gather | scatter | mgt | coll | tsend
deriving DecidableEq, Repr

/-- What a stalled or parked side waits for; the word that stalled issues again afresh. -/
inductive Stall where
  /-- the waits of this clause header (R302) -/
  | waits (hdr : W)
  /-- a PENDING handle that the word would issue into or overwrite (R84) -/
  | handle (h : Nat)
  /-- a PENDING handle that HWAIT reads (R402, R407) -/
  | hwait (h : Nat)
  /-- the full bits of these beads of a crew's allocation (R144) -/
  | beads (crew : Nat) (bs : List Nat)
  /-- room in an engine's queue (R196), or, for a COPY slice with this handle and NSLICE, an open set to join (R205) -/
  | queue (eng : Nat) (join : Option (Nat × Nat))
  /-- a free ring slot of a channel (R92), with the send's place in the order of issue (R94) and the source as it stood when the
  send first issued (R93) -/
  | chsend (ch seq : Nat) (old : List Byte)
  /-- a complete message, or the closing, of a channel (R94), for this scalar pair -/
  | chrecv (ch pair : Nat)
  /-- the scalar pair that a CHRECV of the sibling side still has to write (R112, R355) -/
  | pair (n : Nat)
  /-- an HWAIT whose handle was bound anew after it resolved: the state that the HWAIT returns (R407) -/
  | told (h : Nat) (x : Handle)
  /-- the operations of a CLASP's set W that it still waits for, and all operations that came before it (R176) -/
  | clasp (cmds all : List Nat)
  /-- a page-fault service (R266), by request number -/
  | service (req : Nat)
  /-- room in the MP's fault-request queue (R266) -/
  | room
  /-- a route to another package (R290, R292) -/
  | route (pkg : Nat)
  /-- the return copy of a page-transit entry (R158) -/
  | transit (idx : Nat)
  /-- a running SNAP copy (R162), by command number -/
  | snap (cmd : Nat)
  /-- room in a matrix reservation table (R113) -/
  | table (cluster : Nat)
  /-- a page-attribute transition (R189), by number -/
  | coh (tr : Nat)
  /-- the completion of a TLBINV (R270), by number -/
  | tlbinv (id : Nat)
  /-- a later completing arrival at a barrier word (R82); `gang` for a word reached by a gang-form address (R83) -/
  | barrier (crew off : Nat) (gang : Bool)
  /-- a completing arrival has come: eligible in the next aclk (R82); `gang` as in `barrier` -/
  | woken (gang : Bool)
  /-- the promotion of a lost home's mirror (R293) -/
  | lost (pkg : Nat)
  /-- another package holds requests to a partition that a move stops (R276) -/
  | ingress (pkg part : Nat)
  /-- an engine word of this kind that has bound its handle to this instance and has still to copy its block, at this address, for
  this engine (R364, R366); only ever in `Side.began` -/
  | posting (h inst : Nat) (kind : CmdKind) (eng : Nat) (va : DW)
deriving DecidableEq, Repr

/-- A point of a clause: the address of its header, the next word's position (0: the header itself, not yet
checked), the checked header's word, and the fields of it that the words of the clause use (R259, R301, R305). -/
structure ClausePt where
  hdr : DW
  head : W
  pos : Nat
  count : Nat
  cls : Cls
  opr : Bool
  /-- what the wait of a header with OPR has found (R432): for the team's groups, by agent, `vcount` and the length of `State.wlog` at
  their OPRDY, and the engine commands that no OPRDY orders -/
  marks : List (Nat × Nat × Nat)
  loose : List Nat
deriving DecidableEq, Repr

/-- R100: the hold of a side that executed YIELD. -/
structure Hold where
  until_ : Nat
  noted : List (Nat × Bool)
deriving DecidableEq, Repr

/-- R69: a side that occupies a PC slot. -/
structure Side where
  mask : W
  pt : ClausePt
  fmt : W
  inHandler : Bool
  ret : ClausePt
  retLen : Nat
  stall : Option Stall
  /-- an HWAIT, CHSEND, CHRECV, CLASP or engine word that the side has issued and that still waits, through stalls of its fetch
  (R77, R364, R407) -/
  began : Option Stall
  /-- it has entered its header, and the clause's first word has still to issue (R72) -/
  ahead : Bool
  hold : Option Hold
  waited : Nat
  starved : Bool
deriving DecidableEq, Repr

/-- R80: where a parked side stands. -/
inductive Park where
  | rejoin
  | bar (base : BitVec 5) (off : SOff)
deriving DecidableEq, Repr

/-- R71: one entry of the divergence stack. -/
structure Entry where
  pt : ClausePt
  len : Nat
  park : Option Park
  mask : W
  fmt : W
deriving DecidableEq, Repr

/-- R295, R271: what a control core holds beyond a group's scalar state. -/
structure Cc where
  num : Nat
  supervisor : Bool
  halted : Bool
  evec : W
  epc : W
  ecause : BitVec 8
  prev : Bool
  edata : W
  croot : BitVec 50
  troot : BitVec 50
  asid : BitVec 8
  /-- instances of the blocks submitted through XE_SUB_HI whose status word is not yet written (R360) -/
  subs : List Nat
deriving DecidableEq, Repr

/-- R64, R66, R67: a group; with `cc` a control core, which has lane 0 only (R295). -/
structure Agent where
  id : Nat
  pkg : Nat
  cc : Option Cc
  vf : Nat
  crew : Nat
  grp : Nat
  launch : Nat
  stage : Nat
  core : Nat
  sched : Nat
  prio : Nat
  age : Nat
  prim : Option Side
  sec : Option Side
  stack : List Entry
  v : Vector (Vector W 32) 128
  vpoison : List Nat
  /-- how often a register of the group has been written, and, for a register and lanes of it, that count at their last write
  (the model's own) -/
  vcount : Nat
  vlast : List (Nat × W × Nat)
  s : Vector W 64
  p : Vector W 7
  h : Vector Handle 16
  lksel : BitVec 20
  errtrap : Bool
  clkhi : W
  tcause : BitVec 8
  tpc : W
  tdata : W
  /-- fault records the group's traps wrote and nothing has freed (R264) -/
  frecs : List Nat
  nregs : Nat
  divmax : Nat
  code : DW
  trapvec : W
  widths : List Nat
  wf : Vector W 6
  we : Vector W 6
  shape : Vector W 4
  bucket : Nat
  marked : Bool
  waited : Nat
  saved : Bool
deriving DecidableEq, Repr

/-- R92 to R94: one slot of a consumer crew's ring. -/
inductive Slot where
  /-- free since this aclk -/
  | free (since : Nat)
  | msg (seq : Nat) (len : Nat)
  | held (agent : Nat)
deriving DecidableEq, Repr

/-- R91: one crew's ring for one channel, its first byte at `base` of the allocation. -/
structure Ring where
  chan : Nat
  base : Nat
  slots : List Slot
deriving DecidableEq, Repr

/-- R59, R139: a crew and its scratchpad allocation. -/
structure Crew where
  id : Nat
  pkg : Nat
  vf : Nat
  launch : Nat
  stage : Nat
  gang : Nat
  idx : Nat
  gangSize : Nat
  core : Nat
  ngroups : Nat
  /-- vector registers per lane of its groups -/
  regs : Nat
  size : Nat
  pad : Mem
  full : List Nat
  /-- poisoned 4-byte granules (R277), by offset / 4 -/
  poison : List Nat
  /-- the ready bits of R244, one per group of the crew -/
  ready : W
  /-- for groups that have executed OPRDY: the group's number and agent, and its `vcount` and the length of `State.wlog` then
  (R182) -/
  readyAt : List (Nat × Nat × Nat × Nat)
  /-- beads that a group has seen full (R144): the group, the bead and the length of `State.wlog` then (the model's own) -/
  seen : List (Nat × Nat × Nat)
  /-- groups of the crew that have ended (R61) -/
  ended : W
  rings : List Ring
deriving DecidableEq, Repr

/-- R111: how a consumer stage stands. -/
inductive Mood where
  | neither | hungry | sated
deriving DecidableEq, Repr

/-- R96, R97, R104: a stage of a running launch. -/
structure Stage where
  regs : Nat
  scratch : Nat
  bucket : Nat
  entry : W
  we : List Nat
  /-- extents of fields 2 to 5 that R98 leaves gangs in -/
  ext : List Nat
  /-- gangs started, in the order of R63, and gangs to start -/
  next : Nat
  total : Nat
  mood : Mood
  moodAt : Nat
deriving DecidableEq, Repr

/-- R91: a channel of a launch. -/
structure Chan where
  src : Nat
  dst : Nat
  slots : Nat
  size : Nat
deriving DecidableEq, Repr

/-- R103, R106: how far a fetched record has come. -/
inductive LPhase where
  /-- fetched, its header not yet read or its dependency not yet met -/
  | waiting
  /-- its gangs are being started or run -/
  | running
  /-- complete but for its completion writes -/
  | ending
deriving DecidableEq, Repr

/-- R306: a page from which a launch has fetched: where its bytes and its leaf stand, and how long `State.wlog` was when what is
written to it began to count as a write of a code page. -/
structure CodePage where
  place : Place
  base : Nat
  size : Nat
  leaf : Nat
  since : Nat
deriving DecidableEq, Repr

/-- R103, R327: a launch record in flight with its checked header. -/
structure Launch where
  id : Nat
  pkg : Nat
  queue : Nat
  rec_ : Nat
  marker : Bool
  serial : Bool
  vf : Nat
  prio : Nat
  age : Nat
  /-- the launch fetched before it from its queue (R103) -/
  prev : Option Nat
  hdr : DW
  arg : DW
  shape : Vector W 4
  depAddr : DW
  depVal : DW
  doneAddr : DW
  doneVal : DW
  errAddr : DW
  phase : LPhase
  err : Bool
  cause : BitVec 8
  term : Nat
  fmt0 : W
  code : DW
  trapvec : W
  divmax : Nat
  widths : List Nat
  crewN : Nat
  gangN : Nat
  stages : List Stage
  chans : List Chan
  sendSeq : Nat
  /-- the length of `State.wlog` when the launch began to run (R306) -/
  mark : Nat
  /-- the pages that its groups have fetched from (R306) -/
  codePages : List CodePage
  /-- completion writes already made or dropped (R106) -/
  wroteErr : Bool
  /-- page-fault service or another stall of its reads and writes -/
  wait : Option Stall
  /-- replay records to free at completion (R226, R264) -/
  records : List Nat
deriving DecidableEq, Repr

/-- R108: the state of a virtual queue. -/
inductive QState where
  | idle | pending | resident | evicting | faulted | disabled
deriving DecidableEq, Repr

/-- R101, R108: a virtual queue. -/
structure Queue where
  num : Nat
  ring : DW
  tline : DW
  log2n : Nat
  prio : Nat
  vf : Nat
  /-- STATE byte of the descriptor: 0 disabled, 1 enabled, 2 faulted -/
  stb : Nat
  st : QState
  head : Nat
  /-- control address of the 32-bit pending word and the bit in it (R285) -/
  pword : DW
  pbit : Nat
  pendAt : Nat
  /-- aclk since which its pending bit has been set (R107) -/
  bitAt : Option Nat
  /-- the launch fetched last, and, with eight in flight, the one whose completion the next fetch waits for (R103, R109) -/
  last : Option Nat
  gate : Option Nat
  emptySince : Nat
  destroying : Bool
  /-- page-fault service or another stall of its reads -/
  wait : Option Stall
deriving DecidableEq, Repr

/-- R118, R119, R205, R216, R222: how far an engine command has come. -/
inductive CmdPhase where
  /-- a slice in an open COPY set, or a participant of an open collective -/
  | joining
  /-- accepted and waiting to start -/
  | queued
  | running
  /-- stopped at an iteration boundary by a quiescence -/
  | suspended
  /-- a TSEND that has not fired -/
  | armed
  /-- its work is over; the handle has not resolved yet -/
  | ended
  /-- a participant of a failed collective, its handle resolved, kept until every participant has issued (R216) -/
  | dead
  /-- a control core's command, over and resolved, whose status word is still to be written (R296) -/
  | reporting
deriving DecidableEq, Repr

/-- R225: what stopped a slice or was first found wrong in it. -/
structure CmdFault where
  /-- the engine's order of detection (R205) -/
  seq : Nat
  cause : BitVec 8
  sub : BitVec 8
  complete : Bool
  ivec : List Nat
  faddr : DW
  detail : DW
deriving DecidableEq, Repr

/-- R196 to R229: one engine command, or one slice of a crew COPY. -/
structure Cmd where
  inst : Nat
  kind : CmdKind
  pkg : Nat
  /-- the copy engine's cluster, or 64 + die for a fabric engine -/
  eng : Nat
  vf : Nat
  agent : Nat
  crew : Nat
  gang : Nat
  launch : Nat
  hnum : Nat
  prio : Nat
  cbaddr : DW
  blk : List Byte
  /-- set number: slices of one crew COPY, or participants of one collective, share it -/
  set : Nat
  phase : CmdPhase
  /-- accepted in LEAD: it starts in the VF's next slot (R118) -/
  held : Bool
  /-- a TSEND whose trigger has been met and that has still to fire (R123) -/
  due : Bool
  /-- the length of `State.wlog` at acceptance (R198) -/
  mark : Nat
  /-- the status that the command ends with, where that is already decided (R181, R296) -/
  final : Option W
  ivec : List Nat
  /-- the vector at which the command started (R204, R227) -/
  from_ : List Nat
  started : Bool
  /-- the length of `State.wlog` when it started (R161) -/
  ran : Nat
  /-- it was accepted to resume a record, which is freed when it resolves (R227) -/
  resumes : Bool
  /-- R123, R228: the vector at its last page boundary, the 64 KiB pages it has been in since, the iterations since then, and
  those of the iterations ahead that have come about once already -/
  pageIv : List Nat
  pages : List Nat
  sincePage : Nat
  redo : Nat
  /-- R143: beads (crew, bead) that it has written and that a further write of the command may still touch -/
  open_ : List (Nat × Nat)
  /-- R156: beads (crew, bead) of its failed tiles -/
  spoilt : List (Nat × Nat)
  /-- destination bytes written since the last translation check (R228) -/
  since : Nat
  wait : Option Stall
  /-- the flits of its next chunk have gone out: the chunk comes about once they have been accepted (R290) -/
  sent : Bool := false
  fault : Option CmdFault
  poisoned : Bool
  /-- pages write-protected by SNAP (R162): space, base, size; and source addresses whose page was not mapped at the start
  (before it, the addresses whose page-fault service has failed) -/
  snap : List (Space × Nat × Nat)
  snapVa : List DW
  /-- SCATTER with COMBINE (R450): the positions read so far, then the distinct indices with their combined bytes; the
  flag says poisoned -/
  buf : List (Nat × List Byte × Bool)
  /-- COLL: the package numbers of the participant list (R216), and the poisoned elements of the result (R278) -/
  plist : List Nat
  badAt : List Nat
  /-- XE status word of a control core's command (R296) -/
  staddr : Option DW
  /-- the result of a collective for this participant, filled when it runs (R217) -/
  result : List Byte
deriving DecidableEq, Repr

/-- R88, R404: an operation instance whose status is available to HLOAD, with the handle it was issued into. -/
structure Inst where
  inst : Nat
  agent : Nat
  hnum : Nat
  status : Option W
deriving DecidableEq, Repr

/-- R235: a decoded operand descriptor. -/
structure Desc where
  base : Nat
  core : Nat
  regs : Bool
  t : Bool
  rot : Nat
  fmt : Fmt
  rowp : Nat
  tilep : Nat
  klen : Nat
deriving DecidableEq, Repr

/-- R113, R425: a posted matrix operation. -/
structure MmaReq where
  inst : Nat
  pkg : Nat
  cluster : Nat
  leader : Nat
  follower : Nat
  agent : Nat
  hnum : Nat
  crew : Nat
  gang : Nat
  vf : Nat
  launch : Nat
  team : Nat
  a : Desc
  b : Desc
  acc : Nat
  kp : Nat
  g : Nat
  ovw : Bool
  amx : Option DW
  dup : Option DW
  prio : Nat
  posted : Nat
  waitFrom : Nat
  promoted : Option Nat
  /-- the pass in progress ends at this aclk -/
  busy : Option Nat
  passes : Nat
  done : Nat
  saved : Bool
  /-- page-fault service or another stall of its map reads or of its merge -/
  wait : Option Stall
  /-- the accumulators as the MMA will read them, row by row (128 × 64) -/
  acc0 : List W
  /-- the cells of `acc0` that are poisoned (R277) -/
  acc0Bad : List Nat
  /-- R182: since when writes make operands unpredictable: for the team's groups, by agent, `vcount` and the length of
  `State.wlog`; for everyone else that length -/
  marks : List (Nat × Nat × Nat)
  mark : Nat
  /-- engine commands (the number of a COPY's set) whose scratchpad writes no OPRDY orders before the operand reads (R180, R182)
  -/
  loose : List Nat
  /-- the cause of a map that cannot be used, until the chained predecessors have left (R239, R243) -/
  failed : Option Nat
  /-- the team's `vcount`s, by agent, after the post: later writes of accumulators may be lost -/
  accMarks : List (Nat × Nat)
  /-- the words of the duplication map, once read, each with its place -/
  map : List (W × Place × Nat)
deriving DecidableEq, Repr

/-- R182: the results of an MMA that has resolved and whose resolution is not yet ordered before every team group; or, with
`slices`, an engine command that wrote scratchpad bytes and whose resolution is not yet ordered before every group of its
launch. -/
structure MmaRes where
  inst : Nat
  agent : Nat
  crew : Nat
  team : Nat
  launch : Nat
  /-- the slices of an engine command, each with its group; none for an MMA -/
  slices : List (Nat × Nat)
  /-- groups that knew of an engine command's resolution at an OPRDY -/
  told : List Nat
  acc : Nat
  /-- the registers, counted from `acc`, that no later MMA has taken -/
  regs : List Nat
  res : List W
  /-- the cells of `res` that are poisoned (R277): those that a cancelled MMA gives back (R245) -/
  bad : List Nat
  marks : List (Nat × Nat)
  /-- agents after which the resolution is ordered, with the barrier words (crew, offset) and messages that carry it on -/
  know : List Nat
  bars : List (Nat × Nat)
  msgs : List Nat
deriving DecidableEq, Repr

/-- R266: a fault request at the MP. -/
structure FaultReq where
  id : Nat
  pkg : Nat
  asid : Nat
  va : DW
  sub : Nat
  level : Nat
  host : Bool
  /-- declared unresolvable: the waiters take PAGE_FAULT -/
  failed : Bool
deriving DecidableEq, Repr

/-- R157: an entry of the page-transit table. -/
structure Transit where
  idx : Nat
  leaf : DW
  inst : Nat
  /-- where the leaf stands in control memory, and the page it maps -/
  leafAt : Nat
  asid : Nat
  va : DW
deriving DecidableEq, Repr

/-- R269: whose TLB holds an entry. -/
inductive TlbAt where
  | core (n : Nat)
  | cluster (n : Nat)
  | cc (n : Nat)
deriving DecidableEq, Repr

/-- R269: a cached translation. -/
structure Tlb where
  loc : TlbAt
  asid : Nat
  va : DW
  size : PgSize
  leaf : DW
deriving DecidableEq, Repr

/-- R269: an entry of a die's page-walk cache: where the table of a level stands that translates the addresses of an
address space with this prefix. -/
structure WalkEnt where
  die : Nat
  asid : Nat
  space : Space
  level : Nat
  pfx : Nat
  base : Nat
deriving DecidableEq, Repr

/-- R140, R169, R186: a line of a tensor or SOFT page in an L1; its bytes may differ from its home's. -/
structure L1Line where
  core : Nat
  space : Space
  line : Nat
  bytes : List Byte
  dirty : BitVec 128
  vf : Nat
  /-- R277: an uncorrectable error struck the copy -/
  poison : Bool
deriving DecidableEq, Repr

/-- R185: MOESI states of a HARD line's copies (the bytes stand in control memory, which is coherent). -/
inductive Moesi where
  | m | o | e | sh
deriving DecidableEq, Repr

/-- R185, R191, R192: a core's copy of a HARD or PRIVATE line, or one that the private L2 ways of a VF keep (R122), with
the VF whose domain holds it. -/
structure HardCopy where
  core : Nat
  line : Nat
  st : Moesi
  vf : Nat
  /-- R277: an uncorrectable error struck the clean copy -/
  poison : Bool
deriving DecidableEq, Repr

/-- R138: the scratchpad share of a core for the crews of a VF, and the aclk of the placement step that fixed it. -/
structure CoreSplit where
  core : Nat
  vf : Nat
  size : Nat
  at_ : Nat
deriving DecidableEq, Repr

/-- R191: a unit that a conflict split a directory region into. -/
structure DirUnit where
  base : Nat
  size : Nat
  quietFrom : Nat
deriving DecidableEq, Repr

/-- R188, R189: the directory's record of a PRIVATE page's owner. -/
structure DirOwner where
  page : Nat
  size : Nat
  pkg : Nat
  core : Nat
deriving DecidableEq, Repr

/-- R189: a page-attribute transition in progress. -/
structure CohTr where
  id : Nat
  pkg : Nat
  agent : Nat
  slot : Bool
  len : Nat
  asid : Nat
  va : DW
  leafAt : Nat
  page : Nat
  size : Nat
  old : Nat
  new : Nat
  /-- the physical core and the operand's logical core of a new PRIVATE attribute -/
  owner : Nat
  ownerOp : Nat
  host : Bool
  /-- it waits for a transition of its page that reached the directory before it (R190) -/
  queued : Bool
deriving DecidableEq, Repr

/-- R270: a TLBINV in progress. -/
structure TlbInv where
  id : Nat
  pkg : Nat
  agent : Nat
  slot : Bool
  len : Nat
  asid : Nat
  va : DW
  bytes : Nat
  whole : Bool
  /-- engine commands that have not yet passed a check point (R228) -/
  waitFor : List Nat
deriving DecidableEq, Repr

/-- R257: a core's cached copy of a Locket record. -/
structure LkCopy where
  core : Nat
  vf : Nat
  idx : Nat
  bytes : List Byte
  since : Nat
  /-- groups that have acquired since the copy was fetched and may no longer use it -/
  stale : List Nat
deriving DecidableEq, Repr

/-- R250: a merge on its way to a remote home. -/
structure PendMerge where
  pkg : Nat
  vf : Nat
  idx : Nat
  fmt : Fmt
  vals : List DW
  inst : Nat
  /-- recorded by a save, since it could not land; it goes on after the restore (R27) -/
  saved : Bool
deriving DecidableEq, Repr

/-- R222, R369: a counter increment on its way. -/
structure PendInc where
  inst : Nat
  pkg : Nat
  vf : Nat
  ctr : Nat
  inc : DW
  /-- recorded by a save, since it could not land; it goes on after the restore (R27) -/
  saved : Bool
deriving DecidableEq, Repr

/-- R195: a host port's access to control space that waits: a write with its bytes, or a read of `len` bytes. -/
structure HostReq where
  pkg : Nat
  port : Nat
  write : Bool
  addr : Nat
  bytes : List Byte
  len : Nat
deriving DecidableEq, Repr

/-- R118: the states a partition passes through at an edge. -/
inductive PPhase where
  | idle | run | lead | drain | save | restore
deriving DecidableEq, Repr

/-- R272: what asked for the quiescence in progress. -/
inductive PCause where
  | edge | preempt | move | yield_ | disable | peer | migrate
deriving DecidableEq, Repr

/-- R118, R120, R124: one spatial partition at run time. -/
structure Part where
  phase : PPhase
  owner : Option Nat
  /-- the VF that runs after the quiescence -/
  incoming : Option Nat
  cause : PCause
  edgeAt : Nat
  /-- aclk from which the owner has had nothing to do, within its own run (R124) -/
  idleFrom : Nat
  busy : Bool
  /-- start of the run in progress and of its paid time, for banking and slack (R125, R126) -/
  runFrom : Nat
  /-- the VF whose bank pays for the slack time in progress (R125) -/
  slackOf : Option Nat
  /-- aclk at which the owner of a slot that begins late starts (R120); 0 for none -/
  startAt : Nat
  /-- by how much the slot in progress begins late (R120, R126) -/
  late : Nat
  /-- aclk at which the bank of the VF that runs on slack is used up (R125); 0 for none -/
  slackEnd : Nat
  /-- the VF whose commands the partition's engines serve (R119) -/
  ce : Option Nat
  /-- quiesced for a migration, until the host lets it go on (R272) -/
  held : Bool
  /-- aclk of the edge for which LEAD was entered last (R118) -/
  leadTo : Nat
deriving DecidableEq, Repr

/-- R116: the configuration of a VF. -/
structure VfCfg where
  l2ways : BitVec 16
  linksh : BitVec 8
  hbmsh : BitVec 8
  part : BitVec 6
  scopecap : Bool
  donee : BitVec 8
  bank : BitVec 3
  qslots : BitVec 6
deriving DecidableEq, Repr

/-- R116, R224, R247, R489 and the address spaces of R268: the registers of one VF. -/
structure Vf where
  enabled : Bool
  cfg : VfCfg
  pend : VfCfg
  demoted : Bool
  cancelled : Bool
  overruns : Nat
  demotes : BitVec 16
  banked : BitVec 24
  /-- overrun owed at the start of the next slot (R120) -/
  owed : Nat
  lkBase : BitVec 49
  lkSize : BitVec 21
  rpBase : BitVec 48
  rpLost : BitVec 16
  rpFull : Bool
  /-- replay records in use (R225) -/
  rpUsed : List Nat
  armsh : BitVec 11
  tenant : BitVec 16
  croot : BitVec 50
  troot : BitVec 50
  /-- receive counters (R220), listed where not zero -/
  ctrs : List (Nat × DW)
  /-- bucket of R129 and, per link, of R127, in bytes; negative is debt (R128) -/
  hbmBucket : Int
  linkBucket : Vector Int 18
deriving DecidableEq, Repr

/-- R274: one partition's row of the setting table. -/
structure SetRow where
  en : Bool
  clu : BitVec 64
  slc : BitVec 64
  hbm : BitVec 64
  base : BitVec 9
  size : BitVec 9
deriving DecidableEq, Repr

/-- R284: one mailbox. -/
structure Mbx where
  cmd : List Byte
  go : Bool
  /-- the port whose write of MBX_GO started the command (R287) -/
  port : Nat
  res : BitVec 8
  out : Vector W 4
deriving DecidableEq, Repr

/-- R288: the event ring of one PF. -/
structure HaRing where
  base : BitVec 64
  log2n : BitVec 5
  head : W
  tail : W
  nextEv : W
deriving DecidableEq, Repr

/-- R287: a request raised in host-assisted mode. -/
structure HaReq where
  func : Nat
  vf : Nat
  addr : DW
  data : DW
  raisedAt : Nat
  /-- the PF whose ring holds the event, with its number, once written -/
  posted : Option (Nat × W)
  /-- the model's own number of what waits: a fault request, a transition, a queue, a page, a bank -/
  ref_ : Nat
  /-- HATMO when it was raised, in aclk (R286) -/
  tmo : Nat
deriving DecidableEq, Repr

/-- Where a leaf stands, its address space, and the address it maps. -/
structure LeafAt where
  at_ : Nat
  asid : Nat
  va : DW
deriving DecidableEq, Repr

/-- R276: a partition move in progress: the new setting table and the partitions it changes. -/
structure Move where
  rows : Vector SetRow 64
  parts : List Nat
  addr : DW
  /-- the host has still to complete it (R287) -/
  host : Bool
  /-- once the table is rewritten: the leaves, each with its package, of the pages still to migrate -/
  pages : Option (List (Nat × LeafAt))
deriving DecidableEq, Repr

/-- R289: what a flit carries. -/
inductive FlitKind where
  | request | response | data | atomic | credit | keepAlive
deriving DecidableEq, Repr

/-- R289: a flit without its sequence number and its CHK; the last three fields are the model's own (notes/assumptions/18.md). -/
structure Flit where
  vc : Nat
  kind : FlitKind
  dst : Nat
  src : Nat
  addr : DW
  payload : List Byte
  /-- the engine command of whose chunk it is (R290) -/
  cmd : Option Nat := none
  /-- of a mirror update (R194): the package whose write it carries on (R293) -/
  owner : Option Nat := none
  /-- its place among the flits that have been sent: those of one VC from one source to one destination keep it (R291) -/
  ord : Nat := 0
deriving DecidableEq, Repr

/-- R289, R290: one end of a Bubuzar link. -/
structure Link where
  up : Bool
  /-- the sequence numbers of the last flit received and of the next one sent -/
  seq : BitVec 16
  txSeq : BitVec 16
  fails : Nat
  lastRx : Nat
  lastTx : Nat
  /-- credits in use on each virtual channel, and the flits that wait for one, oldest first -/
  used : Vector Nat 6
  wait : List Flit
  /-- the replay buffer: flits sent and not yet accepted at the far end, each with its sequence number, oldest first (R290) -/
  replay : List (BitVec 16 × Flit)
deriving DecidableEq, Repr

/-- R296: the submission registers of one control core. -/
structure XeSub where
  subLo : W
  stLo : W
  stHi : W
deriving DecidableEq, Repr

/-- What firmware and fuses supply to bring-up (R6, R10, R298, R299). -/
structure Boot where
  harvest : List Nat
  serial : Nat
  image : List Byte
  staged : Option (List Byte)
  sets : Vector SetRow 64
  slotlen : BitVec 24
  vfs : Vector Vf 128
  evec : W
  ccCode : DW
  croot : BitVec 50
  troot : BitVec 50
deriving DecidableEq, Repr

/-- R282: the hardware semaphore. -/
structure Hsem where
  holder : Nat
  since : Nat
  tmo : BitVec 16
  broken0 : Bool
  broken1 : Bool
deriving DecidableEq, Repr

/-- R115: the frame registers in force and pending. -/
structure Slt where
  en : Bool
  swap : Bool
  active : Bool
  cfgerr : Bool
  swaperr : Bool
  slot : BitVec 6
  errslot : BitVec 6
  errpart : BitVec 6
  slotlen : BitVec 24
  lead : BitVec 21
  dmax : BitVec 21
  pSlotlen : BitVec 24
  pLead : BitVec 21
  pDmax : BitVec 21
  tbl0 : Vector (Vector Byte 64) 64
  tbl1 : Vector (Vector Byte 64) 64
  /-- aclk at which the current frame began, and at which the first frame since EN was set did (R118) -/
  frameAt : Nat
  enAt : Nat
deriving DecidableEq, Repr

/-- R279, R286, R191, R300: the remaining registers of the MP space. -/
structure MpRegs where
  pfs : Bool
  res : Bool
  ret : Bool
  coh : Bool
  plr : Bool
  pmv : Bool
  hatmo : BitVec 16
  fallback : Bool
  watts : BitVec 12
  gated : BitVec 8
  window : BitVec 16
  pgthr : BitVec 4
  bkthr : BitVec 4
  errCe : W
  errUe : W
  pages : BitVec 16
  banks : BitVec 8
  log2q : BitVec 5
deriving DecidableEq, Repr

/-- One package. -/
structure Pkg where
  num : Nat
  /-- R17, R291: the package that holds the mirror of this package's home half -/
  mirror : Nat
  /-- it is a member of a domain (R291, R299 step 5) -/
  formed : Bool
  recovery : Bool
  boot : Boot
  clk0 : Nat
  slt : Slt
  vfs : Vector Vf 128
  sets : Vector SetRow 64
  parts : Vector Part 64
  move : Option Move
  mp : MpRegs
  hsem : Hsem
  pfMbx : Mbx
  vfMbx : Vector Mbx 128
  ha : Vector HaRing 2
  haReqs : List HaReq
  xeSub : Vector XeSub 16
  queues : List Queue
  faults : List FaultReq
  transit : List Transit
  tlb : List Tlb
  walks : List WalkEnt
  l1 : List L1Line
  hard : List HardCopy
  dirUnits : List DirUnit
  dirOwners : List DirOwner
  lk : List LkCopy
  /-- SRAM splits of the cores that hold crews (R138) -/
  split : List CoreSplit
  asleep : List Nat
  /-- copy engines with the aclk from which each may move its next bytes (R196) -/
  ceFree : List (Nat × Nat)
  links : Vector Link 18
  /-- peers to which every route has been down, with the aclk since when (R292) -/
  unreach : List (Nat × Nat)
  /-- correctable errors logged per 64 KiB page, newest first (R279), and retired pages -/
  ceLog : List (Nat × Nat)
  retired : List Nat
  /-- HBM banks retired whole (R279) -/
  banksGone : List Nat
  /-- SPDM state per port: version and algorithms negotiated (R283) -/
  spdm : Vector Nat 2
deriving DecidableEq, Repr

/-- What the package sends out or records for the host and firmware, newest first in `State.out`. -/
inductive Out where
  /-- an MSI-X vector of a PF (R288) -/
  | msix (pkg port vector : Nat)
  /-- a firmware event (R106, R120, R296), by cause, VF and a value -/
  | firmware (pkg cause vf : Nat) (val : DW)
  /-- R106: a completion write that could not be made -/
  | lostWrite (pkg queue rec_ : Nat) (addr : DW) (cause : Nat)
  /-- data returned to a host port's read (R195, R281) -/
  | readData (pkg port : Nat) (bytes : List Byte)
  /-- Configuration Request Retry Status, returned to a host port before the package's bring-up has come to step 6 (R299) -/
  | retry (pkg port : Nat)
  /-- an SPDM response (R283) -/
  | spdm (pkg port code : Nat) (bytes : List Byte)
  /-- a flit put on a link (R289) -/
  | flit (pkg link : Nat) (bytes : List Byte)
deriving DecidableEq, Repr

/-- Events that a clock brings about (DESIGN CHOICE, notes/assumptions/5.md). -/
inductive Due where
  | frame (pkg : Nat)
  | edge (pkg part : Nat)
  | lead (pkg part : Nat)
  | sweep (pkg : Nat)
  | scan (pkg : Nat)
  | links (pkg : Nat)
  | hbm (pkg : Nat)
  | sample (launch : Nat)
  | scrub (pkg : Nat)
  | alive (pkg link : Nat)
deriving DecidableEq, Repr

/-- Who takes the next step when the agenda says so (DESIGN CHOICE, notes/assumptions/5.md). -/
inductive Turn where
  /-- this slot of this agent issues its next word (false: primary) -/
  | issue (agent : Nat) (slot : Bool)
  /-- this event of the opcode table comes about -/
  | event (i : Instr)
  /-- a periodic event is due -/
  | due (d : Due)
  /-- a control core's write reaches this register of the MP space (R281) -/
  | mmio (pkg off : Nat) (val : W)
  /-- a control core's write of XE_SUB_HI submits a block (R296) -/
  | submit (pkg core : Nat) (hi : W)
  /-- the host directs a migration: a partition is quiesced, or goes on (R272) -/
  | migrate (pkg part : Nat) (stop : Bool)
  /-- a host port reads `len` bytes of registers: of the VF's window, else of the MP space (R281) -/
  | hostRead (pkg port : Nat) (vf : Option Nat) (off len : Nat)
  /-- a flit that the far end has sent arrives on a link (R289) -/
  | flit (pkg link : Nat) (bytes : List Byte)
  /-- firmware or the host fills a page-transit entry and writes TRANSIT into the leaf (R157) -/
  | transitFill (pkg : Nat) (leaf : DW) (inst leafAt asid : Nat) (va : DW)
deriving DecidableEq, Repr

/-- The side whose word `exec` carries out, and the word. -/
structure Cursor where
  agent : Nat
  slot : Bool
  raw : W
  len : Nat
  /-- the side has left its slot, in which another may stand now (R73) -/
  left : Bool
deriving DecidableEq, Repr

/-- The state of a load-store domain. -/
structure State where
  ctl : Mem
  ten : Mem
  host : Mem
  /-- poisoned 4-byte granules (R277), as ranges of granule numbers [lo, hi), rising and apart -/
  ctlPoison : List (Nat × Nat)
  tenPoison : List (Nat × Nat)
  pkgs : List Pkg
  agents : List Agent
  crews : List Crew
  launches : List Launch
  cmds : List Cmd
  mmas : List MmaReq
  accRes : List MmaRes
  insts : List Inst
  cohTrs : List CohTr
  tlbInvs : List TlbInv
  merges : List PendMerge
  incs : List PendInc
  /-- host accesses that wait, oldest first (R189, R195) -/
  hostQ : List HostReq
  /-- flits that packages have still to send, each with the package that sends or forwards it, oldest first (R289, R291) -/
  traffic : List (Nat × Flit)
  /-- peers found lost, each with the package that found it, before the survivors agree (R292) -/
  detected : List (Nat × Nat)
  /-- lost packages, and those of them whose homes are not yet promoted (R292, R293) -/
  lost : List Nat
  promoting : List Nat
  /-- control home of each package's lines after promotion (R293): (package, new home) -/
  homes : List (Nat × Nat)
  /-- homes whose mirror copy is still being rebuilt (R293) -/
  rebuilding : List Nat
  /-- groups whose divergence-stack area an access has reached (R71) -/
  strayed : List Nat
  /-- the leaves that a page-fault service or a return copy has written, each with the length of `State.wlog` then (R266, R306) -/
  served : List (Nat × Nat)
  /-- the code pages that were written while a launch that fetched from them ran (R306) -/
  spoiled : List CodePage
  aclk : Nat
  /-- the issue schedulers that have issued in this aclk, each with the agent and the slot it issued from, none where that side
  has left it since (R112) -/
  issued : List (Nat × Nat × Option Bool)
  /-- the next number for an agent, crew, gang, launch, instance, request or message -/
  nextId : Nat
  /-- counter of the free values drawn so far (the model's own field) -/
  free : Nat
  /-- the writes of memory and scratchpad bytes so far, newest first (the model's own field) -/
  wlog : List Wrote
  agenda : List Turn
  cur : Option Cursor
  out : List Out
deriving DecidableEq, Repr

/-! ### Reset -/

/-- R116: the reset values of a VF's configuration. -/
def VfCfg.reset : VfCfg :=
  { l2ways := 0, linksh := 0, hbmsh := 0, part := 0, scopecap := false, donee := 0xFF, bank := 0, qslots := 0 }

/-- R116, R220, R224, R247, R489: a VF at reset. -/
def Vf.reset : Vf :=
  { enabled := false, cfg := VfCfg.reset, pend := VfCfg.reset, demoted := false, cancelled := false, overruns := 0,
    demotes := 0, banked := 0, owed := 0, lkBase := 0, lkSize := 0, rpBase := 0, rpLost := 0, rpFull := false,
    rpUsed := [], armsh := 8, tenant := 0, croot := 0, troot := 0, ctrs := [], hbmBucket := 0,
    linkBucket := Vector.replicate 18 0 }

/-- R274: a partition that does not exist. -/
def SetRow.reset : SetRow := { en := false, clu := 0, slc := 0, hbm := 0, base := 0, size := 0 }

/-- R118: a partition that no VF owns. -/
def Part.reset : Part :=
  { phase := .idle, owner := none, incoming := none, cause := .edge, edgeAt := 0, idleFrom := 0, busy := false,
    runFrom := 0, slackOf := none, startAt := 0, late := 0, slackEnd := 0, ce := none, held := false, leadTo := 0 }

/-- R284: an empty mailbox. -/
def Mbx.reset : Mbx := { cmd := List.replicate 64 0, go := false, port := 0, res := 0, out := Vector.replicate 4 0 }

/-- R288: the event-ring registers at reset. -/
def HaRing.reset : HaRing := { base := 0, log2n := 0, head := 0, tail := 0, nextEv := 1 }

/-- R10: what fuses and firmware supply, as the model presumes it (DESIGN CHOICE, notes/assumptions/3.md). -/
def Boot.reset : Boot :=
  { harvest := [7, 15, 23, 31], serial := 0, image := [], staged := none, sets := Vector.replicate 64 SetRow.reset,
    slotlen := 130000, vfs := Vector.replicate 128 Vf.reset, evec := 0, ccCode := 0, croot := 0, troot := 0 }

/-- R289: a link that is down. -/
def Link.reset : Link :=
  { up := false, seq := 0, txSeq := 0, fails := 0, lastRx := 0, lastTx := 0, used := Vector.replicate 6 0, wait := [],
    replay := [] }

/-- R114, R115: the Bezel registers at reset. -/
def Slt.reset : Slt :=
  { en := false, swap := false, active := false, cfgerr := false, swaperr := false, slot := 0, errslot := 0,
    errpart := 0, slotlen := 130000, lead := 13000, dmax := 65000, pSlotlen := 130000, pLead := 13000, pDmax := 65000,
    tbl0 := Vector.replicate 64 (Vector.replicate 64 0), tbl1 := Vector.replicate 64 (Vector.replicate 64 0),
    frameAt := 0, enAt := 0 }

/-- R191, R279, R286, R300: the other MP registers at reset. -/
def MpRegs.reset : MpRegs :=
  { pfs := false, res := false, ret := false, coh := false, plr := false, pmv := false, hatmo := 1000,
    fallback := false, watts := 2400, gated := 0, window := 600, pgthr := 8, bkthr := 3, errCe := 0, errUe := 0,
    pages := 0, banks := 0, log2q := 20 }

/-- A package at reset, numbered 0; its domain is not formed yet (R299 step 5). -/
def Pkg.reset : Pkg :=
  { num := 0, mirror := 0, formed := false, recovery := false, boot := Boot.reset, clk0 := 0, slt := Slt.reset,
    vfs := Vector.replicate 128 Vf.reset, sets := Vector.replicate 64 SetRow.reset,
    parts := Vector.replicate 64 Part.reset, move := none, mp := MpRegs.reset,
    hsem := { holder := 0, since := 0, tmo := 100, broken0 := false, broken1 := false },
    pfMbx := Mbx.reset, vfMbx := Vector.replicate 128 Mbx.reset, ha := Vector.replicate 2 HaRing.reset, haReqs := [],
    xeSub := Vector.replicate 16 { subLo := 0, stLo := 0, stHi := 0 }, queues := [], faults := [], transit := [],
    tlb := [], walks := [], l1 := [], hard := [], dirUnits := [], dirOwners := [], lk := [], split := [], asleep := [], ceFree := [],
    links := Vector.replicate 18 Link.reset, unreach := [],
    ceLog := [], retired := [], banksGone := [], spdm := Vector.replicate 2 0 }

/-- A clause point at a header. -/
def ClausePt.at (a : DW) : ClausePt := { hdr := a, head := 0, pos := 0, count := 0, cls := .alu, opr := false, marks := [], loose := [] }

/-- A side that stands at a header with these lanes and this fmt (R66, R70). -/
def Side.at (mask : W) (a : DW) (fmt : W) : Side :=
  { mask := mask, pt := ClausePt.at a, fmt := fmt, inHandler := false, ret := ClausePt.at 0, retLen := 1,
    stall := none, began := none, ahead := false, hold := none, waited := 0, starved := false }

/-- R66: a group's register state at its start, before the dispatcher fills in its place; also the register state
of a control core at reset (DESIGN CHOICE, notes/assumptions/3.md). -/
def Agent.blank : Agent :=
  { id := 0, pkg := 0, cc := none, vf := 0, crew := 0, grp := 0, launch := 0, stage := 0, core := 0, sched := 0,
    prio := 0, age := 0, prim := none, sec := none, stack := [],
    v := Vector.replicate 128 (Vector.replicate 32 0), vpoison := [], vcount := 0, vlast := [],
    s := Vector.replicate 64 0,
    p := Vector.replicate 7 0, h := Vector.replicate 16 .idle, lksel := 0, errtrap := false, clkhi := 0,
    tcause := 0, tpc := 0, tdata := 0, frecs := [], nregs := 0, divmax := 64, code := 0, trapvec := 0, widths := [],
    wf := Vector.replicate 6 0, we := Vector.replicate 6 0, shape := Vector.replicate 4 0, bucket := 0,
    marked := false, waited := 0, saved := false }

/-- R295, R299: control core k of package `pkg`, halted until bring-up starts it (`start`: running at EVEC). -/
def Agent.controlCore (b : Boot) (pkg k : Nat) (start : Bool) : Agent :=
  { Agent.blank with
    id := pkg * 16 + k
    pkg := pkg
    vf := 0x80
    core := k
    age := k
    code := b.ccCode
    prim := some (Side.at 1 (b.ccCode + b.evec.setWidth 64) 0)
    cc := some { num := k, supervisor := true, halted := !start, evec := b.evec, epc := 0, ecause := 0, prev := false,
                 edata := 0, croot := b.croot, troot := b.troot, asid := 0x80, subs := [] } }

/-- The domain right after reset: one package, its registers at their reset values, its sixteen control cores halted
(R299; DESIGN CHOICE,
notes/assumptions/3.md), nothing in memory. -/
def State.reset : State :=
  { ctl := [], ten := [], host := [], ctlPoison := [], tenPoison := [], pkgs := [Pkg.reset],
    agents := (List.range 16).map (fun k => Agent.controlCore Boot.reset 0 k false),
    crews := [], launches := [], cmds := [], mmas := [], accRes := [], insts := [], cohTrs := [], tlbInvs := [], merges := [],
    incs := [], hostQ := [], traffic := [], detected := [], lost := [], promoting := [], homes := [], rebuilding := [], strayed := [], served := [], spoiled := [], aclk := 0, issued := [],
    nextId := 8192, free := 0, wlog := [], agenda := [], cur := none, out := [] }

end Sys2Proof.Machine
end

