-- ==== Sys2Proof/Decode.lean ====
section
/-!
DEFINITION. Sys2Proof/Decode.lean: the decoder of R307 to R321 (total on any word of any class, refusing by name),
the clause header of R301 and R303, and the encoder of the same tables.
-/
namespace Sys2Proof

/-! ### Word formats (R307): the fields of a word, and the word of its fields -/

/-- Format A. -/
structure FmtA where
  op : BitVec 7
  g : BitVec 3
  sb : BitVec 1
  d : BitVec 7
  a : BitVec 7
  b : BitVec 7
deriving DecidableEq, Repr

/-- Format C. -/
structure FmtC where
  op : BitVec 7
  g : BitVec 3
  ov : BitVec 2
  rm : BitVec 2
  tf : BitVec 4
  d : BitVec 7
  a : BitVec 7
deriving DecidableEq, Repr

/-- Format P. -/
structure FmtP where
  op : BitVec 7
  g : BitVec 3
  pd : BitVec 3
  cc : BitVec 4
  sb : BitVec 1
  a : BitVec 7
  b : BitVec 7
deriving DecidableEq, Repr

/-- Format M. -/
structure FmtM where
  op : BitVec 7
  g : BitVec 3
  q : BitVec 3
  base : BitVec 5
  x : BitVec 7
  off : BitVec 7
deriving DecidableEq, Repr

/-- Format T. -/
structure FmtT where
  op : BitVec 7
  g : BitVec 3
  da : BitVec 5
  db : BitVec 5
  acc : BitVec 7
  h : BitVec 4
  f : BitVec 1
deriving DecidableEq, Repr

/-- Format E. -/
structure FmtE where
  op : BitVec 7
  g : BitVec 3
  cb : BitVec 5
  h : BitVec 4
  fl : BitVec 13
deriving DecidableEq, Repr

/-- Format B. -/
structure FmtB where
  op : BitVec 7
  g : BitVec 3
  offs : BitVec 22
deriving DecidableEq, Repr

/-- Format S. -/
structure FmtS where
  op : BitVec 7
  g : BitVec 3
  sel : BitVec 8
  d : BitVec 7
  a : BitVec 7
deriving DecidableEq, Repr

def FmtA.word (f : FmtA) : W := f.op ++ f.g ++ f.sb ++ f.d ++ f.a ++ f.b
def FmtC.word (f : FmtC) : W := f.op ++ f.g ++ f.ov ++ f.rm ++ f.tf ++ f.d ++ f.a
def FmtP.word (f : FmtP) : W := f.op ++ f.g ++ f.pd ++ f.cc ++ f.sb ++ f.a ++ f.b
def FmtM.word (f : FmtM) : W := f.op ++ f.g ++ f.q ++ f.base ++ f.x ++ f.off
def FmtT.word (f : FmtT) : W := f.op ++ f.g ++ f.da ++ f.db ++ f.acc ++ f.h ++ f.f
def FmtE.word (f : FmtE) : W := f.op ++ f.g ++ f.cb ++ f.h ++ f.fl
def FmtB.word (f : FmtB) : W := f.op ++ f.g ++ f.offs
def FmtS.word (f : FmtS) : W := f.op ++ f.g ++ f.sel ++ f.d ++ f.a

def FmtA.of (w : W) : FmtA :=
  { op := w.extractLsb' 25 7, g := w.extractLsb' 22 3, sb := w.extractLsb' 21 1, d := w.extractLsb' 14 7,
    a := w.extractLsb' 7 7, b := w.extractLsb' 0 7 }
def FmtC.of (w : W) : FmtC :=
  { op := w.extractLsb' 25 7, g := w.extractLsb' 22 3, ov := w.extractLsb' 20 2, rm := w.extractLsb' 18 2,
    tf := w.extractLsb' 14 4, d := w.extractLsb' 7 7, a := w.extractLsb' 0 7 }
def FmtP.of (w : W) : FmtP :=
  { op := w.extractLsb' 25 7, g := w.extractLsb' 22 3, pd := w.extractLsb' 19 3, cc := w.extractLsb' 15 4,
    sb := w.extractLsb' 14 1, a := w.extractLsb' 7 7, b := w.extractLsb' 0 7 }
def FmtM.of (w : W) : FmtM :=
  { op := w.extractLsb' 25 7, g := w.extractLsb' 22 3, q := w.extractLsb' 19 3, base := w.extractLsb' 14 5,
    x := w.extractLsb' 7 7, off := w.extractLsb' 0 7 }
def FmtT.of (w : W) : FmtT :=
  { op := w.extractLsb' 25 7, g := w.extractLsb' 22 3, da := w.extractLsb' 17 5, db := w.extractLsb' 12 5,
    acc := w.extractLsb' 5 7, h := w.extractLsb' 1 4, f := w.extractLsb' 0 1 }
def FmtE.of (w : W) : FmtE :=
  { op := w.extractLsb' 25 7, g := w.extractLsb' 22 3, cb := w.extractLsb' 17 5, h := w.extractLsb' 13 4,
    fl := w.extractLsb' 0 13 }
def FmtB.of (w : W) : FmtB :=
  { op := w.extractLsb' 25 7, g := w.extractLsb' 22 3, offs := w.extractLsb' 0 22 }
def FmtS.of (w : W) : FmtS :=
  { op := w.extractLsb' 25 7, g := w.extractLsb' 22 3, sel := w.extractLsb' 14 8, d := w.extractLsb' 7 7,
    a := w.extractLsb' 0 7 }

/-! ### What decoding answers -/

/-- The outcome of decoding one word: an instruction and the words it takes, or why there is none, in the order of
R316. -/
inductive Decoded where
  /-- the instruction and its length in words, literal or extension word included -/
  | ok (i : Instr) (len : Nat)
  /-- R316 order 1: the literal or extension word lies beyond the clause -/
  | needExt
  /-- R316 order 2: ILLEGAL_INSTR -/
  | illegal
  /-- R241 order 1: ILLEGAL_INSTR of an MMA word, whose TRAPDATA is 0 -/
  | illegalMma
deriving DecidableEq, Repr

/-- An operand that may need the next word. -/
inductive Opd (α : Type) where
  | ok (x : α) (len : Nat)
  | needExt
  | illegal
deriving DecidableEq, Repr

/-- The operand's instruction, once the rest of the word is checked. -/
def Opd.fin {α : Type} (o : Opd α) (k : α → Option Instr) : Decoded :=
  match o with
  | .ok x n =>
    match k x with
    | some i => .ok i n
    | none => .illegal
  | .needExt => .needExt
  | .illegal => .illegal

/-- A word without literal or extension word. -/
def Decoded.one (i : Option Instr) : Decoded :=
  match i with
  | some i => .ok i 1
  | none => .illegal

/-- R308: a scalar register in a 7-bit field, whose bit 6 must be zero. -/
def sreg (r : BitVec 7) : Option SReg := if r.extractLsb' 6 1 = 0 then some (r.extractLsb' 0 6) else none

/-- R308: the first register of a pair. -/
def evenReg {n : Nat} (r : BitVec n) : Bool := r.toNat % 2 == 0

/-- R309: operand B of a vector form. -/
def vsrc (sb : BitVec 1) (b : BitVec 7) (ext : Option W) : Opd VSrc :=
  if sb = 0 then .ok (.v b) 1
  else if b = 0x7F then
    match ext with
    | some w => .ok (.lit w) 2
    | none => .needExt
  else
    match sreg b with
    | some r => .ok (.s r) 1
    | none => .illegal

/-- R309: operand B of a scalar form. -/
def ssrc (sb : BitVec 1) (b : BitVec 7) (ext : Option W) : Opd SSrc :=
  if sb = 0 then
    match sreg b with
    | some r => .ok (.s r) 1
    | none => .illegal
  else if b = 0x7F then
    match ext with
    | some w => .ok (.lit w) 2
    | none => .needExt
  else .illegal

/-- R254, R434, R467, R468, R439: operand B of a vector word whose SB must be 1. -/
def ctlsrc (sb : BitVec 1) (b : BitVec 7) (ext : Option W) : Opd SSrc :=
  if sb = 0 then .illegal
  else if b = 0x7F then
    match ext with
    | some w => .ok (.lit w) 2
    | none => .needExt
  else
    match sreg b with
    | some r => .ok (.s r) 1
    | none => .illegal

/-- R311: the offset of a vector form. -/
def voff (off : BitVec 7) (ext : Option W) : Opd VOff :=
  if off = 0x7F then
    match ext with
    | some w =>
      .ok (.ext (w.extractLsb' 7 25) (if w.extractLsb' 0 7 = 0x7F then none else some (w.extractLsb' 0 7))) 2
    | none => .needExt
  else .ok (.reg off) 1

/-- R311: the offset of a scalar form. -/
def soff (off : BitVec 7) (ext : Option W) : Opd SOff :=
  if off = 0x7F then
    match ext with
    | some w =>
      if w.extractLsb' 0 7 = 0x7F then .ok (.ext (w.extractLsb' 7 25) none) 2
      else
        match sreg (w.extractLsb' 0 7) with
        | some r => .ok (.ext (w.extractLsb' 7 25) (some r)) 2
        | none => .illegal
    | none => .needExt
  else
    match sreg off with
    | some r => .ok (.reg r) 1
    | none => .illegal

/-- R409, R380: a 64-bit B operand in a vector form names an even register or a literal. -/
def VSrc.pairOk (b : VSrc) : Bool :=
  match b with
  | .v r => evenReg r
  | .s r => evenReg r
  | .lit _ => true

/-- R409: a 64-bit B operand of a scalar form names an even register or a literal. -/
def SSrc.pairOk (b : SSrc) : Bool :=
  match b with
  | .s r => evenReg r
  | .lit _ => true

/-- R313: the relation an ICMP's CC names. -/
def icond (cc : BitVec 4) : Option ICond :=
  match cc.toNat with
  | 0 => some .eq | 1 => some .ne | 2 => some .lt | 3 => some .le | 4 => some .gt | 5 => some .ge
  | 8 => some .ltn | 9 => some .len | 10 => some .gtn | 11 => some .gen | _ => none

/-- R313: the relation an FCMP's CC names. -/
def fcond (cc : BitVec 4) : Option FCond :=
  match cc.toNat with
  | 0 => some .eq | 1 => some .ne | 2 => some .lt | 3 => some .le | 4 => some .gt | 5 => some .ge
  | 8 => some .ltn | 9 => some .len | 10 => some .gtn | 11 => some .gen | 12 => some .un | 13 => some .ord
  | _ => none

/-- R469: the operation a VRED or VSCAN names. -/
def redOp (o : BitVec 4) : Option RedOp :=
  match o.toNat with
  | 0 => some .sumI | 1 => some .sumF | 2 => some .minI | 3 => some .minN | 4 => some .minF
  | 5 => some .maxI | 6 => some .maxN | 7 => some .maxF | 8 => some .and | 9 => some .or | 10 => some .xor
  | _ => none

/-- R370: whether a CVT from `src` may name the target `tf`. -/
def cvtTarget (src tf : Fmt) : Bool := tf != .e2m1x && tf != .int4g && tf != src

/-- R308: a 64-bit format sits in an even register. -/
def fmtRegOk (f : Fmt) (r : VReg) : Bool := f != .fp64 || evenReg r

/-! ### Class ALU (R318) -/

def vBin (c : Pred → VReg → VReg → VSrc → Instr) (w : W) (ext : Option W) : Decoded :=
  let f := FmtA.of w
  (vsrc f.sb f.b ext).fin (fun b => some (c f.g f.d f.a b))

def vBinD (c : Pred → VReg → VReg → VSrc → Instr) (w : W) (ext : Option W) : Decoded :=
  let f := FmtA.of w
  (vsrc f.sb f.b ext).fin (fun b =>
    if evenReg f.d && evenReg f.a && b.pairOk then some (c f.g f.d f.a b) else none)

def sBin (c : Pred → SReg → SReg → SSrc → Instr) (w : W) (ext : Option W) : Decoded :=
  let f := FmtA.of w
  (ssrc f.sb f.b ext).fin (fun b =>
    match sreg f.d, sreg f.a with
    | some d, some a => some (c f.g d a b)
    | _, _ => none)

def sBinD (c : Pred → SReg → SReg → SSrc → Instr) (w : W) (ext : Option W) : Decoded :=
  let f := FmtA.of w
  (ssrc f.sb f.b ext).fin (fun b =>
    match sreg f.d, sreg f.a with
    | some d, some a => if evenReg d && evenReg a && b.pairOk then some (c f.g d a b) else none
    | _, _ => none)

def vUn (c : Pred → VReg → VSrc → Instr) (w : W) (ext : Option W) : Decoded :=
  let f := FmtA.of w
  (vsrc f.sb f.b ext).fin (fun b => if f.a = 0 then some (c f.g f.d b) else none)

def sUn (c : Pred → SReg → SSrc → Instr) (w : W) (ext : Option W) : Decoded :=
  let f := FmtA.of w
  (ssrc f.sb f.b ext).fin (fun b =>
    match sreg f.d with
    | some d => if f.a = 0 then some (c f.g d b) else none
    | none => none)

def icmpV (c : Pred → Pred → ICond → VReg → VSrc → Instr) (w : W) (ext : Option W) : Decoded :=
  let f := FmtP.of w
  (vsrc f.sb f.b ext).fin (fun b => (icond f.cc).map (fun cc => c f.g f.pd cc f.a b))

def icmpS (c : Pred → Pred → ICond → SReg → SSrc → Instr) (w : W) (ext : Option W) : Decoded :=
  let f := FmtP.of w
  (ssrc f.sb f.b ext).fin (fun b =>
    match icond f.cc, sreg f.a with
    | some cc, some a => some (c f.g f.pd cc a b)
    | _, _ => none)

def fcmp (c : Pred → Pred → FCond → VReg → VSrc → Instr) (w : W) (ext : Option W) : Decoded :=
  let f := FmtP.of w
  (vsrc f.sb f.b ext).fin (fun b => (fcond f.cc).map (fun cc => c f.g f.pd cc f.a b))

def fcmpD (c : Pred → Pred → FCond → VReg → VSrc → Instr) (w : W) (ext : Option W) : Decoded :=
  let f := FmtP.of w
  (vsrc f.sb f.b ext).fin (fun b =>
    if evenReg f.a && b.pairOk then (fcond f.cc).map (fun cc => c f.g f.pd cc f.a b) else none)

/-- R438: PLOP's own fields of format P. -/
def plop (c : Pred → Pred → BitVec 4 → Pred → Pred → Instr) (w : W) (_ : Option W) : Decoded :=
  let f := FmtP.of w
  Decoded.one (if f.sb = 0 ∧ f.a.extractLsb' 3 4 = 0 ∧ f.b.extractLsb' 3 4 = 0 then
    some (c f.g f.pd f.cc (f.a.extractLsb' 0 3) (f.b.extractLsb' 0 3)) else none)

/-- R338. -/
def ballot (c : Pred → SReg → Pred → Instr) (w : W) (_ : Option W) : Decoded :=
  let f := FmtA.of w
  Decoded.one (match sreg f.d with
    | some d => if f.sb = 0 ∧ f.a = 0 ∧ f.b.extractLsb' 3 4 = 0 then some (c f.g d (f.b.extractLsb' 0 3)) else none
    | none => none)

/-- R370, R371. -/
def cvt (c : Pred → Ov → Rm → Fmt → VReg → VReg → Instr) (src : Fmt) (w : W) (_ : Option W) : Decoded :=
  let f := FmtC.of w
  Decoded.one (match Fmt.ofCode f.tf.toNat with
    | some tf =>
      if cvtTarget src tf && fmtRegOk src f.a && fmtRegOk tf f.d then
        some (c f.g (Ov.ofCode f.ov.toNat) (Rm.ofCode f.rm.toNat) tf f.d f.a)
      else none
    | none => none)

def vCtl (c : Pred → VReg → VReg → SSrc → Instr) (w : W) (ext : Option W) : Decoded :=
  let f := FmtA.of w
  (ctlsrc f.sb f.b ext).fin (fun b => some (c f.g f.d f.a b))

/-- R469. -/
def vred (c : Pred → SReg → VReg → RedOp → Instr) (w : W) (_ : Option W) : Decoded :=
  let f := FmtA.of w
  Decoded.one (match sreg f.d, redOp (f.b.extractLsb' 0 4) with
    | some d, some o => if f.sb = 0 ∧ f.b.extractLsb' 4 3 = 0 then some (c f.g d f.a o) else none
    | _, _ => none)

/-- R469. -/
def vscan (c : Pred → VReg → VReg → Bool → RedOp → Instr) (w : W) (_ : Option W) : Decoded :=
  let f := FmtA.of w
  Decoded.one (match redOp (f.b.extractLsb' 0 4) with
    | some o =>
      if f.sb = 0 ∧ f.b.extractLsb' 4 2 = 0 then some (c f.g f.d f.a (f.b.extractLsb' 6 1 == 1) o) else none
    | none => none)

/-- R468. -/
def vminx (c : Pred → SReg → VReg → SSrc → Instr) (w : W) (ext : Option W) : Decoded :=
  let f := FmtA.of w
  (ctlsrc f.sb f.b ext).fin (fun b =>
    match sreg f.d with
    | some d => if evenReg d then some (c f.g d f.a b) else none
    | none => none)

/-- R439: the four modes of PMOV, selected by A. -/
def pmov (w : W) (ext : Option W) : Decoded :=
  let f := FmtA.of w
  match f.a.toNat with
  | 0 => Decoded.one (if f.sb = 0 ∧ f.b = 0 then some (.pmovGet f.g f.d) else none)
  | 1 => (vsrc f.sb f.b ext).fin (fun b => if f.d = 0 then some (.pmovPut f.g b) else none)
  | 2 => (vsrc f.sb f.b ext).fin (fun b =>
      if f.d.extractLsb' 3 4 = 0 then some (.pmovNz f.g (f.d.extractLsb' 0 3) b) else none)
  | 3 => (ctlsrc f.sb f.b ext).fin (fun b =>
      if f.d.extractLsb' 3 4 = 0 then some (.pmovMask f.g (f.d.extractLsb' 0 3) b) else none)
  | _ => .illegal

/-- R317, R429: NOP in any class. -/
def nopWord (w : W) : Decoded := Decoded.one (if w.extractLsb' 0 25 = 0 then some .nop else none)

/-- R318: class ALU by opcode. -/
def decodeAlu (w : W) (ext : Option W) : Decoded :=
  match (w.extractLsb' 25 7).toNat with
  | 0 => vBin .iaddV w ext
  | 1 => sBin .iaddS w ext
  | 2 => vBinD .iaddDV w ext
  | 3 => sBinD .iaddDS w ext
  | 4 => vBin .isubV w ext
  | 5 => sBin .isubS w ext
  | 6 => vBinD .isubDV w ext
  | 7 => sBinD .isubDS w ext
  | 8 => vBin .imulV w ext
  | 9 => sBin .imulS w ext
  | 10 => vBin .imulhIV w ext
  | 11 => sBin .imulhIS w ext
  | 12 => vBin .imulhNV w ext
  | 13 => sBin .imulhNS w ext
  | 14 => vBin .imadV w ext
  | 15 => sBin .imadS w ext
  | 16 => vBin .iminIV w ext
  | 17 => sBin .iminIS w ext
  | 18 => vBin .iminNV w ext
  | 19 => sBin .iminNS w ext
  | 20 => vBin .imaxIV w ext
  | 21 => sBin .imaxIS w ext
  | 22 => vBin .imaxNV w ext
  | 23 => sBin .imaxNS w ext
  | 24 => vUn .iabsV w ext
  | 25 => sUn .iabsS w ext
  | 26 => vBin .andV w ext
  | 27 => sBin .andS w ext
  | 28 => vBin .orV w ext
  | 29 => sBin .orS w ext
  | 30 => vBin .xorV w ext
  | 31 => sBin .xorS w ext
  | 32 => vUn .notV w ext
  | 33 => sUn .notS w ext
  | 34 => vBin .shlV w ext
  | 35 => sBin .shlS w ext
  | 36 => vBin .shrV w ext
  | 37 => sBin .shrS w ext
  | 38 => vBin .sarV w ext
  | 39 => sBin .sarS w ext
  | 40 => vBin .rotV w ext
  | 41 => sBin .rotS w ext
  | 42 => vUn .popcV w ext
  | 43 => sUn .popcS w ext
  | 44 => vUn .clzV w ext
  | 45 => sUn .clzS w ext
  | 46 => vUn .brevV w ext
  | 47 => sUn .brevS w ext
  | 48 => vBin .bfeNV w ext
  | 49 => sBin .bfeNS w ext
  | 50 => vBin .bfeIV w ext
  | 51 => sBin .bfeIS w ext
  | 52 => vBin .bfiV w ext
  | 53 => sBin .bfiS w ext
  | 54 => vBin .selV w ext
  | 55 => sBin .selS w ext
  | 56 => vUn .movV w ext
  | 57 => sUn .movS w ext
  | 58 => icmpV .icmpV w ext
  | 59 => icmpS .icmpS w ext
  | 60 => fcmp .fcmpF32 w ext
  | 61 => fcmpD .fcmpF64 w ext
  | 62 => plop .plop w ext
  | 63 => ballot .ballot w ext
  | 64 => vBin .faddF32V w ext
  | 65 => sBin .faddF32S w ext
  | 66 => vBinD .faddF64 w ext
  | 67 => vBin .faddH2 w ext
  | 68 => vBin .faddB2 w ext
  | 69 => vBin .fsubF32 w ext
  | 70 => vBinD .fsubF64 w ext
  | 72 => vBin .fmulF32V w ext
  | 73 => sBin .fmulF32S w ext
  | 74 => vBinD .fmulF64 w ext
  | 75 => vBin .fmulH2 w ext
  | 76 => vBin .fmulB2 w ext
  | 80 => vBin .ffmaF32V w ext
  | 81 => sBin .ffmaF32S w ext
  | 82 => vBinD .ffmaF64 w ext
  | 83 => vBin .ffmaH2 w ext
  | 84 => vBin .ffmaB2 w ext
  | 85 => vBin .fminF32 w ext
  | 86 => vBin .fmaxF32 w ext
  | 87 => vBinD .fminF64 w ext
  | 88 => vBinD .fmaxF64 w ext
  | 89 => vBin .fdot2 w ext
  | 90 => vUn .frcp w ext
  | 91 => vUn .frsq w ext
  | 92 => vUn .fsqrt w ext
  | 93 => vUn .fex2 w ext
  | 94 => vUn .flg2 w ext
  | 96 => vUn .fsin w ext
  | 97 => vUn .fcos w ext
  | 98 => cvt .cvtFromF32 .fp32 w ext
  | 99 => vCtl .qnt w ext
  | 100 => vCtl .unpk w ext
  | 101 => vCtl .pack w ext
  | 102 => vBin .shflIdx w ext
  | 103 => vBin .shflXor w ext
  | 104 => vBin .shflUp w ext
  | 105 => vBin .shflDown w ext
  | 106 => vred .vred w ext
  | 107 => vminx .vminxN w ext
  | 108 => vminx .vminxI w ext
  | 109 => vminx .vminxF w ext
  | 110 => vminx .vmaxxN w ext
  | 111 => vminx .vmaxxI w ext
  | 112 => vminx .vmaxxF w ext
  | 113 => vscan .vscan w ext
  | 115 => cvt .cvtFromF64 .fp64 w ext
  | 116 => cvt .cvtFromBf16 .bf16 w ext
  | 117 => cvt .cvtFromF16 .fp16 w ext
  | 118 => cvt .cvtFromE4m3 .e4m3 w ext
  | 119 => cvt .cvtFromE5m2 .e5m2 w ext
  | 120 => cvt .cvtFromI32 .i32 w ext
  | 121 => cvt .cvtFromN32 .n32 w ext
  | 0x72 => pmov w ext
  | 0x7F => nopWord w
  | _ => .illegal

/-! ### Class MEM (R319) -/

/-- R319: Q[2:1] of a load. -/
def ldq (q : BitVec 3) : LdQ :=
  match (q.extractLsb' 1 2).toNat with
  | 0 => .plain | 1 => .fe | 2 => .fec | _ => .nt

/-- R319: Q[2:1] of a store. -/
def stq (q : BitVec 3) : Option StQ :=
  match (q.extractLsb' 1 2).toNat with
  | 0 => some .plain | 1 => some .lk | 2 => some .nt | _ => none

/-- R308: a data register of `n` consecutive registers. -/
def dataReg {k : Nat} (n : Nat) (x : BitVec k) : Bool := x.toNat % n == 0

def ldV (c : Pred → Bool → LdQ → SPair → VReg → VOff → Instr) (n : Nat) (w : W) (ext : Option W) : Decoded :=
  let f := FmtM.of w
  (voff f.off ext).fin (fun o =>
    if dataReg n f.x then some (c f.g (f.q.extractLsb' 0 1 == 1) (ldq f.q) f.base f.x o) else none)

def ldS (c : Pred → Bool → LdQ → SPair → SReg → SOff → Instr) (n : Nat) (w : W) (ext : Option W) : Decoded :=
  let f := FmtM.of w
  (soff f.off ext).fin (fun o =>
    match sreg f.x with
    | some x => if dataReg n x then some (c f.g (f.q.extractLsb' 0 1 == 1) (ldq f.q) f.base x o) else none
    | none => none)

def stV (c : Pred → Bool → StQ → SPair → VReg → VOff → Instr) (n : Nat) (w : W) (ext : Option W) : Decoded :=
  let f := FmtM.of w
  (voff f.off ext).fin (fun o =>
    match stq f.q with
    | some q => if dataReg n f.x then some (c f.g (f.q.extractLsb' 0 1 == 1) q f.base f.x o) else none
    | none => none)

def stS (c : Pred → Bool → StQ → SPair → SReg → SOff → Instr) (n : Nat) (w : W) (ext : Option W) : Decoded :=
  let f := FmtM.of w
  (soff f.off ext).fin (fun o =>
    match stq f.q, sreg f.x with
    | some q, some x => if dataReg n x then some (c f.g (f.q.extractLsb' 0 1 == 1) q f.base x o) else none
    | _, _ => none)

def atom (c : Pred → Scope → SPair → VReg → VOff → Instr) (n : Nat) (w : W) (ext : Option W) : Decoded :=
  let f := FmtM.of w
  (voff f.off ext).fin (fun o =>
    match Scope.ofCode f.q.toNat with
    | some q => if dataReg n f.x then some (c f.g q f.base f.x o) else none
    | none => none)

/-- R171: the kind a FENCE's X[1:0] names. -/
def fenceKind (k : BitVec 2) : Option FenceKind :=
  match k.toNat with
  | 0 => some .acq | 1 => some .rel | 2 => some .full | _ => none

def fenceW (c : Pred → Scope → FenceKind → Instr) (w : W) (_ : Option W) : Decoded :=
  let f := FmtM.of w
  Decoded.one (match Scope.ofCode f.q.toNat, fenceKind (f.x.extractLsb' 0 2) with
    | some q, some k => if f.base = 0 ∧ f.x.extractLsb' 2 5 = 0 ∧ f.off = 0 then some (c f.g q k) else none
    | _, _ => none)

def claspW (c : Pred → Scope → Bool → Instr) (w : W) (_ : Option W) : Decoded :=
  let f := FmtM.of w
  Decoded.one (match Scope.ofCode f.q.toNat with
    | some q =>
      if f.base = 0 ∧ f.x.extractLsb' 1 6 = 0 ∧ f.off = 0 then some (c f.g q (f.x.extractLsb' 0 1 == 1)) else none
    | none => none)

def pfetchW (c : Pred → Bool → SPair → SOff → Instr) (w : W) (ext : Option W) : Decoded :=
  let f := FmtM.of w
  (soff f.off ext).fin (fun o =>
    if f.q = 0 ∧ f.x.extractLsb' 1 6 = 0 then some (c f.g (f.x.extractLsb' 0 1 == 1) f.base o) else none)

def lineW (c : Pred → SPair → SOff → Instr) (w : W) (ext : Option W) : Decoded :=
  let f := FmtM.of w
  (soff f.off ext).fin (fun o => if f.q = 0 ∧ f.x = 0 then some (c f.g f.base o) else none)

def femarkW (c : Pred → Bool → SPair → SReg → SOff → Instr) (w : W) (ext : Option W) : Decoded :=
  let f := FmtM.of w
  (soff f.off ext).fin (fun o =>
    match sreg f.x with
    | some x => if f.q.extractLsb' 1 2 = 0 then some (c f.g (f.q.extractLsb' 0 1 == 1) f.base x o) else none
    | none => none)

def cohsetW (c : Pred → SPair → SReg → SOff → Instr) (w : W) (ext : Option W) : Decoded :=
  let f := FmtM.of w
  (soff f.off ext).fin (fun o =>
    match sreg f.x with
    | some x => if f.q = 0 then some (c f.g f.base x o) else none
    | none => none)

def lkreadW (c : Pred → VReg → SReg → Instr) (w : W) (_ : Option W) : Decoded :=
  let f := FmtS.of w
  Decoded.one (match sreg f.a with
    | some a => if f.sel = 0 then some (c f.g f.d a) else none
    | none => none)

def lkbindW (c : Pred → SReg → SReg → Instr) (w : W) (_ : Option W) : Decoded :=
  let f := FmtS.of w
  Decoded.one (match sreg f.d, sreg f.a with
    | some d, some a => if f.sel = 0 then some (c f.g d a) else none
    | _, _ => none)

def lkrstW (c : Pred → SReg → Instr) (w : W) (_ : Option W) : Decoded :=
  let f := FmtS.of w
  Decoded.one (match sreg f.a with
    | some a => if f.sel = 0 ∧ f.d = 0 then some (c f.g a) else none
    | none => none)

/-- R319: class MEM by opcode. -/
def decodeMem (w : W) (ext : Option W) : Decoded :=
  match (w.extractLsb' 25 7).toNat with
  | 0 => ldV .ldB8 1 w ext
  | 1 => ldV .ldX8 1 w ext
  | 2 => ldV .ldB16 1 w ext
  | 3 => ldV .ldX16 1 w ext
  | 4 => ldV .ldB32 1 w ext
  | 5 => ldV .ldB64 2 w ext
  | 6 => ldV .ldB128 4 w ext
  | 8 => stV .stB8 1 w ext
  | 9 => stV .stB16 1 w ext
  | 10 => stV .stB32 1 w ext
  | 11 => stV .stB64 2 w ext
  | 12 => stV .stB128 4 w ext
  | 16 => ldS .ldB32Scalar 1 w ext
  | 17 => ldS .ldB64Scalar 2 w ext
  | 18 => stS .stB32Scalar 1 w ext
  | 19 => stS .stB64Scalar 2 w ext
  | 32 => atom .atomAdd 1 w ext
  | 33 => atom .atomAnd 1 w ext
  | 34 => atom .atomOr 1 w ext
  | 35 => atom .atomXor 1 w ext
  | 36 => atom .atomMinI 1 w ext
  | 37 => atom .atomMinN 1 w ext
  | 38 => atom .atomMaxI 1 w ext
  | 39 => atom .atomMaxN 1 w ext
  | 40 => atom .atomExch 1 w ext
  | 41 => atom .atomFadd 1 w ext
  | 42 => atom .atomFmax 1 w ext
  | 43 => atom .atomFmin 1 w ext
  | 48 => atom .redAdd 1 w ext
  | 49 => atom .redAnd 1 w ext
  | 50 => atom .redOr 1 w ext
  | 51 => atom .redXor 1 w ext
  | 52 => atom .redMinI 1 w ext
  | 53 => atom .redMinN 1 w ext
  | 54 => atom .redMaxI 1 w ext
  | 55 => atom .redMaxN 1 w ext
  | 56 => atom .redExch 1 w ext
  | 57 => atom .redFadd 1 w ext
  | 58 => atom .redFmax 1 w ext
  | 59 => atom .redFmin 1 w ext
  | 64 => atom .cas 1 w ext
  | 65 => atom .casD 4 w ext
  | 66 => atom .gtswap 1 w ext
  | 67 => atom .gtswapD 4 w ext
  | 68 => atom .vswap 4 w ext
  | 69 => atom .tagswap 4 w ext
  | 80 => fenceW .fence w ext
  | 81 => claspW .clasp w ext
  | 82 => pfetchW .pfetch w ext
  | 83 => lineW .cflush w ext
  | 84 => lineW .cinv w ext
  | 85 => femarkW .femark w ext
  | 86 => cohsetW .cohset w ext
  | 87 => lkreadW .lkread w ext
  | 88 => lkbindW .lkbind w ext
  | 89 => lkrstW .lkrst w ext
  | 0x7F => nopWord w
  | _ => .illegal

/-! ### Class MTX (R320) -/

/-- R320, R233, R234, R244, R422: class MTX by opcode. -/
def decodeMtx (w : W) (ext : Option W) : Decoded :=
  let t := FmtT.of w
  match (w.extractLsb' 25 7).toNat with
  | 0 => if t.g = 0 then .ok (.mma t.da t.db t.acc t.h (t.f == 1)) 1 else .illegalMma
  | 1 =>
    match ext with
    | some e => if t.g = 0 then .ok (.mmaX t.da t.db t.acc t.h (t.f == 1) e) 2 else .illegalMma
    | none => .needExt
  | 2 => Decoded.one (if w.extractLsb' 0 22 = 0 then some (.oprdy t.g) else none)
  | 3 =>
    let f := FmtA.of w
    (ssrc f.sb f.b ext).fin (fun b =>
      match sreg f.d, sreg f.a with
      | some d, some a => if evenReg a then some (.mkdesc f.g d a b) else none
      | _, _ => none)
  | 0x7F => nopWord w
  | _ => .illegal

/-! ### Class ENG (R320) -/

def engCmd (c : Pred → SPair → Hnd → Instr) (w : W) : Decoded :=
  let f := FmtE.of w
  Decoded.one (if f.fl = 0 then some (c f.g f.cb f.h) else none)

def engCtr (c : Pred → SPair → BitVec 12 → Instr) (w : W) : Decoded :=
  let f := FmtE.of w
  Decoded.one (if f.h = 0 ∧ f.fl.extractLsb' 12 1 = 0 then some (c f.g f.cb (f.fl.extractLsb' 0 12)) else none)

def engCh (c : Pred → SPair → BitVec 6 → Instr) (w : W) : Decoded :=
  let f := FmtE.of w
  Decoded.one (if f.h = 0 ∧ f.fl.extractLsb' 6 7 = 0 then some (c f.g f.cb (f.fl.extractLsb' 0 6)) else none)

def engHwait (c : Pred → Hnd → Option SReg → Instr) (w : W) : Decoded :=
  let f := FmtE.of w
  Decoded.one (if f.cb = 0 ∧ f.fl.extractLsb' 7 6 = 0 then
      (if f.fl.extractLsb' 6 1 = 1 then some (c f.g f.h (some (f.fl.extractLsb' 0 6)))
       else if f.fl = 0 then some (c f.g f.h none) else none)
    else none)

def engHtest (c : Pred → Hnd → SReg → Instr) (w : W) : Decoded :=
  let f := FmtE.of w
  Decoded.one (if f.cb = 0 ∧ f.fl.extractLsb' 6 7 = 0 then some (c f.g f.h (f.fl.extractLsb' 0 6)) else none)

def engHcancel (c : Pred → Hnd → Instr) (w : W) : Decoded :=
  let f := FmtE.of w
  Decoded.one (if f.cb = 0 ∧ f.fl = 0 then some (c f.g f.h) else none)

def engHmov (c : Pred → Hnd → Hnd → Instr) (w : W) : Decoded :=
  let f := FmtE.of w
  Decoded.one (if f.cb = 0 ∧ f.fl.extractLsb' 4 9 = 0 then some (c f.g f.h (f.fl.extractLsb' 0 4)) else none)

/-- R320: class ENG by opcode. -/
def decodeEng (w : W) : Decoded :=
  match (w.extractLsb' 25 7).toNat with
  | 0 => engCmd .copy w
  | 1 => engCmd .gather w
  | 2 => engCmd .scatter w
  | 3 => engCmd .mgt w
  | 4 => engCmd .coll w
  | 5 => engCmd .tsend w
  | 6 => engCtr .ctrset w
  | 7 => engCtr .ctradd w
  | 8 => engCtr .ctrrd w
  | 9 => engCh .chsend w
  | 10 => engCh .chrecv w
  | 11 => engHwait .hwait w
  | 12 => engHtest .htest w
  | 13 => engHcancel .hcancel w
  | 14 => engCmd .hsave w
  | 15 => engCmd .hload w
  | 16 => engHmov .hmov w
  | 0x7F => nopWord w
  | _ => .illegal

/-! ### Class CTL (R321) -/

def braW (c : BitVec 22 → Instr) (w : W) (_ : Option W) : Decoded :=
  let f := FmtB.of w
  Decoded.one (if f.g = 0 then some (c f.offs) else none)

def brW (c : Pred → BitVec 22 → Instr) (w : W) (_ : Option W) : Decoded :=
  let f := FmtB.of w
  .ok (c f.g f.offs) 1

def bareW (c : Pred → Instr) (w : W) (_ : Option W) : Decoded :=
  let f := FmtS.of w
  Decoded.one (if f.sel = 0 ∧ f.d = 0 ∧ f.a = 0 then some (c f.g) else none)

def sA (c : Pred → SReg → Instr) (w : W) (_ : Option W) : Decoded :=
  let f := FmtS.of w
  Decoded.one (match sreg f.a with
    | some a => if f.sel = 0 ∧ f.d = 0 then some (c f.g a) else none
    | none => none)

def sD (c : Pred → SReg → Instr) (w : W) (_ : Option W) : Decoded :=
  let f := FmtS.of w
  Decoded.one (match sreg f.d with
    | some d => if f.sel = 0 ∧ f.a = 0 then some (c f.g d) else none
    | none => none)

def barW (c : Pred → SPair → SOff → Instr) (w : W) (ext : Option W) : Decoded := lineW c w ext

def binitW (c : Pred → SPair → SReg → SOff → Instr) (w : W) (ext : Option W) : Decoded := cohsetW c w ext

/-- R454. -/
def sreadW (c : Pred → BitVec 8 → SDst → Instr) (w : W) (_ : Option W) : Decoded :=
  let f := FmtS.of w
  Decoded.one (match f.a.toNat with
    | 0 =>
      match sreg f.d with
      | some d => some (c f.g f.sel (.s d))
      | none => none
    | 1 => some (c f.g f.sel (.v f.d))
    | _ => none)

def swriteW (c : Pred → BitVec 8 → SReg → Instr) (w : W) (_ : Option W) : Decoded :=
  let f := FmtS.of w
  Decoded.one (match sreg f.a with
    | some a => if f.d = 0 then some (c f.g f.sel a) else none
    | none => none)

def trapW (c : Pred → BitVec 8 → Instr) (w : W) (_ : Option W) : Decoded :=
  let f := FmtS.of w
  Decoded.one (if f.d = 0 ∧ f.a = 0 then some (c f.g f.sel) else none)

/-- R374: SEL selects the form of ERET. -/
def eretW (w : W) : Decoded :=
  let f := FmtS.of w
  Decoded.one (if f.d = 0 ∧ f.a = 0 then
      (if f.sel = 0 then some (.eret f.g) else if f.sel = 1 then some (.eretNext f.g) else none)
    else none)

/-- R461. -/
def tlbinvW (c : Pred → PgSize → SReg → SReg → Instr) (w : W) (_ : Option W) : Decoded :=
  let f := FmtS.of w
  Decoded.one (match sreg f.d, sreg f.a with
    | some d, some a =>
      if f.sel.extractLsb' 2 6 = 0 && evenReg a then
        some (c f.g (PgSize.ofCode (f.sel.extractLsb' 0 2).toNat) d a)
      else none
    | _, _ => none)

/-- R321: class CTL by opcode. -/
def decodeCtl (w : W) (ext : Option W) : Decoded :=
  match (w.extractLsb' 25 7).toNat with
  | 0 => braW .bra w ext
  | 1 => brW .bany w ext
  | 2 => brW .ball w ext
  | 3 => brW .bnone w ext
  | 4 => brW .bdiv w ext
  | 5 => brW .call w ext
  | 6 => bareW .ret w ext
  | 7 => sA .brx w ext
  | 8 => bareW .rejoin w ext
  | 9 => bareW .exit w ext
  | 10 => bareW .yield w ext
  | 11 => barW .bar w ext
  | 12 => binitW .binit w ext
  | 13 => sA .setfmt w ext
  | 14 => sD .getfmt w ext
  | 15 => sreadW .sread w ext
  | 16 => swriteW .swrite w ext
  | 17 => trapW .trap w ext
  | 20 => tlbinvW .tlbinv w ext
  | 0x12 => eretW w
  | 0x7F => nopWord w
  | _ => .illegal

/-- R307: the word of a clause of class `cls`, with the next word of the clause if there is one. -/
def decode (cls : Cls) (w : W) (ext : Option W) : Decoded :=
  match cls with
  | .alu => decodeAlu w ext
  | .mem => decodeMem w ext
  | .mtx => decodeMtx w ext
  | .eng => decodeEng w
  | .ctl => decodeCtl w ext

/-! ### The clause header (R301) -/

/-- R301: a checked clause header. -/
structure Header where
  count : Nat
  cls : Cls
  hwait : BitVec 8
  opr : Bool
  sto : Bool
  chn : Bool
deriving DecidableEq, Repr

/-- R303: the header a word is, or none where the package raises ILLEGAL_CLAUSE. -/
def decodeHeader (w : W) : Option Header :=
  if w.extractLsb' 28 4 = 0xC ∧ w.extractLsb' 0 4 ≠ 0 ∧ w.extractLsb' 7 1 = 0 ∧ w.extractLsb' 19 9 = 0 then
    match Cls.ofCode (w.extractLsb' 4 3).toNat with
    | some c =>
      some { count := (w.extractLsb' 0 4).toNat, cls := c, hwait := w.extractLsb' 8 8,
             opr := w.extractLsb' 16 1 == 1, sto := w.extractLsb' 17 1 == 1, chn := w.extractLsb' 18 1 == 1 }
    | none => none
  else none

/-- R301: the word of a header. -/
def encodeHeader (h : Header) : W :=
  (0xC : BitVec 4) ++ (0 : BitVec 9) ++ BitVec.ofBool h.chn ++ BitVec.ofBool h.sto ++ BitVec.ofBool h.opr ++ h.hwait
    ++ (0 : BitVec 1) ++ BitVec.ofNat 3 h.cls.code ++ BitVec.ofNat 4 h.count

/-! ### The encoder -/

/-- The words of an instruction: its class, its word, and its literal or extension word. -/
structure Enc where
  cls : Cls
  word : W
  ext : Option W
deriving DecidableEq, Repr

/-- A scalar register in a 7-bit field. -/
def sfield (r : SReg) : BitVec 7 := (0 : BitVec 1) ++ r

/-- R309: SB, B and the literal of a vector operand. -/
def VSrc.enc (b : VSrc) : BitVec 1 × BitVec 7 × Option W :=
  match b with
  | .v r => (0, r, none)
  | .s r => (1, sfield r, none)
  | .lit w => (1, 0x7F, some w)

/-- R309: SB, B and the literal of a scalar operand. -/
def SSrc.enc (b : SSrc) : BitVec 1 × BitVec 7 × Option W :=
  match b with
  | .s r => (0, sfield r, none)
  | .lit w => (1, 0x7F, some w)

/-- SB, B and the literal of an operand whose SB must be 1. -/
def SSrc.encCtl (b : SSrc) : BitVec 1 × BitVec 7 × Option W :=
  match b with
  | .s r => (1, sfield r, none)
  | .lit w => (1, 0x7F, some w)

/-- R311: OFF and the extension word of a vector offset. -/
def VOff.enc (o : VOff) : BitVec 7 × Option W :=
  match o with
  | .reg r => (r, none)
  | .ext d none => (0x7F, some (d ++ (0x7F : BitVec 7)))
  | .ext d (some r) => (0x7F, some (d ++ r))

/-- R311: OFF and the extension word of a scalar offset. -/
def SOff.enc (o : SOff) : BitVec 7 × Option W :=
  match o with
  | .reg r => (sfield r, none)
  | .ext d none => (0x7F, some (d ++ (0x7F : BitVec 7)))
  | .ext d (some r) => (0x7F, some (d ++ sfield r))

/-- R313. -/
def ICond.code (c : ICond) : Nat :=
  match c with
  | .eq => 0 | .ne => 1 | .lt => 2 | .le => 3 | .gt => 4 | .ge => 5 | .ltn => 8 | .len => 9 | .gtn => 10 | .gen => 11

/-- R313. -/
def FCond.code (c : FCond) : Nat :=
  match c with
  | .eq => 0 | .ne => 1 | .lt => 2 | .le => 3 | .gt => 4 | .ge => 5 | .ltn => 8 | .len => 9 | .gtn => 10 | .gen => 11
  | .un => 12 | .ord => 13

/-- R469. -/
def RedOp.code (o : RedOp) : Nat :=
  match o with
  | .sumI => 0 | .sumF => 1 | .minI => 2 | .minN => 3 | .minF => 4 | .maxI => 5 | .maxN => 6 | .maxF => 7
  | .and => 8 | .or => 9 | .xor => 10

/-- R319: Q[2:1] of a load. -/
def LdQ.code (q : LdQ) : BitVec 2 :=
  match q with
  | .plain => 0 | .fe => 1 | .fec => 2 | .nt => 3

/-- R319: Q[2:1] of a store. -/
def StQ.code (q : StQ) : BitVec 2 :=
  match q with
  | .plain => 0 | .lk => 1 | .nt => 2

/-- R171. -/
def FenceKind.code (k : FenceKind) : BitVec 2 :=
  match k with
  | .acq => 0 | .rel => 1 | .full => 2

/-- A word of format A. -/
def encA (cls : Cls) (op : Nat) (g : BitVec 3) (d a : BitVec 7) (b : BitVec 1 × BitVec 7 × Option W) : Enc :=
  { cls := cls, word := FmtA.word { op := BitVec.ofNat 7 op, g := g, sb := b.1, d := d, a := a, b := b.2.1 },
    ext := b.2.2 }

/-- A word of format P. -/
def encP (cls : Cls) (op : Nat) (g pd : BitVec 3) (cc : Nat) (a : BitVec 7)
    (b : BitVec 1 × BitVec 7 × Option W) : Enc :=
  { cls := cls,
    word := FmtP.word { op := BitVec.ofNat 7 op, g := g, pd := pd, cc := BitVec.ofNat 4 cc, sb := b.1, a := a,
                        b := b.2.1 },
    ext := b.2.2 }

/-- A word of format M. -/
def encM (cls : Cls) (op : Nat) (g q : BitVec 3) (base : BitVec 5) (x : BitVec 7) (o : BitVec 7 × Option W) : Enc :=
  { cls := cls, word := FmtM.word { op := BitVec.ofNat 7 op, g := g, q := q, base := base, x := x, off := o.1 },
    ext := o.2 }

/-- A word of format E. -/
def encE (cls : Cls) (op : Nat) (g : BitVec 3) (cb : BitVec 5) (h : BitVec 4) (fl : BitVec 13) : Enc :=
  { cls := cls, word := FmtE.word { op := BitVec.ofNat 7 op, g := g, cb := cb, h := h, fl := fl }, ext := none }

/-- A word of format S. -/
def encS (cls : Cls) (op : Nat) (g : BitVec 3) (sel : BitVec 8) (d a : BitVec 7) : Enc :=
  { cls := cls, word := FmtS.word { op := BitVec.ofNat 7 op, g := g, sel := sel, d := d, a := a }, ext := none }

/-- A word of format B. -/
def encB (cls : Cls) (op : Nat) (g : BitVec 3) (o : BitVec 22) : Enc :=
  { cls := cls, word := FmtB.word { op := BitVec.ofNat 7 op, g := g, offs := o }, ext := none }

def Enc.vBin (cls : Cls) (op : Nat) (g : Pred) (d a : VReg) (b : VSrc) : Enc := encA cls op g d a b.enc
def Enc.vBinD (cls : Cls) (op : Nat) (g : Pred) (d a : VReg) (b : VSrc) : Enc := encA cls op g d a b.enc
def Enc.sBin (cls : Cls) (op : Nat) (g : Pred) (d a : SReg) (b : SSrc) : Enc := encA cls op g (sfield d) (sfield a) b.enc
def Enc.sBinD (cls : Cls) (op : Nat) (g : Pred) (d a : SReg) (b : SSrc) : Enc := encA cls op g (sfield d) (sfield a) b.enc
def Enc.vUn (cls : Cls) (op : Nat) (g : Pred) (d : VReg) (b : VSrc) : Enc := encA cls op g d 0 b.enc
def Enc.sUn (cls : Cls) (op : Nat) (g : Pred) (d : SReg) (b : SSrc) : Enc := encA cls op g (sfield d) 0 b.enc
def Enc.icmpV (cls : Cls) (op : Nat) (g pd : Pred) (c : ICond) (a : VReg) (b : VSrc) : Enc :=
  encP cls op g pd c.code a b.enc
def Enc.icmpS (cls : Cls) (op : Nat) (g pd : Pred) (c : ICond) (a : SReg) (b : SSrc) : Enc :=
  encP cls op g pd c.code (sfield a) b.enc
def Enc.fcmp (cls : Cls) (op : Nat) (g pd : Pred) (c : FCond) (a : VReg) (b : VSrc) : Enc :=
  encP cls op g pd c.code a b.enc
def Enc.fcmpD (cls : Cls) (op : Nat) (g pd : Pred) (c : FCond) (a : VReg) (b : VSrc) : Enc :=
  encP cls op g pd c.code a b.enc
def Enc.plop (cls : Cls) (op : Nat) (g pd : Pred) (l : BitVec 4) (pa pb : Pred) : Enc :=
  encP cls op g pd l.toNat ((0 : BitVec 4) ++ pa) (0, (0 : BitVec 4) ++ pb, none)
def Enc.ballot (cls : Cls) (op : Nat) (g : Pred) (d : SReg) (p : Pred) : Enc :=
  encA cls op g (sfield d) 0 (0, (0 : BitVec 4) ++ p, none)
def Enc.cvt (cls : Cls) (op : Nat) (g : Pred) (ov : Ov) (rm : Rm) (tf : Fmt) (d a : VReg) : Enc :=
  { cls := cls,
    word := FmtC.word { op := BitVec.ofNat 7 op, g := g, ov := BitVec.ofNat 2 ov.code, rm := BitVec.ofNat 2 rm.code,
                        tf := BitVec.ofNat 4 tf.code, d := d, a := a },
    ext := none }
def Enc.vCtl (cls : Cls) (op : Nat) (g : Pred) (d a : VReg) (b : SSrc) : Enc := encA cls op g d a b.encCtl
def Enc.vred (cls : Cls) (op : Nat) (g : Pred) (d : SReg) (a : VReg) (o : RedOp) : Enc :=
  encA cls op g (sfield d) a (0, (0 : BitVec 3) ++ BitVec.ofNat 4 o.code, none)
def Enc.vscan (cls : Cls) (op : Nat) (g : Pred) (d a : VReg) (ex : Bool) (o : RedOp) : Enc :=
  encA cls op g d a (0, BitVec.ofBool ex ++ (0 : BitVec 2) ++ BitVec.ofNat 4 o.code, none)
def Enc.vminx (cls : Cls) (op : Nat) (g : Pred) (d : SReg) (a : VReg) (b : SSrc) : Enc :=
  encA cls op g (sfield d) a b.encCtl
def Enc.ldV (cls : Cls) (op : Nat) (g : Pred) (q0 : Bool) (q : LdQ) (c : SPair) (x : VReg) (o : VOff) : Enc :=
  encM cls op g (q.code ++ BitVec.ofBool q0) c x o.enc
def Enc.ldS (cls : Cls) (op : Nat) (g : Pred) (q0 : Bool) (q : LdQ) (c : SPair) (x : SReg) (o : SOff) : Enc :=
  encM cls op g (q.code ++ BitVec.ofBool q0) c (sfield x) o.enc
def Enc.stV (cls : Cls) (op : Nat) (g : Pred) (q0 : Bool) (q : StQ) (c : SPair) (x : VReg) (o : VOff) : Enc :=
  encM cls op g (q.code ++ BitVec.ofBool q0) c x o.enc
def Enc.stS (cls : Cls) (op : Nat) (g : Pred) (q0 : Bool) (q : StQ) (c : SPair) (x : SReg) (o : SOff) : Enc :=
  encM cls op g (q.code ++ BitVec.ofBool q0) c (sfield x) o.enc
def Enc.atom (cls : Cls) (op : Nat) (g : Pred) (q : Scope) (c : SPair) (x : VReg) (o : VOff) : Enc :=
  encM cls op g (BitVec.ofNat 3 q.code) c x o.enc
def Enc.fenceW (cls : Cls) (op : Nat) (g : Pred) (q : Scope) (k : FenceKind) : Enc :=
  encM cls op g (BitVec.ofNat 3 q.code) 0 ((0 : BitVec 5) ++ k.code) (0, none)
def Enc.claspW (cls : Cls) (op : Nat) (g : Pred) (q : Scope) (k : Bool) : Enc :=
  encM cls op g (BitVec.ofNat 3 q.code) 0 ((0 : BitVec 6) ++ BitVec.ofBool k) (0, none)
def Enc.pfetchW (cls : Cls) (op : Nat) (g : Pred) (l : Bool) (c : SPair) (o : SOff) : Enc :=
  encM cls op g 0 c ((0 : BitVec 6) ++ BitVec.ofBool l) o.enc
def Enc.lineW (cls : Cls) (op : Nat) (g : Pred) (c : SPair) (o : SOff) : Enc := encM cls op g 0 c 0 o.enc
def Enc.femarkW (cls : Cls) (op : Nat) (g : Pred) (f : Bool) (c : SPair) (x : SReg) (o : SOff) : Enc :=
  encM cls op g ((0 : BitVec 2) ++ BitVec.ofBool f) c (sfield x) o.enc
def Enc.cohsetW (cls : Cls) (op : Nat) (g : Pred) (c : SPair) (x : SReg) (o : SOff) : Enc :=
  encM cls op g 0 c (sfield x) o.enc
def Enc.lkreadW (cls : Cls) (op : Nat) (g : Pred) (d : VReg) (a : SReg) : Enc := encS cls op g 0 d (sfield a)
def Enc.lkbindW (cls : Cls) (op : Nat) (g : Pred) (d a : SReg) : Enc := encS cls op g 0 (sfield d) (sfield a)
def Enc.lkrstW (cls : Cls) (op : Nat) (g : Pred) (a : SReg) : Enc := encS cls op g 0 0 (sfield a)
def Enc.engCmd (cls : Cls) (op : Nat) (g : Pred) (c : SPair) (h : Hnd) : Enc := encE cls op g c h 0
def Enc.engCtr (cls : Cls) (op : Nat) (g : Pred) (c : SPair) (k : BitVec 12) : Enc :=
  encE cls op g c 0 ((0 : BitVec 1) ++ k)
def Enc.engCh (cls : Cls) (op : Nat) (g : Pred) (c : SPair) (n : BitVec 6) : Enc :=
  encE cls op g c 0 ((0 : BitVec 7) ++ n)
def Enc.engHwait (cls : Cls) (op : Nat) (g : Pred) (h : Hnd) (d : Option SReg) : Enc :=
  match d with
  | some d => encE cls op g 0 h ((0 : BitVec 6) ++ (1 : BitVec 1) ++ d)
  | none => encE cls op g 0 h 0
def Enc.engHtest (cls : Cls) (op : Nat) (g : Pred) (h : Hnd) (d : SReg) : Enc :=
  encE cls op g 0 h ((0 : BitVec 7) ++ d)
def Enc.engHcancel (cls : Cls) (op : Nat) (g : Pred) (h : Hnd) : Enc := encE cls op g 0 h 0
def Enc.engHmov (cls : Cls) (op : Nat) (g : Pred) (h s : Hnd) : Enc := encE cls op g 0 h ((0 : BitVec 9) ++ s)
def Enc.braW (cls : Cls) (op : Nat) (o : BitVec 22) : Enc := encB cls op 0 o
def Enc.brW (cls : Cls) (op : Nat) (p : Pred) (o : BitVec 22) : Enc := encB cls op p o
def Enc.bareW (cls : Cls) (op : Nat) (g : Pred) : Enc := encS cls op g 0 0 0
def Enc.sA (cls : Cls) (op : Nat) (g : Pred) (a : SReg) : Enc := encS cls op g 0 0 (sfield a)
def Enc.sD (cls : Cls) (op : Nat) (g : Pred) (d : SReg) : Enc := encS cls op g 0 (sfield d) 0
def Enc.barW (cls : Cls) (op : Nat) (g : Pred) (c : SPair) (o : SOff) : Enc := encM cls op g 0 c 0 o.enc
def Enc.binitW (cls : Cls) (op : Nat) (g : Pred) (c : SPair) (x : SReg) (o : SOff) : Enc :=
  encM cls op g 0 c (sfield x) o.enc
def Enc.sreadW (cls : Cls) (op : Nat) (g : Pred) (sel : BitVec 8) (d : SDst) : Enc :=
  match d with
  | .s r => encS cls op g sel (sfield r) 0
  | .v r => encS cls op g sel r 1
def Enc.swriteW (cls : Cls) (op : Nat) (g : Pred) (sel : BitVec 8) (a : SReg) : Enc := encS cls op g sel 0 (sfield a)
def Enc.trapW (cls : Cls) (op : Nat) (g : Pred) (k : BitVec 8) : Enc := encS cls op g k 0 0
def Enc.tlbinvW (cls : Cls) (op : Nat) (g : Pred) (u : PgSize) (d a : SReg) : Enc :=
  encS cls op g (BitVec.ofNat 8 u.code) (sfield d) (sfield a)

/-- The words of an instruction in the tables of R318 to R321; an event has none. NOP is given in class ALU. -/
def encode (i : Instr) : Option Enc :=
  match i with
  | .iaddV g d a b => some (Enc.vBin .alu 0 g d a b)
  | .iaddS g d a b => some (Enc.sBin .alu 1 g d a b)
  | .iaddDV g d a b => some (Enc.vBinD .alu 2 g d a b)
  | .iaddDS g d a b => some (Enc.sBinD .alu 3 g d a b)
  | .isubV g d a b => some (Enc.vBin .alu 4 g d a b)
  | .isubS g d a b => some (Enc.sBin .alu 5 g d a b)
  | .isubDV g d a b => some (Enc.vBinD .alu 6 g d a b)
  | .isubDS g d a b => some (Enc.sBinD .alu 7 g d a b)
  | .imulV g d a b => some (Enc.vBin .alu 8 g d a b)
  | .imulS g d a b => some (Enc.sBin .alu 9 g d a b)
  | .imulhIV g d a b => some (Enc.vBin .alu 10 g d a b)
  | .imulhIS g d a b => some (Enc.sBin .alu 11 g d a b)
  | .imulhNV g d a b => some (Enc.vBin .alu 12 g d a b)
  | .imulhNS g d a b => some (Enc.sBin .alu 13 g d a b)
  | .imadV g d a b => some (Enc.vBin .alu 14 g d a b)
  | .imadS g d a b => some (Enc.sBin .alu 15 g d a b)
  | .iminIV g d a b => some (Enc.vBin .alu 16 g d a b)
  | .iminIS g d a b => some (Enc.sBin .alu 17 g d a b)
  | .iminNV g d a b => some (Enc.vBin .alu 18 g d a b)
  | .iminNS g d a b => some (Enc.sBin .alu 19 g d a b)
  | .imaxIV g d a b => some (Enc.vBin .alu 20 g d a b)
  | .imaxIS g d a b => some (Enc.sBin .alu 21 g d a b)
  | .imaxNV g d a b => some (Enc.vBin .alu 22 g d a b)
  | .imaxNS g d a b => some (Enc.sBin .alu 23 g d a b)
  | .iabsV g d b => some (Enc.vUn .alu 24 g d b)
  | .iabsS g d b => some (Enc.sUn .alu 25 g d b)
  | .andV g d a b => some (Enc.vBin .alu 26 g d a b)
  | .andS g d a b => some (Enc.sBin .alu 27 g d a b)
  | .orV g d a b => some (Enc.vBin .alu 28 g d a b)
  | .orS g d a b => some (Enc.sBin .alu 29 g d a b)
  | .xorV g d a b => some (Enc.vBin .alu 30 g d a b)
  | .xorS g d a b => some (Enc.sBin .alu 31 g d a b)
  | .notV g d b => some (Enc.vUn .alu 32 g d b)
  | .notS g d b => some (Enc.sUn .alu 33 g d b)
  | .shlV g d a b => some (Enc.vBin .alu 34 g d a b)
  | .shlS g d a b => some (Enc.sBin .alu 35 g d a b)
  | .shrV g d a b => some (Enc.vBin .alu 36 g d a b)
  | .shrS g d a b => some (Enc.sBin .alu 37 g d a b)
  | .sarV g d a b => some (Enc.vBin .alu 38 g d a b)
  | .sarS g d a b => some (Enc.sBin .alu 39 g d a b)
  | .rotV g d a b => some (Enc.vBin .alu 40 g d a b)
  | .rotS g d a b => some (Enc.sBin .alu 41 g d a b)
  | .popcV g d b => some (Enc.vUn .alu 42 g d b)
  | .popcS g d b => some (Enc.sUn .alu 43 g d b)
  | .clzV g d b => some (Enc.vUn .alu 44 g d b)
  | .clzS g d b => some (Enc.sUn .alu 45 g d b)
  | .brevV g d b => some (Enc.vUn .alu 46 g d b)
  | .brevS g d b => some (Enc.sUn .alu 47 g d b)
  | .bfeNV g d a b => some (Enc.vBin .alu 48 g d a b)
  | .bfeNS g d a b => some (Enc.sBin .alu 49 g d a b)
  | .bfeIV g d a b => some (Enc.vBin .alu 50 g d a b)
  | .bfeIS g d a b => some (Enc.sBin .alu 51 g d a b)
  | .bfiV g d a b => some (Enc.vBin .alu 52 g d a b)
  | .bfiS g d a b => some (Enc.sBin .alu 53 g d a b)
  | .selV g d a b => some (Enc.vBin .alu 54 g d a b)
  | .selS g d a b => some (Enc.sBin .alu 55 g d a b)
  | .movV g d b => some (Enc.vUn .alu 56 g d b)
  | .movS g d b => some (Enc.sUn .alu 57 g d b)
  | .icmpV g pd c a b => some (Enc.icmpV .alu 58 g pd c a b)
  | .icmpS g pd c a b => some (Enc.icmpS .alu 59 g pd c a b)
  | .fcmpF32 g pd c a b => some (Enc.fcmp .alu 60 g pd c a b)
  | .fcmpF64 g pd c a b => some (Enc.fcmpD .alu 61 g pd c a b)
  | .plop g pd l pa pb => some (Enc.plop .alu 62 g pd l pa pb)
  | .ballot g d p => some (Enc.ballot .alu 63 g d p)
  | .faddF32V g d a b => some (Enc.vBin .alu 64 g d a b)
  | .faddF32S g d a b => some (Enc.sBin .alu 65 g d a b)
  | .faddF64 g d a b => some (Enc.vBinD .alu 66 g d a b)
  | .faddH2 g d a b => some (Enc.vBin .alu 67 g d a b)
  | .faddB2 g d a b => some (Enc.vBin .alu 68 g d a b)
  | .fsubF32 g d a b => some (Enc.vBin .alu 69 g d a b)
  | .fsubF64 g d a b => some (Enc.vBinD .alu 70 g d a b)
  | .fmulF32V g d a b => some (Enc.vBin .alu 72 g d a b)
  | .fmulF32S g d a b => some (Enc.sBin .alu 73 g d a b)
  | .fmulF64 g d a b => some (Enc.vBinD .alu 74 g d a b)
  | .fmulH2 g d a b => some (Enc.vBin .alu 75 g d a b)
  | .fmulB2 g d a b => some (Enc.vBin .alu 76 g d a b)
  | .ffmaF32V g d a b => some (Enc.vBin .alu 80 g d a b)
  | .ffmaF32S g d a b => some (Enc.sBin .alu 81 g d a b)
  | .ffmaF64 g d a b => some (Enc.vBinD .alu 82 g d a b)
  | .ffmaH2 g d a b => some (Enc.vBin .alu 83 g d a b)
  | .ffmaB2 g d a b => some (Enc.vBin .alu 84 g d a b)
  | .fminF32 g d a b => some (Enc.vBin .alu 85 g d a b)
  | .fmaxF32 g d a b => some (Enc.vBin .alu 86 g d a b)
  | .fminF64 g d a b => some (Enc.vBinD .alu 87 g d a b)
  | .fmaxF64 g d a b => some (Enc.vBinD .alu 88 g d a b)
  | .fdot2 g d a b => some (Enc.vBin .alu 89 g d a b)
  | .frcp g d b => some (Enc.vUn .alu 90 g d b)
  | .frsq g d b => some (Enc.vUn .alu 91 g d b)
  | .fsqrt g d b => some (Enc.vUn .alu 92 g d b)
  | .fex2 g d b => some (Enc.vUn .alu 93 g d b)
  | .flg2 g d b => some (Enc.vUn .alu 94 g d b)
  | .fsin g d b => some (Enc.vUn .alu 96 g d b)
  | .fcos g d b => some (Enc.vUn .alu 97 g d b)
  | .cvtFromF32 g ov rm tf d a => some (Enc.cvt .alu 98 g ov rm tf d a)
  | .qnt g d a b => some (Enc.vCtl .alu 99 g d a b)
  | .unpk g d a b => some (Enc.vCtl .alu 100 g d a b)
  | .pack g d a b => some (Enc.vCtl .alu 101 g d a b)
  | .shflIdx g d a b => some (Enc.vBin .alu 102 g d a b)
  | .shflXor g d a b => some (Enc.vBin .alu 103 g d a b)
  | .shflUp g d a b => some (Enc.vBin .alu 104 g d a b)
  | .shflDown g d a b => some (Enc.vBin .alu 105 g d a b)
  | .vred g d a o => some (Enc.vred .alu 106 g d a o)
  | .vminxN g d a b => some (Enc.vminx .alu 107 g d a b)
  | .vminxI g d a b => some (Enc.vminx .alu 108 g d a b)
  | .vminxF g d a b => some (Enc.vminx .alu 109 g d a b)
  | .vmaxxN g d a b => some (Enc.vminx .alu 110 g d a b)
  | .vmaxxI g d a b => some (Enc.vminx .alu 111 g d a b)
  | .vmaxxF g d a b => some (Enc.vminx .alu 112 g d a b)
  | .vscan g d a ex o => some (Enc.vscan .alu 113 g d a ex o)
  | .cvtFromF64 g ov rm tf d a => some (Enc.cvt .alu 115 g ov rm tf d a)
  | .cvtFromBf16 g ov rm tf d a => some (Enc.cvt .alu 116 g ov rm tf d a)
  | .cvtFromF16 g ov rm tf d a => some (Enc.cvt .alu 117 g ov rm tf d a)
  | .cvtFromE4m3 g ov rm tf d a => some (Enc.cvt .alu 118 g ov rm tf d a)
  | .cvtFromE5m2 g ov rm tf d a => some (Enc.cvt .alu 119 g ov rm tf d a)
  | .cvtFromI32 g ov rm tf d a => some (Enc.cvt .alu 120 g ov rm tf d a)
  | .cvtFromN32 g ov rm tf d a => some (Enc.cvt .alu 121 g ov rm tf d a)
  | .ldB8 g q0 q c x o => some (Enc.ldV .mem 0 g q0 q c x o)
  | .ldX8 g q0 q c x o => some (Enc.ldV .mem 1 g q0 q c x o)
  | .ldB16 g q0 q c x o => some (Enc.ldV .mem 2 g q0 q c x o)
  | .ldX16 g q0 q c x o => some (Enc.ldV .mem 3 g q0 q c x o)
  | .ldB32 g q0 q c x o => some (Enc.ldV .mem 4 g q0 q c x o)
  | .ldB64 g q0 q c x o => some (Enc.ldV .mem 5 g q0 q c x o)
  | .ldB128 g q0 q c x o => some (Enc.ldV .mem 6 g q0 q c x o)
  | .stB8 g q0 q c x o => some (Enc.stV .mem 8 g q0 q c x o)
  | .stB16 g q0 q c x o => some (Enc.stV .mem 9 g q0 q c x o)
  | .stB32 g q0 q c x o => some (Enc.stV .mem 10 g q0 q c x o)
  | .stB64 g q0 q c x o => some (Enc.stV .mem 11 g q0 q c x o)
  | .stB128 g q0 q c x o => some (Enc.stV .mem 12 g q0 q c x o)
  | .ldB32Scalar g q0 q c x o => some (Enc.ldS .mem 16 g q0 q c x o)
  | .ldB64Scalar g q0 q c x o => some (Enc.ldS .mem 17 g q0 q c x o)
  | .stB32Scalar g q0 q c x o => some (Enc.stS .mem 18 g q0 q c x o)
  | .stB64Scalar g q0 q c x o => some (Enc.stS .mem 19 g q0 q c x o)
  | .atomAdd g q c x o => some (Enc.atom .mem 32 g q c x o)
  | .atomAnd g q c x o => some (Enc.atom .mem 33 g q c x o)
  | .atomOr g q c x o => some (Enc.atom .mem 34 g q c x o)
  | .atomXor g q c x o => some (Enc.atom .mem 35 g q c x o)
  | .atomMinI g q c x o => some (Enc.atom .mem 36 g q c x o)
  | .atomMinN g q c x o => some (Enc.atom .mem 37 g q c x o)
  | .atomMaxI g q c x o => some (Enc.atom .mem 38 g q c x o)
  | .atomMaxN g q c x o => some (Enc.atom .mem 39 g q c x o)
  | .atomExch g q c x o => some (Enc.atom .mem 40 g q c x o)
  | .atomFadd g q c x o => some (Enc.atom .mem 41 g q c x o)
  | .atomFmax g q c x o => some (Enc.atom .mem 42 g q c x o)
  | .atomFmin g q c x o => some (Enc.atom .mem 43 g q c x o)
  | .redAdd g q c x o => some (Enc.atom .mem 48 g q c x o)
  | .redAnd g q c x o => some (Enc.atom .mem 49 g q c x o)
  | .redOr g q c x o => some (Enc.atom .mem 50 g q c x o)
  | .redXor g q c x o => some (Enc.atom .mem 51 g q c x o)
  | .redMinI g q c x o => some (Enc.atom .mem 52 g q c x o)
  | .redMinN g q c x o => some (Enc.atom .mem 53 g q c x o)
  | .redMaxI g q c x o => some (Enc.atom .mem 54 g q c x o)
  | .redMaxN g q c x o => some (Enc.atom .mem 55 g q c x o)
  | .redExch g q c x o => some (Enc.atom .mem 56 g q c x o)
  | .redFadd g q c x o => some (Enc.atom .mem 57 g q c x o)
  | .redFmax g q c x o => some (Enc.atom .mem 58 g q c x o)
  | .redFmin g q c x o => some (Enc.atom .mem 59 g q c x o)
  | .cas g q c x o => some (Enc.atom .mem 64 g q c x o)
  | .casD g q c x o => some (Enc.atom .mem 65 g q c x o)
  | .gtswap g q c x o => some (Enc.atom .mem 66 g q c x o)
  | .gtswapD g q c x o => some (Enc.atom .mem 67 g q c x o)
  | .vswap g q c x o => some (Enc.atom .mem 68 g q c x o)
  | .tagswap g q c x o => some (Enc.atom .mem 69 g q c x o)
  | .fence g q k => some (Enc.fenceW .mem 80 g q k)
  | .clasp g q k => some (Enc.claspW .mem 81 g q k)
  | .pfetch g l c o => some (Enc.pfetchW .mem 82 g l c o)
  | .cflush g c o => some (Enc.lineW .mem 83 g c o)
  | .cinv g c o => some (Enc.lineW .mem 84 g c o)
  | .femark g f c x o => some (Enc.femarkW .mem 85 g f c x o)
  | .cohset g c x o => some (Enc.cohsetW .mem 86 g c x o)
  | .lkread g d a => some (Enc.lkreadW .mem 87 g d a)
  | .lkbind g d a => some (Enc.lkbindW .mem 88 g d a)
  | .lkrst g a => some (Enc.lkrstW .mem 89 g a)
  | .copy g c h => some (Enc.engCmd .eng 0 g c h)
  | .gather g c h => some (Enc.engCmd .eng 1 g c h)
  | .scatter g c h => some (Enc.engCmd .eng 2 g c h)
  | .mgt g c h => some (Enc.engCmd .eng 3 g c h)
  | .coll g c h => some (Enc.engCmd .eng 4 g c h)
  | .tsend g c h => some (Enc.engCmd .eng 5 g c h)
  | .ctrset g c k => some (Enc.engCtr .eng 6 g c k)
  | .ctradd g c k => some (Enc.engCtr .eng 7 g c k)
  | .ctrrd g c k => some (Enc.engCtr .eng 8 g c k)
  | .chsend g c n => some (Enc.engCh .eng 9 g c n)
  | .chrecv g c n => some (Enc.engCh .eng 10 g c n)
  | .hwait g h d => some (Enc.engHwait .eng 11 g h d)
  | .htest g h d => some (Enc.engHtest .eng 12 g h d)
  | .hcancel g h => some (Enc.engHcancel .eng 13 g h)
  | .hsave g c h => some (Enc.engCmd .eng 14 g c h)
  | .hload g c h => some (Enc.engCmd .eng 15 g c h)
  | .hmov g h s => some (Enc.engHmov .eng 16 g h s)
  | .bra o => some (Enc.braW .ctl 0 o)
  | .bany p o => some (Enc.brW .ctl 1 p o)
  | .ball p o => some (Enc.brW .ctl 2 p o)
  | .bnone p o => some (Enc.brW .ctl 3 p o)
  | .bdiv p o => some (Enc.brW .ctl 4 p o)
  | .call p o => some (Enc.brW .ctl 5 p o)
  | .ret g => some (Enc.bareW .ctl 6 g)
  | .brx g a => some (Enc.sA .ctl 7 g a)
  | .rejoin g => some (Enc.bareW .ctl 8 g)
  | .exit g => some (Enc.bareW .ctl 9 g)
  | .yield g => some (Enc.bareW .ctl 10 g)
  | .bar g c o => some (Enc.barW .ctl 11 g c o)
  | .binit g c x o => some (Enc.binitW .ctl 12 g c x o)
  | .setfmt g a => some (Enc.sA .ctl 13 g a)
  | .getfmt g d => some (Enc.sD .ctl 14 g d)
  | .sread g sel d => some (Enc.sreadW .ctl 15 g sel d)
  | .swrite g sel a => some (Enc.swriteW .ctl 16 g sel a)
  | .trap g k => some (Enc.trapW .ctl 17 g k)
  | .tlbinv g u d a => some (Enc.tlbinvW .ctl 20 g u d a)
  | .pmovGet g d => some (encA .alu 0x72 g d 0 (0, 0, none))
  | .pmovPut g b => some (encA .alu 0x72 g 0 1 b.enc)
  | .pmovNz g pd b => some (encA .alu 0x72 g ((0 : BitVec 4) ++ pd) 2 b.enc)
  | .pmovMask g pd b => some (encA .alu 0x72 g ((0 : BitVec 4) ++ pd) 3 b.encCtl)
  | .nop => some { cls := .alu, word := 0xFE000000, ext := none }
  | .mma da db acc h f =>
    some { cls := .mtx, word := FmtT.word { op := 0, g := 0, da := da, db := db, acc := acc, h := h, f := BitVec.ofBool f },
           ext := none }
  | .mmaX da db acc h f e =>
    some { cls := .mtx, word := FmtT.word { op := 1, g := 0, da := da, db := db, acc := acc, h := h, f := BitVec.ofBool f },
           ext := some e }
  | .oprdy g => some (encS .mtx 2 g 0 0 0)
  | .mkdesc g d a b => some (encA .mtx 3 g (sfield d) (sfield a) b.enc)
  | .eret g => some (encS .ctl 0x12 g 0 0 0)
  | .eretNext g => some (encS .ctl 0x12 g 1 0 0)
  | .locketMerge _ => none
  | .locketCacheExpire _ _ => none
  | .mmaPassGrant _ => none
  | .mmaPromote _ => none
  | .mmaPassDone _ => none
  | .copySetStart _ => none
  | .engineTransferChunk _ _ => none
  | .engineTranslationCheck _ => none
  | .engineCommandDone _ => none
  | .collStart _ => none
  | .collResolve _ => none
  | .tsendFire _ => none
  | .tsendComplete _ => none
  | .counterIncrement _ => none
  | .yieldHoldExpire _ _ => none
  | .barrierWake _ => none
  | .regang _ => none
  | .sideStarvationIssue _ _ => none
  | .groupMark _ => none
  | .recordFetch _ _ => none
  | .queueSweep _ => none
  | .residencyScan _ => none
  | .queueEmptyTimeout _ _ => none
  | .evictionComplete _ _ => none
  | .gangDispatch _ _ => none
  | .launchComplete _ => none
  | .markerComplete _ => none
  | .channelOccupancySample _ => none
  | .frameStart _ => none
  | .slotLeadStart _ _ => none
  | .slotEdge _ _ => none
  | .engineSuspend _ => none
  | .drainDone _ _ => none
  | .ceHandover _ _ => none
  | .saveDone _ _ => none
  | .restoreDone _ _ => none
  | .vfIdleYield _ _ => none
  | .sltEnable _ => none
  | .sltDisable _ => none
  | .sltSwapRequest _ => none
  | .sltFrameWrite _ _ => none
  | .sltLeadWrite _ _ => none
  | .configRegisterWrite _ _ _ _ => none
  | .linkBucketRefill _ => none
  | .hbmBucketRefill _ => none
  | .preemptRequest _ _ => none
  | .pageFaultServiced _ _ _ _ => none
  | .pageFaultUnresolvable _ _ => none
  | .transitCopyResolve _ _ => none
  | .cohTransitionFlip _ => none
  | .dirRegionMerge _ _ _ => none
  | .clusterSleep _ _ => none
  | .clusterWake _ _ => none
  | .hostMemoryWrite _ _ _ _ => none
  | .hostMemoryRead _ _ _ _ => none
  | .qcreate _ _ => none
  | .qdestroy _ _ => none
  | .vfjoin _ _ => none
  | .partmove _ _ => none
  | .hacomp _ _ => none
  | .peerdown _ _ => none
  | .fwload _ _ => none
  | .hsemAcquire _ _ => none
  | .hsemRelease _ _ => none
  | .hsemTimeout _ => none
  | .haEventWrite _ => none
  | .haTimeout _ => none
  | .xeSubSubmit _ _ _ => none
  | .spdmGetVersion _ _ => none
  | .spdmGetCapabilities _ _ => none
  | .spdmNegotiateAlgorithms _ _ => none
  | .spdmGetDigests _ _ => none
  | .spdmGetCertificate _ _ => none
  | .spdmChallenge _ _ _ => none
  | .spdmGetMeasurements _ _ _ _ => none
  | .flitReceive _ _ _ => none
  | .linkTimeout _ _ => none
  | .keepaliveSend _ _ => none
  | .domainForm _ => none
  | .peerRouteTimeout _ _ => none
  | .peerLossAgree _ => none
  | .homePromoted _ => none
  | .mirrorRebuildDone _ => none
  | .eccCorrectable _ _ => none
  | .eccUncorrectable _ _ => none
  | .patrolScrub _ => none
  | .packageReset _ => none
  | .vfFlr _ _ => none
  | .lineEviction _ _ _ _ => none
  | .powerThrottling _ _ => none

/-! ### The opcode table's words -/

/-- The instruction of a decoding. -/
def Decoded.instr (d : Decoded) : Option Instr :=
  match d with
  | .ok i _ => some i
  | _ => none

/-- The word at position k of a table word (R2: the first word is the low 32 bits). -/
def tableWord (w k : Nat) : W := BitVec.ofNat 32 (w / 2 ^ (32 * k))

/-- The first class, in the order ALU, MEM, CTL, ENG, MTX, whose map gives a word an instruction: the table's rows
carry no class, which a clause header would supply (DESIGN CHOICE, notes/assumptions/7.md). -/
def decodeAnyClass (w : W) (ext : Option W) : Option Instr :=
  match (decode .alu w ext).instr with
  | some i => some i
  | none =>
    match (decode .mem w ext).instr with
    | some i => some i
    | none =>
      match (decode .ctl w ext).instr with
      | some i => some i
      | none =>
        match (decode .eng w ext).instr with
        | some i => some i
        | none => (decode .mtx w ext).instr

/-- The class `decodeAnyClass` takes. -/
def tableClass (w : W) (ext : Option W) : Option Cls :=
  if (decode .alu w ext).instr.isSome then some .alu
  else if (decode .mem w ext).instr.isSome then some .mem
  else if (decode .ctl w ext).instr.isSome then some .ctl
  else if (decode .eng w ext).instr.isSome then some .eng
  else if (decode .mtx w ext).instr.isSome then some .mtx
  else none

/-- The instruction the decoder reads from an opcode-table word of `nbits` bits; the word that follows is zero where
the table gives it no bits. A wider word that begins with a clause header is read in the header's class, and any other
wider word in class MTX, whose MMA.X is the one instruction of two words in the table. -/
def decodeTableWord (nbits w : Nat) : Option Instr :=
  if nbits = 0 then none
  else if nbits ≤ 32 then decodeAnyClass (tableWord w 0) (some (tableWord w 1))
  else
    match decodeHeader (tableWord w 0) with
    | some h => (decode h.cls (tableWord w 1) (some (tableWord w 2))).instr
    | none => (decode .mtx (tableWord w 0) (some (tableWord w 1))).instr

end Sys2Proof
end

