-- ==== Sys2Proof/WellFormed.lean ====
section
/-!
DEFINITION. Sys2Proof/WellFormed.lean: the instructions the encoding tables admit (R307 to R316 order 2) and the
events whose unit numbers exist (R8, R30).
-/
namespace Sys2Proof

/-- R311: an offset register is not v127, whose number selects the extension word. -/
def VOff.wf (o : VOff) : Bool :=
  match o with
  | .reg r => r != 0x7F
  | .ext _ none => true
  | .ext _ (some r) => r != 0x7F

/-- R280: the two ports and the 128 VF windows. -/
def Window.wf (w : Window) : Bool :=
  match w with
  | .pf p => decide (p < 2)
  | .vf v => decide (v < 128)

/-- Whether the encoding tables admit the operands of an instruction, and the units an event names exist. -/
def WellFormed (i : Instr) : Bool :=
  match i with
  | .iaddV _ _ _ _ => true
  | .iaddS _ _ _ _ => true
  | .iaddDV _ d a b => evenReg d && evenReg a && b.pairOk
  | .iaddDS _ d a b => evenReg d && evenReg a && b.pairOk
  | .isubV _ _ _ _ => true
  | .isubS _ _ _ _ => true
  | .isubDV _ d a b => evenReg d && evenReg a && b.pairOk
  | .isubDS _ d a b => evenReg d && evenReg a && b.pairOk
  | .imulV _ _ _ _ => true
  | .imulS _ _ _ _ => true
  | .imulhIV _ _ _ _ => true
  | .imulhIS _ _ _ _ => true
  | .imulhNV _ _ _ _ => true
  | .imulhNS _ _ _ _ => true
  | .imadV _ _ _ _ => true
  | .imadS _ _ _ _ => true
  | .iminIV _ _ _ _ => true
  | .iminIS _ _ _ _ => true
  | .iminNV _ _ _ _ => true
  | .iminNS _ _ _ _ => true
  | .imaxIV _ _ _ _ => true
  | .imaxIS _ _ _ _ => true
  | .imaxNV _ _ _ _ => true
  | .imaxNS _ _ _ _ => true
  | .iabsV _ _ _ => true
  | .iabsS _ _ _ => true
  | .andV _ _ _ _ => true
  | .andS _ _ _ _ => true
  | .orV _ _ _ _ => true
  | .orS _ _ _ _ => true
  | .xorV _ _ _ _ => true
  | .xorS _ _ _ _ => true
  | .notV _ _ _ => true
  | .notS _ _ _ => true
  | .shlV _ _ _ _ => true
  | .shlS _ _ _ _ => true
  | .shrV _ _ _ _ => true
  | .shrS _ _ _ _ => true
  | .sarV _ _ _ _ => true
  | .sarS _ _ _ _ => true
  | .rotV _ _ _ _ => true
  | .rotS _ _ _ _ => true
  | .popcV _ _ _ => true
  | .popcS _ _ _ => true
  | .clzV _ _ _ => true
  | .clzS _ _ _ => true
  | .brevV _ _ _ => true
  | .brevS _ _ _ => true
  | .bfeNV _ _ _ _ => true
  | .bfeNS _ _ _ _ => true
  | .bfeIV _ _ _ _ => true
  | .bfeIS _ _ _ _ => true
  | .bfiV _ _ _ _ => true
  | .bfiS _ _ _ _ => true
  | .selV _ _ _ _ => true
  | .selS _ _ _ _ => true
  | .movV _ _ _ => true
  | .movS _ _ _ => true
  | .icmpV _ _ _ _ _ => true
  | .icmpS _ _ _ _ _ => true
  | .fcmpF32 _ _ _ _ _ => true
  | .fcmpF64 _ _ _ a b => evenReg a && b.pairOk
  | .plop _ _ _ _ _ => true
  | .ballot _ _ _ => true
  | .faddF32V _ _ _ _ => true
  | .faddF32S _ _ _ _ => true
  | .faddF64 _ d a b => evenReg d && evenReg a && b.pairOk
  | .faddH2 _ _ _ _ => true
  | .faddB2 _ _ _ _ => true
  | .fsubF32 _ _ _ _ => true
  | .fsubF64 _ d a b => evenReg d && evenReg a && b.pairOk
  | .fmulF32V _ _ _ _ => true
  | .fmulF32S _ _ _ _ => true
  | .fmulF64 _ d a b => evenReg d && evenReg a && b.pairOk
  | .fmulH2 _ _ _ _ => true
  | .fmulB2 _ _ _ _ => true
  | .ffmaF32V _ _ _ _ => true
  | .ffmaF32S _ _ _ _ => true
  | .ffmaF64 _ d a b => evenReg d && evenReg a && b.pairOk
  | .ffmaH2 _ _ _ _ => true
  | .ffmaB2 _ _ _ _ => true
  | .fminF32 _ _ _ _ => true
  | .fmaxF32 _ _ _ _ => true
  | .fminF64 _ d a b => evenReg d && evenReg a && b.pairOk
  | .fmaxF64 _ d a b => evenReg d && evenReg a && b.pairOk
  | .fdot2 _ _ _ _ => true
  | .frcp _ _ _ => true
  | .frsq _ _ _ => true
  | .fsqrt _ _ _ => true
  | .fex2 _ _ _ => true
  | .flg2 _ _ _ => true
  | .fsin _ _ _ => true
  | .fcos _ _ _ => true
  | .cvtFromF32 _ _ _ tf d a => cvtTarget .fp32 tf && fmtRegOk .fp32 a && fmtRegOk tf d
  | .qnt _ _ _ _ => true
  | .unpk _ _ _ _ => true
  | .pack _ _ _ _ => true
  | .shflIdx _ _ _ _ => true
  | .shflXor _ _ _ _ => true
  | .shflUp _ _ _ _ => true
  | .shflDown _ _ _ _ => true
  | .vred _ _ _ _ => true
  | .vminxN _ d _ _ => evenReg d
  | .vminxI _ d _ _ => evenReg d
  | .vminxF _ d _ _ => evenReg d
  | .vmaxxN _ d _ _ => evenReg d
  | .vmaxxI _ d _ _ => evenReg d
  | .vmaxxF _ d _ _ => evenReg d
  | .vscan _ _ _ _ _ => true
  | .cvtFromF64 _ _ _ tf d a => cvtTarget .fp64 tf && fmtRegOk .fp64 a && fmtRegOk tf d
  | .cvtFromBf16 _ _ _ tf d a => cvtTarget .bf16 tf && fmtRegOk .bf16 a && fmtRegOk tf d
  | .cvtFromF16 _ _ _ tf d a => cvtTarget .fp16 tf && fmtRegOk .fp16 a && fmtRegOk tf d
  | .cvtFromE4m3 _ _ _ tf d a => cvtTarget .e4m3 tf && fmtRegOk .e4m3 a && fmtRegOk tf d
  | .cvtFromE5m2 _ _ _ tf d a => cvtTarget .e5m2 tf && fmtRegOk .e5m2 a && fmtRegOk tf d
  | .cvtFromI32 _ _ _ tf d a => cvtTarget .i32 tf && fmtRegOk .i32 a && fmtRegOk tf d
  | .cvtFromN32 _ _ _ tf d a => cvtTarget .n32 tf && fmtRegOk .n32 a && fmtRegOk tf d
  | .ldB8 _ _ _ _ _ o => o.wf
  | .ldX8 _ _ _ _ _ o => o.wf
  | .ldB16 _ _ _ _ _ o => o.wf
  | .ldX16 _ _ _ _ _ o => o.wf
  | .ldB32 _ _ _ _ _ o => o.wf
  | .ldB64 _ _ _ _ x o => dataReg 2 x && o.wf
  | .ldB128 _ _ _ _ x o => dataReg 4 x && o.wf
  | .stB8 _ _ _ _ _ o => o.wf
  | .stB16 _ _ _ _ _ o => o.wf
  | .stB32 _ _ _ _ _ o => o.wf
  | .stB64 _ _ _ _ x o => dataReg 2 x && o.wf
  | .stB128 _ _ _ _ x o => dataReg 4 x && o.wf
  | .ldB32Scalar _ _ _ _ _ _ => true
  | .ldB64Scalar _ _ _ _ x _ => dataReg 2 x
  | .stB32Scalar _ _ _ _ _ _ => true
  | .stB64Scalar _ _ _ _ x _ => dataReg 2 x
  | .atomAdd _ _ _ _ o => o.wf
  | .atomAnd _ _ _ _ o => o.wf
  | .atomOr _ _ _ _ o => o.wf
  | .atomXor _ _ _ _ o => o.wf
  | .atomMinI _ _ _ _ o => o.wf
  | .atomMinN _ _ _ _ o => o.wf
  | .atomMaxI _ _ _ _ o => o.wf
  | .atomMaxN _ _ _ _ o => o.wf
  | .atomExch _ _ _ _ o => o.wf
  | .atomFadd _ _ _ _ o => o.wf
  | .atomFmax _ _ _ _ o => o.wf
  | .atomFmin _ _ _ _ o => o.wf
  | .redAdd _ _ _ _ o => o.wf
  | .redAnd _ _ _ _ o => o.wf
  | .redOr _ _ _ _ o => o.wf
  | .redXor _ _ _ _ o => o.wf
  | .redMinI _ _ _ _ o => o.wf
  | .redMinN _ _ _ _ o => o.wf
  | .redMaxI _ _ _ _ o => o.wf
  | .redMaxN _ _ _ _ o => o.wf
  | .redExch _ _ _ _ o => o.wf
  | .redFadd _ _ _ _ o => o.wf
  | .redFmax _ _ _ _ o => o.wf
  | .redFmin _ _ _ _ o => o.wf
  | .cas _ _ _ _ o => o.wf
  | .casD _ _ _ x o => dataReg 4 x && o.wf
  | .gtswap _ _ _ _ o => o.wf
  | .gtswapD _ _ _ x o => dataReg 4 x && o.wf
  | .vswap _ _ _ x o => dataReg 4 x && o.wf
  | .tagswap _ _ _ x o => dataReg 4 x && o.wf
  | .fence _ _ _ => true
  | .clasp _ _ _ => true
  | .pfetch _ _ _ _ => true
  | .cflush _ _ _ => true
  | .cinv _ _ _ => true
  | .femark _ _ _ _ _ => true
  | .cohset _ _ _ _ => true
  | .lkread _ _ _ => true
  | .lkbind _ _ _ => true
  | .lkrst _ _ => true
  | .copy _ _ _ => true
  | .gather _ _ _ => true
  | .scatter _ _ _ => true
  | .mgt _ _ _ => true
  | .coll _ _ _ => true
  | .tsend _ _ _ => true
  | .ctrset _ _ _ => true
  | .ctradd _ _ _ => true
  | .ctrrd _ _ _ => true
  | .chsend _ _ _ => true
  | .chrecv _ _ _ => true
  | .hwait _ _ _ => true
  | .htest _ _ _ => true
  | .hcancel _ _ => true
  | .hsave _ _ _ => true
  | .hload _ _ _ => true
  | .hmov _ _ _ => true
  | .bra _ => true
  | .bany _ _ => true
  | .ball _ _ => true
  | .bnone _ _ => true
  | .bdiv _ _ => true
  | .call _ _ => true
  | .ret _ => true
  | .brx _ _ => true
  | .rejoin _ => true
  | .exit _ => true
  | .yield _ => true
  | .bar _ _ _ => true
  | .binit _ _ _ _ => true
  | .setfmt _ _ => true
  | .getfmt _ _ => true
  | .sread _ _ _ => true
  | .swrite _ _ _ => true
  | .trap _ _ => true
  | .tlbinv _ _ _ a => evenReg a
  | .pmovGet _ _ => true
  | .pmovPut _ _ => true
  | .pmovNz _ _ _ => true
  | .pmovMask _ _ _ => true
  | .nop => true
  | .mma _ _ _ _ _ => true
  | .mmaX _ _ _ _ _ _ => true
  | .oprdy _ => true
  | .mkdesc _ _ a _ => evenReg a
  | .eret _ => true
  | .eretNext _ => true
  | .locketMerge _ => true
  | .locketCacheExpire pkg core => decide (pkg < 512) && decide (core < 256)
  | .mmaPassGrant _ => true
  | .mmaPromote _ => true
  | .mmaPassDone _ => true
  | .copySetStart _ => true
  | .engineTransferChunk _ n => decide (0 < n)
  | .engineTranslationCheck _ => true
  | .engineCommandDone _ => true
  | .collStart _ => true
  | .collResolve _ => true
  | .tsendFire _ => true
  | .tsendComplete _ => true
  | .counterIncrement _ => true
  | .yieldHoldExpire _ _ => true
  | .barrierWake _ => true
  | .regang _ => true
  | .sideStarvationIssue _ _ => true
  | .groupMark _ => true
  | .recordFetch pkg q => decide (pkg < 512) && decide (q < 65536)
  | .queueSweep pkg => decide (pkg < 512)
  | .residencyScan pkg => decide (pkg < 512)
  | .queueEmptyTimeout pkg q => decide (pkg < 512) && decide (q < 65536)
  | .evictionComplete pkg q => decide (pkg < 512) && decide (q < 65536)
  | .gangDispatch _ stage => decide (stage < 8)
  | .launchComplete _ => true
  | .markerComplete _ => true
  | .channelOccupancySample _ => true
  | .frameStart pkg => decide (pkg < 512)
  | .slotLeadStart pkg part => decide (pkg < 512) && decide (part < 64)
  | .slotEdge pkg part => decide (pkg < 512) && decide (part < 64)
  | .engineSuspend _ => true
  | .drainDone pkg part => decide (pkg < 512) && decide (part < 64)
  | .ceHandover pkg part => decide (pkg < 512) && decide (part < 64)
  | .saveDone pkg part => decide (pkg < 512) && decide (part < 64)
  | .restoreDone pkg part => decide (pkg < 512) && decide (part < 64)
  | .vfIdleYield pkg part => decide (pkg < 512) && decide (part < 64)
  | .sltEnable pkg => decide (pkg < 512)
  | .sltDisable pkg => decide (pkg < 512)
  | .sltSwapRequest pkg => decide (pkg < 512)
  | .sltFrameWrite pkg _ => decide (pkg < 512)
  | .sltLeadWrite pkg _ => decide (pkg < 512)
  | .configRegisterWrite pkg win off bytes => decide (pkg < 512) && win.wf && decide (off < 0x4000000) && !bytes.isEmpty
  | .linkBucketRefill pkg => decide (pkg < 512)
  | .hbmBucketRefill pkg => decide (pkg < 512)
  | .preemptRequest pkg part => decide (pkg < 512) && decide (part < 64)
  | .pageFaultServiced pkg _ at_ _ => decide (pkg < 512) && at_ % 8 == 0
  | .pageFaultUnresolvable pkg _ => decide (pkg < 512)
  | .transitCopyResolve pkg idx => decide (pkg < 512) && decide (idx < 256)
  | .cohTransitionFlip _ => true
  | .dirRegionMerge pkg _ _ => decide (pkg < 512)
  | .clusterSleep pkg cluster => decide (pkg < 512) && decide (cluster < 64)
  | .clusterWake pkg cluster => decide (pkg < 512) && decide (cluster < 64)
  | .hostMemoryWrite pkg port _ _ => decide (pkg < 512) && decide (port < 2)
  | .hostMemoryRead pkg port _ _ => decide (pkg < 512) && decide (port < 2)
  | .qcreate pkg win => decide (pkg < 512) && win.wf
  | .qdestroy pkg win => decide (pkg < 512) && win.wf
  | .vfjoin pkg win => decide (pkg < 512) && win.wf
  | .partmove pkg win => decide (pkg < 512) && win.wf
  | .hacomp pkg win => decide (pkg < 512) && win.wf
  | .peerdown pkg win => decide (pkg < 512) && win.wf
  | .fwload pkg win => decide (pkg < 512) && win.wf
  | .hsemAcquire pkg port => decide (pkg < 512) && decide (port < 2)
  | .hsemRelease pkg port => decide (pkg < 512) && decide (port < 2)
  | .hsemTimeout pkg => decide (pkg < 512)
  | .haEventWrite pkg => decide (pkg < 512)
  | .haTimeout pkg => decide (pkg < 512)
  | .xeSubSubmit pkg core _ => pkg < 512 && core < 16
  | .spdmGetVersion pkg port => decide (pkg < 512) && decide (port < 2)
  | .spdmGetCapabilities pkg port => decide (pkg < 512) && decide (port < 2)
  | .spdmNegotiateAlgorithms pkg port => decide (pkg < 512) && decide (port < 2)
  | .spdmGetDigests pkg port => decide (pkg < 512) && decide (port < 2)
  | .spdmGetCertificate pkg port => decide (pkg < 512) && decide (port < 2)
  | .spdmChallenge pkg port _ => decide (pkg < 512) && decide (port < 2)
  | .spdmGetMeasurements pkg port index _ => decide (pkg < 512) && decide (port < 2) && decide (1 ≤ index) && decide (index ≤ 3)
  | .flitReceive pkg link flit => decide (pkg < 512) && decide (link < 18) && flit.length == 256
  | .linkTimeout pkg link => decide (pkg < 512) && decide (link < 18)
  | .keepaliveSend pkg link => decide (pkg < 512) && decide (link < 18)
  | .domainForm _ => true
  | .peerRouteTimeout pkg peer => decide (pkg < 512) && decide (peer < 512)
  | .peerLossAgree peer => decide (peer < 512)
  | .homePromoted peer => decide (peer < 512)
  | .mirrorRebuildDone peer => decide (peer < 512)
  | .eccCorrectable pkg _ => decide (pkg < 512)
  | .eccUncorrectable pkg _ => decide (pkg < 512)
  | .patrolScrub pkg => decide (pkg < 512)
  | .packageReset pkg => decide (pkg < 512)
  | .vfFlr pkg vf => decide (pkg < 512) && decide (vf < 128)
  | .lineEviction pkg core _ _ => decide (pkg < 512) && decide (core < 256)
  | .powerThrottling pkg _ => decide (pkg < 512)

end Sys2Proof
end

