-- ==== Sys2Proof/Machine/Ops.lean ====
section
/-!
DEFINITION. Sys2Proof/Machine/Ops.lean: the named operations over memory, registers, sides and groups, what packages
send one another (R289, R194), the directory and the copies it tracks (R185, R191, R192), taking a trap (R262, R265, R295) and the
refilling of a group's slots (R73, R80).
-/
namespace Sys2Proof.Machine

/-! ### Bytes and memory -/

/-- R2: the value of bytes, least significant first. -/
def leNat (bs : List Byte) : Nat := bs.foldr (fun b n => b.toNat + 256 * n) 0

/-- R2: the `k` low bytes of a number, least significant first. -/
def toLE : Nat → Nat → List Byte
  | 0, _ => []
  | k + 1, n => BitVec.ofNat 8 n :: toLE k (n / 256)

/-- The addresses listed rise strictly from `lo` and no listed byte is what an unlisted address reads as. -/
def Memory.wfFrom : Nat → Mem → Bool
  | _, [] => true
  | lo, (a, b) :: r => decide (lo ≤ a) && b != 0 && Memory.wfFrom (a + 1) r

/-- The canonical form of a memory (DESIGN CHOICE, notes/assumptions/1.md). -/
def Memory.wf (m : Mem) : Bool := Memory.wfFrom 0 m

/-- The byte at an address; an unlisted address reads as 0 (DESIGN CHOICE, notes/assumptions/1.md). -/
def Memory.read : Mem → Nat → Byte
  | [], _ => 0
  | (k, x) :: r, a => if k = a then x else if a < k then 0 else Memory.read r a

/-- Writing one byte keeps the canonical form. -/
def Memory.write : Mem → Nat → Byte → Mem
  | [], a, b => if b = 0 then [] else [(a, b)]
  | (k, x) :: r, a, b =>
    if k < a then (k, x) :: Memory.write r a b
    else if k = a then (if b = 0 then r else (a, b) :: r)
    else if b = 0 then (k, x) :: r else (a, b) :: (k, x) :: r

/-- `n` bytes from an address upward. -/
def Memory.readN (m : Mem) (a n : Nat) : List Byte := (List.range n).map (fun i => Memory.read m (a + i))

/-- Bytes written from an address upward. -/
def Memory.writeN : Mem → Nat → List Byte → Mem
  | m, _, [] => m
  | m, a, b :: bs => Memory.writeN (Memory.write m a b) (a + 1) bs

/-- Inserting into a strictly rising list. -/
def setInsert (n : Nat) : List Nat → List Nat
  | [] => [n]
  | k :: r => if n < k then n :: k :: r else if n = k then k :: r else k :: setInsert n r

/-- Whether a number lies in one of some ranges [lo, hi). -/
def rangesHas (l : List (Nat × Nat)) (k : Nat) : Bool := l.any (fun x => decide (x.1 ≤ k) && decide (k < x.2))

/-- A range added to ranges that rise and stand apart. -/
def rangesAdd (lo hi : Nat) : List (Nat × Nat) → List (Nat × Nat)
  | [] => [(lo, hi)]
  | (a, b) :: r =>
    if hi < a then (lo, hi) :: (a, b) :: r
    else if b < lo then (a, b) :: rangesAdd lo hi r
    else rangesAdd (min lo a) (max hi b) r

/-- A range taken out of ranges. -/
def rangesDrop (lo hi : Nat) (l : List (Nat × Nat)) : List (Nat × Nat) :=
  l.flatMap (fun x =>
    (if x.1 < min x.2 lo then [(x.1, min x.2 lo)] else []) ++ (if max x.1 hi < x.2 then [(max x.1 hi, x.2)] else []))

/-- The numbers from a to b inclusive. -/
def rangeIncl (a b : Nat) : List Nat := (List.range (b + 1 - a)).map (a + ·)

/-! ### Small helpers -/

/-- The lanes a mask holds, ascending. -/
def lanesOf (m : W) : List Nat := (List.range 32).filter (fun l => m.getLsbD l)

/-- The mask of a lane list. -/
def maskOf (l : List Nat) : W := l.foldl (fun m i => m ||| ((1 : W) <<< i)) 0

/-- R3: the 64-bit value of a pair. -/
def pairVal (lo hi : W) : DW := hi ++ lo

def loW (d : DW) : W := d.extractLsb' 0 32
def hiW (d : DW) : W := d.extractLsb' 32 32

/-- Replace the first element that a test picks. -/
def List.modFirst {α : Type} (p : α → Bool) (f : α → α) : List α → List α
  | [] => []
  | x :: r => if p x then f x :: r else x :: List.modFirst p f r

/-! ### Parts of the state -/

def State.pkg? (s : State) (n : Nat) : Option Pkg := s.pkgs.find? (fun p => p.num == n)
def State.modPkg (s : State) (n : Nat) (f : Pkg → Pkg) : State :=
  { s with pkgs := List.modFirst (fun p => p.num == n) f s.pkgs }
def State.agent? (s : State) (i : Nat) : Option Agent := s.agents.find? (fun a => a.id == i)
def State.modAgent (s : State) (i : Nat) (f : Agent → Agent) : State :=
  { s with agents := List.modFirst (fun a => a.id == i) f s.agents }
def State.setAgent (s : State) (a : Agent) : State := s.modAgent a.id (fun _ => a)
def State.crew? (s : State) (i : Nat) : Option Crew := s.crews.find? (fun c => c.id == i)
def State.modCrew (s : State) (i : Nat) (f : Crew → Crew) : State :=
  { s with crews := List.modFirst (fun c => c.id == i) f s.crews }
def State.launch? (s : State) (i : Nat) : Option Launch := s.launches.find? (fun l => l.id == i)
def State.modLaunch (s : State) (i : Nat) (f : Launch → Launch) : State :=
  { s with launches := List.modFirst (fun l => l.id == i) f s.launches }
def State.cmd? (s : State) (i : Nat) : Option Cmd := s.cmds.find? (fun c => c.inst == i)
def State.modCmd (s : State) (i : Nat) (f : Cmd → Cmd) : State :=
  { s with cmds := List.modFirst (fun c => c.inst == i) f s.cmds }
def State.mma? (s : State) (i : Nat) : Option MmaReq := s.mmas.find? (fun c => c.inst == i)
def State.modMma (s : State) (i : Nat) (f : MmaReq → MmaReq) : State :=
  { s with mmas := List.modFirst (fun c => c.inst == i) f s.mmas }
def State.inst? (s : State) (i : Nat) : Option Inst := s.insts.find? (fun c => c.inst == i)
def State.emit (s : State) (o : Out) : State := { s with out := o :: s.out }

def Pkg.vf (p : Pkg) (v : Nat) : Vf := p.vfs[v]?.getD Vf.reset
def Pkg.setVf (p : Pkg) (v : Nat) (x : Vf) : Pkg := { p with vfs := p.vfs.setIfInBounds v x }
def Pkg.modVf (p : Pkg) (v : Nat) (f : Vf → Vf) : Pkg := p.setVf v (f (p.vf v))
def State.vf (s : State) (n v : Nat) : Vf :=
  match s.pkg? n with
  | some p => p.vf v
  | none => Vf.reset
def State.modVf (s : State) (n v : Nat) (f : Vf → Vf) : State := s.modPkg n (fun p => p.modVf v f)
def Pkg.part (p : Pkg) (i : Nat) : Part := p.parts[i]?.getD Part.reset
def Pkg.modPart (p : Pkg) (i : Nat) (f : Part → Part) : Pkg :=
  { p with parts := p.parts.setIfInBounds i (f (p.part i)) }
def State.modPart (s : State) (n i : Nat) (f : Part → Part) : State := s.modPkg n (fun p => p.modPart i f)
def Pkg.setRow (p : Pkg) (i : Nat) : SetRow := p.sets[i]?.getD SetRow.reset
def Pkg.modQueue (p : Pkg) (n : Nat) (f : Queue → Queue) : Pkg :=
  { p with queues := List.modFirst (fun q => q.num == n) f p.queues }

/-- R298, R299: whether a package answers its host ports: its bring-up has come to step 6, or its image did not verify. -/
def Pkg.answers (p : Pkg) : Bool := p.formed || p.recovery

/-- R298, R299: whether a package offers its host ports more than a recovery function. -/
def Pkg.offers (p : Pkg) : Bool := p.formed && !p.recovery

/-- R299: a configuration request of a host port, which gets Configuration Request Retry Status while the package is not yet to
answer. -/
def State.whenAnswers (s : State) (pkg port : Nat) (go : Pkg → State) : State :=
  match s.pkg? pkg with
  | none => s
  | some p => if p.answers then go p else s.emit (.retry pkg port)

/-- The next free value as a word (R7). -/
def State.freeW (s : State) : W × State := (Config.freeWord s.free, { s with free := s.free + 1 })

/-- The bytes that stand at a place: in a memory, or in a crew's scratchpad. -/
def State.standing (s : State) (p : Place) (lo n : Nat) : List Byte :=
  match p with
  | .ctl => Memory.readN s.ctl lo n
  | .ten => Memory.readN s.ten lo n
  | .pad k => Memory.readN (((s.crew? k).map Crew.pad).getD []) lo n

/-- A write of `n` bytes noted, before it comes about. -/
def State.note (s : State) (p : Place) (lo n : Nat) : State :=
  { s with wlog :=
      { agent := s.cur.map Cursor.agent, cmd := none, place := p, lo := lo, hi := lo + n, old := s.standing p lo n } :: s.wlog }

/-- A write taken back. -/
def State.undo (s : State) (x : Wrote) : State :=
  match x.place with
  | .ctl => { s with ctl := Memory.writeN s.ctl x.lo x.old }
  | .ten => { s with ten := Memory.writeN s.ten x.lo x.old }
  | .pad k => s.modCrew k (fun c => { c with pad := Memory.writeN c.pad x.lo x.old })

/-- The state with the memories and scratchpads as they stood when the log of writes was `n` long. -/
def State.asOf (s : State) (n : Nat) : State := (s.wlog.take (s.wlog.length - n)).foldl State.undo s

/-- Whether a byte of a range has been written since the log of writes was `mark` long. -/
def State.wroteSince (s : State) (mark : Nat) (p : Place) (lo n : Nat) : Bool :=
  (s.wlog.take (s.wlog.length - mark)).any (fun x => x.place == p && decide (x.lo < lo + n) && decide (lo < x.hi))

/-- Whether a byte of a range was written while the log of writes grew from one length to another. -/
def State.wroteBetween (s : State) (from_ till : Nat) (p : Place) (lo n : Nat) : Bool :=
  ((s.wlog.drop (s.wlog.length - till)).take (till - from_)).any (fun x => x.place == p && decide (x.lo < lo + n) && decide (lo < x.hi))

/-- The place of a translated space. -/
def Space.place (sp : Space) : Place :=
  match sp with
  | .ctl => .ctl
  | .ten => .ten

/-- R93, R161: bead by bead, old or new bytes where they differ, as free values say; `k` counts the values drawn. -/
def mixFrom : Nat → Nat → List Byte → List Byte → List Byte × Nat
  | 0, k, _, new => (new, k)
  | n + 1, k, old, new =>
    let o := old.take 16
    let w := new.take 16
    let r := mixFrom n (if o = w then k else k + 1) (old.drop 16) (new.drop 16)
    ((if o = w || Config.freeBit k then w else o) ++ r.1, r.2)

/-- R93, R161: bytes each whole bead of which is old or new, unpredictably. -/
def State.mixBeads (s : State) (old new : List Byte) : List Byte × State :=
  let r := mixFrom (new.length / 16) s.free old new
  (r.1, { s with free := r.2 })

/-- A fresh number for an agent, instance, request or message. -/
def State.fresh (s : State) : Nat × State := (s.nextId, { s with nextId := s.nextId + 1 })

/-- R404: whether an instance number may be given: its 32 bits are not 0 and name no instance whose status is available. -/
def State.instFree (s : State) (n : Nat) : Bool :=
  n % 2 ^ 32 != 0 && !(s.insts.any (fun x => x.inst % 2 ^ 32 == n % 2 ^ 32))

/-- R404: the number of a new instance. -/
def State.freshInst (s : State) : Nat × State :=
  let n := s.nextId + ((List.range (s.insts.length + 2)).find? (fun k => s.instFree (s.nextId + k))).getD 0
  (n, { s with nextId := n + 1 })

/-! ### Registers -/

def Agent.vreg (a : Agent) (r lane : Nat) : W :=
  match a.v[r]? with
  | some row => row[lane]?.getD 0
  | none => 0

/-- R65 to R67: vD of the lanes of a mask; writing a register clears its poison (R277). -/
def Agent.setV (a : Agent) (r : Nat) (m : W) (f : Nat → W) : Agent :=
  match a.v[r]? with
  | some row =>
    { a with
      v := a.v.setIfInBounds r (Vector.ofFn (fun l : Fin 32 => if m.getLsbD l.val then f l.val else row[l.val]))
      vpoison := if a.vpoison.isEmpty then [] else
        a.vpoison.filter (fun k => !(k / 32 == r && m.getLsbD (k % 32)))
      vcount := a.vcount + 1
      vlast := (r, m, a.vcount + 1) ::
        (a.vlast.map (fun x => if x.1 == r then (x.1, x.2.1 &&& ~~~m, x.2.2) else x)).filter (fun x => x.2.1 != 0) }
  | none => a

/-- R277: the lanes of a mask poisoned in a register. -/
def Agent.spoilV (a : Agent) (r : Nat) (m : W) : Agent :=
  if m = 0 then a else { a with vpoison := (lanesOf m).foldl (fun l k => setInsert (32 * r + k) l) a.vpoison }

/-- The count of register writes at the last write of a register's lane. -/
def Agent.vwrote (a : Agent) (r l : Nat) : Nat :=
  ((a.vlast.find? (fun x => x.1 == r && x.2.1.getLsbD l)).map (fun x => x.2.2)).getD 0

def Agent.sreg (a : Agent) (r : Nat) : W := a.s[r]?.getD 0
def Agent.setS (a : Agent) (r : Nat) (x : W) : Agent := { a with s := a.s.setIfInBounds r x }
/-- R3, R307: the scalar pair s(2n):s(2n+1). -/
def Agent.spair (a : Agent) (n : Nat) : DW := pairVal (a.sreg (2 * n)) (a.sreg (2 * n + 1))
def Agent.setPair (a : Agent) (r : Nat) (x : DW) : Agent := (a.setS r (loW x)).setS (r + 1) (hiW x)
/-- R3: a 64-bit value in vector registers r and r + 1 of a lane. -/
def Agent.vpair (a : Agent) (r lane : Nat) : DW := pairVal (a.vreg r lane) (a.vreg (r + 1) lane)
def Agent.setVPair (a : Agent) (r : Nat) (m : W) (f : Nat → DW) : Agent :=
  (a.setV r m (fun l => loW (f l))).setV (r + 1) m (fun l => hiW (f l))

/-- R64: the lanes in which a predicate is true; p0 is true everywhere. -/
def Agent.pred (a : Agent) (k : Nat) : W := if k = 0 then BitVec.allOnes 32 else a.p[k - 1]?.getD 0

/-- R64: a predicate written in the lanes of a mask; a write to p0 is dropped. -/
def Agent.setPred (a : Agent) (k : Nat) (m v : W) : Agent :=
  if k = 0 then a else { a with p := a.p.setIfInBounds (k - 1) ((a.pred k &&& ~~~m) ||| (v &&& m)) }

def Agent.handle (a : Agent) (k : Nat) : Handle := a.h[k]?.getD .idle
def Agent.setHandle (a : Agent) (k : Nat) (x : Handle) : Agent := { a with h := a.h.setIfInBounds k x }

def Agent.isCc (a : Agent) : Bool := a.cc.isSome
def Agent.side (a : Agent) (slot : Bool) : Option Side := if slot then a.sec else a.prim
def Agent.setSide (a : Agent) (slot : Bool) (x : Option Side) : Agent :=
  if slot then { a with sec := x } else { a with prim := x }

/-- R315, R65: the active lanes of a word under its guard. -/
def activeMask (a : Agent) (sd : Side) (g : Pred) : W := sd.mask &&& a.pred g.toNat

/-- R68: entries on the divergence stack. -/
def Agent.sdepth (a : Agent) : Nat := a.stack.length

/-- R71: the four words of an entry as its 16 bytes hold it: HDR with PARKED, MASK and FMT. -/
def Entry.image (e : Entry) : List W :=
  [(loW e.pt.hdr &&& ~~~3) ||| (if e.park.isSome then 1 else 0), hiW e.pt.hdr, e.mask, e.fmt]

/-- R71: what a group's divergence-stack area holds, its oldest entry first: `divmax` entries and two more for parked sides. The
spec gives neither the area's address nor the order of its entries (DESIGN CHOICE, notes/assumptions/12.md). -/
def Agent.stackArea (a : Agent) : List W := a.stack.reverse.flatMap Entry.image

/-- R71: the byte of a group's entries at a control address, none where no entry stands there. -/
def Agent.entryByte (a : Agent) (pa : Nat) : Option Byte :=
  if a.isCc || a.stack.isEmpty || decide (pa < Config.divArea a.id) then none
  else (a.stackArea.flatMap (fun w => toLE 4 w.toNat))[pa - Config.divArea a.id]?

/-- R71: whether bytes of control space meet a group's divergence-stack area of (n + 2) × 16 bytes. -/
def Agent.areaMeets (a : Agent) (pa n : Nat) : Bool :=
  !a.isCc && decide (pa < Config.divArea a.id + 16 * (a.divmax + 2)) && decide (Config.divArea a.id < pa + n)

/-- R71: entries that are spilled, not parked. -/
def Agent.spilled (a : Agent) : Nat := (a.stack.filter (fun e => e.park.isNone)).length

/-! ### The issuing side -/

/-- The agent, side and cursor of the word being issued. -/
def State.issuer? (s : State) : Option (Agent × Side × Cursor) :=
  match s.cur with
  | none => none
  | some c =>
    match s.agent? c.agent with
    | none => none
    | some a =>
      match a.side c.slot with
      | none => none
      | some sd => some (a, sd, c)

/-- R305: the point after `len` more words: inside the clause, or the next clause's header. -/
def ClausePt.advance (p : ClausePt) (len : Nat) : ClausePt :=
  if p.pos + len ≤ p.count then { p with pos := p.pos + len }
  else ClausePt.at (p.hdr + BitVec.ofNat 64 (4 * (p.count + 1)))

/-- The address of the next word. -/
def ClausePt.addr (p : ClausePt) : DW := p.hdr + BitVec.ofNat 64 (4 * p.pos)

/-- R305: the header after the clause. -/
def ClausePt.nextClause (p : ClausePt) : DW := p.hdr + BitVec.ofNat 64 (4 * (p.count + 1))

/-- The side after its word has taken effect. -/
def Side.retired (sd : Side) (len : Nat) : Side :=
  { sd with pt := sd.pt.advance len, stall := none, began := none, ahead := false, waited := 0, starved := false }

/-- The side at the target of a taken branch (R305). -/
def Side.jumped (sd : Side) (dest : DW) : Side :=
  { sd with pt := ClausePt.at dest, stall := none, began := none, ahead := false, waited := 0, starved := false }

/-- R305: the word has taken effect and the side goes on with the next one. -/
def State.retire (s : State) (c : Cursor) : State :=
  s.modAgent c.agent (fun a =>
    match a.side c.slot with
    | some sd => a.setSide c.slot (some (sd.retired c.len))
    | none => a)

/-- The side branches and its clause ends (R305). -/
def State.jump (s : State) (c : Cursor) (dest : DW) : State :=
  s.modAgent c.agent (fun a =>
    match a.side c.slot with
    | some sd => a.setSide c.slot (some (sd.jumped dest))
    | none => a)

/-- Whether a wait is that of a word that has issued and is complete once the wait is over (R93, R94, R176, R402). -/
def Stall.isBegun (w : Stall) : Bool :=
  match w with
  | .hwait _ => true
  | .chsend _ _ _ => true
  | .chrecv _ _ => true
  | .clasp _ _ => true
  | .posting _ _ _ _ _ => true
  | _ => false

/-- A side stalled at its word. -/
def Side.stalled (sd : Side) (w : Stall) : Side := { sd with stall := some w, began := if w.isBegun then some w else sd.began }

/-- The side stalls at its word, which will issue again (R84, R92, R94, R144, R196, R266 …). -/
def State.stall (s : State) (c : Cursor) (w : Stall) : State :=
  s.modAgent c.agent (fun a =>
    match a.side c.slot with
    | some sd => a.setSide c.slot (some (sd.stalled w))
    | none => a)

/-- A word of a side has issued, and may still wait (R77). -/
def State.begins (s : State) (c : Cursor) (w : Stall) : State :=
  s.modAgent c.agent (fun a =>
    match a.side c.slot with
    | some sd => a.setSide c.slot (some { sd with began := some w })
    | none => a)

/-- R364, R366: the instance, the engine and the kind of an engine word that has still to copy its block. -/
def Side.posts (sd : Side) : Option (Nat × Nat × CmdKind) :=
  match sd.began with
  | some (.posting _ i k e _) => some (i, e, k)
  | _ => none

/-- The engine words of an agent that have still to copy their blocks. -/
def Agent.posts (a : Agent) : List (Nat × Nat × CmdKind) := [a.prim, a.sec].filterMap (fun x => x.bind Side.posts)

/-- R196: whether an agent has an earlier engine word for an engine that has still to copy its block. -/
def State.postsBefore (s : State) (agent eng inst : Nat) : Bool :=
  s.agents.any (fun a => a.id == agent && a.posts.any (fun x => x.2.1 == eng && decide (x.1 < inst)))

/-! ### Fmt flags merged into the issuing side (R52, R74) -/

/-- The side's fmt with these bits of [19:16] set. -/
def State.orFmt (s : State) (c : Cursor) (flags : W) : State :=
  if flags = 0 then s else
  s.modAgent c.agent (fun a =>
    match a.side c.slot with
    | some sd => a.setSide c.slot (some { sd with fmt := sd.fmt ||| (flags &&& 0xF0000) })
    | none => a)

/-! ### Causes (R259) -/

namespace Cause
def illegalClause : Nat := 0x01
def illegalInstr : Nat := 0x02
def regRange : Nat := 0x03
def misaligned : Nat := 0x04
def pageFault : Nat := 0x05
def access : Nat := 0x06
def remoteTensor : Nat := 0x07
def divOverflow : Nat := 0x08
def cvtOverflow : Nat := 0x09
def rescale : Nat := 0x0A
def weightBlock : Nat := 0x0B
def mtxOperand : Nat := 0x0C
def handle : Nat := 0x0D
def channel : Nat := 0x0E
def barrier : Nat := 0x0F
def privileged : Nat := 0x10
def trapInstr : Nat := 0x11
def engineDesc : Nat := 0x12
def peerLost : Nat := 0x13
def poison : Nat := 0x14
def cohIsolation : Nat := 0x15
def transitOverflow : Nat := 0x16
def cancelled : Nat := 0x17
def engineFault : Nat := 0x18
def slotOverrun : Nat := 0x1A
end Cause

/-- R264: the causes whose traps write a fault record. -/
def memCauses : List Nat :=
  [Cause.misaligned, Cause.pageFault, Cause.access, Cause.remoteTensor, Cause.peerLost, Cause.poison, Cause.cohIsolation]

/-! ### Physical addresses -/

/-- R134, R291: whether a package number names a package of the domain, one that has been lost included. -/
def State.inDomain (s : State) (n : Nat) : Bool := s.pkgs.any (fun p => p.num == n && p.formed) || s.lost.contains n

/-- R134: a control physical address that a line of the domain backs. -/
def State.ctlPaOk (s : State) (pa : Nat) : Bool := s.inDomain (pa / 2 ^ 33)

/-- R293: the package that is home of the control lines of package `n`. -/
def State.homeOf (s : State) (n : Nat) : Nat := ((s.homes.find? (fun x => x.1 == n)).map (fun x => x.2)).getD n

/-- R17, R18, R293: the package that is home of a physical address. -/
def State.homeAt (s : State) (sp : Space) (pa : Nat) : Nat :=
  match sp with
  | .ctl => s.homeOf (pa / 2 ^ 33)
  | .ten => pa / 2 ^ 40

/-! ### What packages send one another (R289) -/

/-- R289: the flits that carry bytes to an address on another package: 232 bytes in each, and one where there are none. -/
def flitsOf (vc : Nat) (k : FlitKind) (src dst addr : Nat) (bs : List Byte) : List Flit :=
  (List.range (max 1 ((bs.length + 231) / 232))).map (fun i =>
    { vc := vc, kind := k, dst := dst, src := src, addr := BitVec.ofNat 64 (addr + 232 * i), payload := (bs.drop (232 * i)).take 232 })

/-- R289, R290: the flits that an end of a link keeps: those that wait there, and those sent and not yet accepted. -/
def Link.flits (l : Link) : List Flit := l.wait ++ l.replay.map (fun x => x.2)

/-- R291: every flit that is on its way. -/
def State.flits (s : State) : List Flit :=
  s.traffic.map (fun x => x.2) ++ s.pkgs.flatMap (fun p => p.links.toList.flatMap Link.flits)

/-- R291: the places in the order of sending that new flits take. -/
def State.placed (s : State) (l : List Flit) : List Flit :=
  let n := (s.flits.map (fun f => f.ord)).foldl max 0
  l.zipIdx.map (fun x => { x.1 with ord := n + 1 + x.2 })

/-- R289, R291: flits come up in the order in which they are listed, each at its source. -/
def State.sendOut (s : State) (l : List Flit) : State :=
  { s with traffic := s.traffic ++ (s.placed l).map (fun f => (f.src, f)) }

/-- R289: bytes go from one package to another on a virtual channel; within a package they take no link. -/
def State.carry (s : State) (vc : Nat) (k : FlitKind) (src dst addr : Nat) (bs : List Byte) : State :=
  if src = dst then s else s.sendOut (flitsOf vc k src dst addr bs)

/-- R194: what a package wrote goes from the home of a control line to its mirror. -/
def State.carryMirror (s : State) (owner src dst addr : Nat) (bs : List Byte) : State :=
  if src = dst then s else s.sendOut ((flitsOf 4 .data src dst addr bs).map (fun f => { f with owner := some owner }))

/-- R290, R292: whether flits of a command's chunk are on their way; those to or from a lost package are gone. -/
def State.flying (s : State) (inst : Nat) : Bool :=
  s.flits.any (fun f => f.cmd == some inst && !(s.lost.contains f.src) && !(s.lost.contains f.dst))

/-- R290: the flits that `t` has to send beyond those of `s`, as those of a command's chunk. -/
def State.flitsFor (s t : State) (inst : Nat) : List (Nat × Flit) :=
  (t.traffic.drop s.traffic.length).map (fun x => (x.1, { x.2 with cmd := some inst }))

/-- R178, R290: what a command does at once. Where it sends flits to other packages these go out first, and it comes about, with
what it reads and writes there, when all of them have been accepted (DESIGN CHOICE, notes/assumptions/9.md). -/
def State.overLinks (s : State) (c : Cmd) (go : State → State) : State :=
  let t := go s
  let new := s.flitsFor t c.inst
  if c.sent then ({ t with traffic := s.traffic } : State).modCmd c.inst (fun d => { d with sent := false })
  else if new.isEmpty then t
  else ({ s with traffic := s.traffic ++ new } : State).modCmd c.inst (fun d => { d with sent := true })

/-- R289: the virtual channels of the requests to a space and of the answers: VC0 and VC1 for control space, VC2 for tensor bulk
and VC4 for its replies. -/
def Space.channels (sp : Space) : Nat × Nat :=
  match sp with
  | .ctl => (0, 1)
  | .ten => (2, 4)

/-- R194, R289: bytes that have come to the home of a control line go on to its mirror, on VC4 as what is written back does, and
are acknowledged on VC1 (DESIGN CHOICE, notes/assumptions/18.md). -/
def State.mirrored (s : State) (pkg pa : Nat) (bs : List Byte) : State :=
  match s.pkg? (s.homeAt .ctl pa) with
  | some p => (s.carryMirror pkg p.num p.mirror pa bs).carry 1 .response p.mirror p.num pa []
  | none => s

/-- R194: bytes that a package sent to an address and that are to be mirrored. -/
def State.mirroredAt (s : State) (sp : Space) (pkg pa : Nat) (bs : List Byte) : State :=
  if bs.isEmpty || sp == .ten then s else s.mirrored pkg pa bs

/-- R194, R289: a package's request to the home of an address, and the answer. -/
def State.exchange (s : State) (sp : Space) (pkg pa : Nat) (sent got : List Byte) : State :=
  let k : FlitKind := match sp with
    | .ctl => .request
    | .ten => if sent.isEmpty then .request else .data
  ((s.carry sp.channels.1 k pkg (s.homeAt sp pa) pa sent).mirroredAt sp pkg pa sent).carry sp.channels.2 .response (s.homeAt sp pa) pkg
    pa got

/-- R175, R194, R289: an atomic on `n` bytes goes to the home of its address, on VC3 where that is tensor space, and is answered
once the mirror of a control line holds what the home holds. -/
def State.atomicTo (s : State) (sp : Space) (pkg pa n : Nat) (sent got : List Byte) : State :=
  let vc : Nat := match sp with
    | .ctl => 0
    | .ten => 3
  ((s.carry vc .atomic pkg (s.homeAt sp pa) pa sent).mirroredAt sp pkg pa (Memory.readN s.ctl pa n)).carry sp.channels.2 .response
    (s.homeAt sp pa) pkg pa got

/-- R289: coherence on VC1: the home of a control line asks a package about its copies, and is answered, with the bytes that it
owes. -/
def State.probe (s : State) (pkg line : Nat) (owed : List Byte) : State :=
  (s.carry 1 .request (s.homeAt .ctl (128 * line)) pkg (128 * line) []).carry 1 .response pkg (s.homeAt .ctl (128 * line))
    (128 * line) owed

/-- R185: whether the bytes that a copy holds are still to be written home. -/
def HardCopy.owes (c : HardCopy) : Bool := c.st == .m || c.st == .o

/-- R187, R189, R193, R289: the bytes that copies of a package owe go home on VC4. -/
def State.hardHome (s : State) (pkg : Nat) (l : List HardCopy) : State :=
  (l.filter HardCopy.owes).foldl (fun s c =>
    let bs := Memory.readN s.ctl (128 * c.line) 128
    (s.carry 4 .data pkg (s.homeAt .ctl (128 * c.line)) (128 * c.line) bs).mirrored pkg (128 * c.line) bs) s

/-- R187, R193: those copies of a package leave, what they owe written home. -/
def State.hardDrop (s : State) (pkg : Nat) (goes : HardCopy → Bool) : State :=
  (s.hardHome pkg (((s.pkg? pkg).map (fun p => p.hard.filter goes)).getD [])).modPkg pkg (fun p =>
    { p with hard := p.hard.filter (fun c => !goes c) })

/-- R289, R291, R292: what the MP of a package agrees on with those of the other members of its domain goes over VC5. -/
def State.agree (s : State) (pkg : Nat) : State :=
  (s.pkgs.filter (fun q => q.formed)).foldl (fun s q => s.carry 5 .request pkg q.num 0 []) s

/-- R18: bytes of tensor space that back each package's window. -/
def tensorBacked : Nat := 496 * 2 ^ 30

/-- R134, R18: a tensor physical address that is backed. -/
def State.tenPaOk (s : State) (pa : Nat) : Bool := s.inDomain (pa / 2 ^ 40) && pa % 2 ^ 40 < tensorBacked

/-- The memory of a space. -/
def State.mem (s : State) (sp : Space) : Mem :=
  match sp with
  | .ctl => s.ctl
  | .ten => s.ten

def State.setMem (s : State) (sp : Space) (m : Mem) : State :=
  match sp with
  | .ctl => { s with ctl := m }
  | .ten => { s with ten := m }

def State.poison (s : State) (sp : Space) : List (Nat × Nat) :=
  match sp with
  | .ctl => s.ctlPoison
  | .ten => s.tenPoison

def State.setPoison (s : State) (sp : Space) (l : List (Nat × Nat)) : State :=
  match sp with
  | .ctl => { s with ctlPoison := l }
  | .ten => { s with tenPoison := l }

/-- R277: whether any byte of a range lies in a poisoned granule. -/
def State.isPoisoned (s : State) (sp : Space) (pa n : Nat) : Bool :=
  (s.poison sp).any (fun x => decide (pa < 4 * x.2) && decide (4 * x.1 < pa + n))

/-- R277: the 32 granules of a line poisoned. -/
def State.poisonLine (s : State) (sp : Space) (line : Nat) : State :=
  s.setPoison sp (rangesAdd (32 * line) (32 * line + 32) (s.poison sp))

/-! ### The page walk (R268) -/

/-- What a walk finds. -/
inductive Walk where
  /-- a leaf that passed the checks of R133, its size, and where it stands in control memory -/
  | leaf (e : DW) (size : PgSize) (at_ : Nat)
  /-- an INVALID entry, with its level and its place -/
  | invalid (level at_ : Nat)
  /-- a cause found in the walk, with its level -/
  | bad (cause level : Nat)
  /-- an entry whose lost home is still being promoted (R293) -/
  | lost (pkg : Nat)
deriving DecidableEq, Repr

/-- A level of R268: its number in DETAIL, the shift and width of its index, and the size of a leaf there. -/
structure Level where
  num : Nat
  shift : Nat
  width : Nat
  leaf : Option PgSize
deriving DecidableEq, Repr

/-- R268: levels L0 to L3. -/
def ctlLevels : List Level :=
  [⟨1, 35, 13, some .g32⟩, ⟨2, 29, 6, some .m512⟩, ⟨3, 21, 8, some .m2⟩, ⟨4, 16, 5, some .k64⟩]

/-- R268: level T and below. -/
def tenLevels : List Level := ⟨0, 48, 8, none⟩ :: ctlLevels

/-- R133: the physical address a leaf maps its page to. -/
def leafPa (e : DW) : Nat := (e.extractLsb' 16 34).toNat * 65536
/-- R133: ST. -/
def leafSt (e : DW) : Nat := (e.extractLsb' 0 2).toNat
/-- R133: COH. -/
def leafCoh (e : DW) : Nat := (e.extractLsb' 4 2).toNat
/-- R133: W. -/
def leafW (e : DW) : Bool := e.getLsbD 6
/-- R133: X. -/
def leafX (e : DW) : Bool := e.getLsbD 7
/-- R133: TIDX. -/
def leafTidx (e : DW) : Nat := (e.extractLsb' 56 8).toNat

/-- R133: the checks of a leaf that is not INVALID, for a page of this space and size. -/
def leafOk (sp : Space) (size : PgSize) (e : DW) : Bool :=
  leafSt e != 3 && (e.extractLsb' 2 2).toNat == size.code && e.extractLsb' 8 8 == 0 && e.extractLsb' 50 6 == 0 &&
  (leafTidx e == 0 || leafSt e == 2) && leafPa e % 2 ^ size.log2 == 0 && (sp == .ctl || leafCoh e == 0)

/-- R268: the walk from a table, level by level. A table that its entry's address does not align is read from that address on
(DESIGN CHOICE, notes/assumptions/108.md). -/
def State.walkFrom (s : State) (sp : Space) (va : Nat) : List Level → Nat → Walk
  | [], _ => .bad Cause.access 4
  | lv :: rest, base =>
    let at_ := base + 8 * (va / 2 ^ lv.shift % 2 ^ lv.width)
    if !s.ctlPaOk at_ then .bad Cause.access lv.num
    else if s.promoting.contains (at_ / 2 ^ 33) then .lost (at_ / 2 ^ 33)
    else if s.isPoisoned .ctl at_ 8 then .bad Cause.poison lv.num
    else
      let e : DW := BitVec.ofNat 64 (leNat (Memory.readN s.ctl at_ 8))
      if leafSt e = 0 then .invalid lv.num at_
      else if leafSt e = 3 && !rest.isEmpty then
        if e.extractLsb' 2 6 != 0 || e.extractLsb' 50 14 != 0 then .bad Cause.access lv.num
        else s.walkFrom sp va rest ((e.extractLsb' 8 42).toNat * 256)
      else
        match lv.leaf with
        | none => .bad Cause.access lv.num
        | some size => if leafOk sp size e then .leaf e size at_ else .bad Cause.access lv.num

/-- R268: where the entries stand that a walk from a table reads. -/
def State.walkAts (s : State) (va : Nat) : List Level → Nat → List Nat
  | [], _ => []
  | lv :: rest, base =>
    let at_ := base + 8 * (va / 2 ^ lv.shift % 2 ^ lv.width)
    let e : DW := BitVec.ofNat 64 (leNat (Memory.readN s.ctl at_ 8))
    at_ :: (if leafSt e = 3 then s.walkAts va rest ((e.extractLsb' 8 42).toNat * 256) else [])

/-- R306: whether code pages share bytes. -/
def CodePage.meets (p q : CodePage) : Bool :=
  p.place == q.place && decide (p.base < q.base + q.size) && decide (q.base < p.base + p.size)

/-- How long the log of writes was when one of these 8-byte entries was last written. -/
def State.lastWritten (s : State) (ats : List Nat) : Nat :=
  (s.wlog.dropWhile (fun x => !(decide (x.place = .ctl) && ats.any (fun a => decide (x.lo < a + 8) && decide (a < x.hi))))).length

/-- Bytes of control memory as they stood before a write. -/
def Wrote.before (x : Wrote) (at_ : Nat) (bs : List Byte) : List Byte :=
  if x.place ≠ .ctl then bs
  else bs.zipIdx.map (fun y => if x.lo ≤ at_ + y.2 then x.old.getD (at_ + y.2 - x.lo) y.1 else y.1)

/-- R306: whether the page that the leaf of a code page mapped has been written, while it mapped it, since the log of writes was
`mark` long. -/
def State.wroteMapped (s : State) (mark : Nat) (q : CodePage) : Bool :=
  ((s.wlog.take (s.wlog.length - mark)).foldl (fun acc x =>
    let bs := x.before q.leaf acc.1
    let e : DW := BitVec.ofNat 64 (leNat bs)
    (bs, acc.2 || leafSt e == 1 && x.place == q.place && decide (x.lo < leafPa e + q.size) && decide (leafPa e < x.hi)))
    (Memory.readN s.ctl q.leaf 8, false)).2

/-- R306: the code pages of a launch that were written while it ran; of a page that its leaf maps no longer, before the leaf
changed. -/
def State.spoils (s : State) (l : Launch) : List CodePage :=
  l.codePages.filter (fun q =>
    let e : DW := BitVec.ofNat 64 (leNat (Memory.readN s.ctl q.leaf 8))
    let till := if leafSt e = 1 && leafPa e == q.base then s.wlog.length else s.lastWritten [q.leaf]
    s.wroteBetween q.since till q.place q.base q.size || s.wroteMapped l.mark q)

/-- R306: a launch that ends leaves what it found written of its code pages. -/
def State.spoilBy (s : State) (l : Launch) : State := { s with spoiled := s.spoils l ++ s.spoiled }

/-- R268, R269: the tables below the root that a walk passes through: level, prefix of the address and base. -/
def State.walkTables (s : State) (va : Nat) : List Level → Nat → List (Nat × Nat × Nat)
  | lv :: nx :: rest, base =>
    let at_ := base + 8 * (va / 2 ^ lv.shift % 2 ^ lv.width)
    let e : DW := BitVec.ofNat 64 (leNat (Memory.readN s.ctl at_ 8))
    if s.ctlPaOk at_ && !s.isPoisoned .ctl at_ 8 && leafSt e == 3 && e.extractLsb' 2 6 == 0 && e.extractLsb' 50 14 == 0 then
      let b := (e.extractLsb' 8 42).toNat * 256
      (nx.num, va / 2 ^ lv.shift, b) :: s.walkTables va (nx :: rest) b
    else []
  | _, _ => []

/-! ### Who accesses -/

/-- The agent that an access acts for: its package, VF, address space, and the caches it goes through. -/
structure Who where
  pkg : Nat
  vf : Nat
  asid : Nat
  croot : Nat
  troot : Nat
  /-- TLBs, nearest first -/
  tlbs : List TlbAt
  /-- the core whose L1 holds its lines; none for an engine -/
  core : Option Nat
  cc : Bool
  /-- a control core in supervisor state (R136, R271) -/
  supervisor : Bool
  crew : Nat
  gang : Nat
deriving DecidableEq, Repr

/-! ### Coherence domains (R192) -/

/-- R192: a coherence domain. -/
inductive Dom where
  | control
  | tenant (t : Nat)
  | alone (pkg vf : Nat)
deriving DecidableEq, Repr

/-- R163, R192: the domain of a VF; 0x80 stands for the control cores. -/
def State.domain (s : State) (pkg vf : Nat) : Dom :=
  if vf ≥ 128 then .control
  else if (s.vf pkg vf).tenant = 0 then .alone pkg vf else .tenant (s.vf pkg vf).tenant.toNat

/-- Whether a HARD copy would be probed by a request: a write probes every copy, a read those that own the line. -/
def HardCopy.probed (c : HardCopy) (write : Bool) : Bool := write || c.st != .sh

/-- R185, R192: whether an access to a HARD or a PRIVATE line needs a probe to a copy held in another domain. -/
def State.isolated (s : State) (w : Who) (line : Nat) (write : Bool) : Bool :=
  let d := s.domain w.pkg w.vf
  s.pkgs.any (fun p => p.hard.any (fun c =>
    c.line == line && c.probed write && !(p.num == w.pkg && some c.core == w.core) && s.domain p.num c.vf != d))

/-- R191: the unit in which the directory tracks an address. -/
def Pkg.dirUnitOf (p : Pkg) (a : Nat) : Nat × Nat :=
  match p.dirUnits.find? (fun u => decide (u.base ≤ a) && decide (a < u.base + u.size)) with
  | some u => (u.base, u.size)
  | none => (a / 65536 * 65536, 65536)

/-- R191: whether a request for a line conflicts in a unit: another core holds a line of the unit and not this one. -/
def State.dirConflict (s : State) (w : Who) (line base size : Nat) : Bool :=
  s.pkgs.any (fun p => p.hard.any (fun c =>
    decide (base ≤ 128 * c.line) && decide (128 * c.line < base + size) && !(p.num == w.pkg && some c.core == w.core) &&
    !(p.hard.any (fun d => d.core == c.core && d.line == line))))

/-- R191: a unit split into halves around a line until no conflict is left. -/
def State.dirSplit (s : State) (w : Who) (line now : Nat) : Nat → Nat → Nat → List DirUnit
  | 0, base, size => [{ base := base, size := size, quietFrom := now }]
  | n + 1, base, size =>
    if size ≤ 128 || !s.dirConflict w line base size then [{ base := base, size := size, quietFrom := now }]
    else
      let half := size / 2
      if 128 * line < base + half then
        s.dirSplit w line now n base half ++ [{ base := base + half, size := half, quietFrom := now }]
      else { base := base, size := half, quietFrom := now } :: s.dirSplit w line now n (base + half) half

/-- R189: the owner that the directory records for a page. -/
def State.ownerOf (s : State) (pa : Nat) : Option DirOwner :=
  s.pkgs.findSome? (fun p => p.dirOwners.find? (fun o => decide (o.page ≤ pa) && decide (pa < o.page + o.size)))

/-- R191: a conflict of a request for a HARD line splits the unit that the line's home tracks it in. Of a PRIVATE page the
directory tracks the owner only (R185). -/
def State.dirNote (s : State) (w : Who) (line : Nat) : State :=
  match if (s.ownerOf (128 * line)).isNone then s.pkg? (s.homeAt .ctl (128 * line)) else none with
  | none => s
  | some p =>
    let u := p.dirUnitOf (128 * line)
    if s.dirConflict w line u.1 u.2 then
      let units := s.dirSplit w line s.aclk 9 u.1 u.2
      let up (p : Pkg) : Pkg := { p with dirUnits := units ++ p.dirUnits.filter (fun x => x.base != u.1) }
      s.modPkg p.num up
    else s

/-- R185: whether the issuing core's copy of a HARD or PRIVATE line answers an access: for a write, one that it need not share. -/
def State.hardHit (s : State) (w : Who) (line : Nat) (write : Bool) : Bool :=
  match s.pkg? w.pkg with
  | some p => p.hard.any (fun c => w.core == some c.core && c.line == line && (!write || c.st == .m || c.st == .e))
  | none => false

/-- R185: the copies of a HARD line after an access; `keep` says that the accessing core holds one afterwards. An access that the
core's own copy answers asks the directory nothing (R191). -/
def State.hardTouch (s0 : State) (w : Who) (line : Nat) (write keep : Bool) : State :=
  let s := if s0.hardHit w line write then s0 else s0.dirNote w line
  let mine (p : Pkg) (c : HardCopy) : Bool := p.num == w.pkg && some c.core == w.core
  let others := s.pkgs.any (fun p => p.hard.any (fun c => c.line == line && !mine p c))
  let have_ := s.pkgs.any (fun p => p.hard.any (fun c => c.line == line && mine p c))
  let down (m : Moesi) : Moesi :=
    match m with
    | .m => .o
    | .o => .o
    | .e => .sh
    | .sh => .sh
  let asked (p : Pkg) : Bool := p.hard.any (fun c => c.line == line && !mine p c && (write || decide (c.st ≠ .sh)))
  let s1 : State :=
    if write then
      { s with pkgs := s.pkgs.map (fun p => { p with hard := p.hard.filter (fun c => c.line != line) }) }
    else
      { s with pkgs := s.pkgs.map (fun p => { p with hard := p.hard.map (fun c =>
          if c.line == line && !mine p c then { c with st := down c.st } else c) }) }
  let owed (p : Pkg) : List Byte :=
    if p.hard.any (fun c => c.line == line && !mine p c && c.owes) then Memory.readN s.ctl (128 * line) 128 else []
  let s1 := (s.pkgs.filter asked).foldl (fun s p => s.probe p.num line (owed p)) s1
  match w.core with
  | none => s1
  | some k =>
    if keep && (write || !have_) then
      s1.modPkg w.pkg (fun p => { p with hard :=
        { core := k, line := line, st := if write then .m else if others then .sh else .e, vf := w.vf,
          poison := false } :: p.hard })
    else s1

/-- The 128-byte lines of a range. -/
def linesOf (a n : Nat) : List Nat := if n = 0 then [] else rangeIncl (a / 128) ((a + n - 1) / 128)

/-- R185, R195: a host port, or a package in its own control accesses, as an agent: it has no core and no address space. -/
def whoHost (pkg : Nat) : Who :=
  { pkg := pkg, vf := 0x80, asid := 0x80, croot := 0, troot := 0, tlbs := [], core := none, cc := false,
    supervisor := false, crew := 0, gang := 0 }

/-- R185, R191, R195: what an access of a host port, or of a package's own, asks of the directory for its lines. -/
def State.hostLines (s : State) (pkg a n : Nat) (write : Bool) : State :=
  (linesOf a n).foldl (fun s l => s.hardTouch (whoHost pkg) l write false) s

/-- R185: control bytes that a package writes for itself: no core keeps a HARD or PRIVATE copy of their lines. -/
def State.ownWrite (s : State) (pkg pa : Nat) (bs : List Byte) : State :=
  ((s.note .ctl pa bs.length).setMem .ctl (Memory.writeN s.ctl pa bs)).hostLines pkg pa bs.length true

/-! ### Replay area (R224 to R226) -/

/-- R224, R226: a number such that it and the following are `n` free records, if there is one: the first from a place on
that is the package's own (DESIGN CHOICE, notes/assumptions/19.md: any k may be taken). Each record in use, and the end of the
area, rules out at most `n` numbers. -/
def freeRun (used : List Nat) (n : Nat) : Option Nat :=
  ((List.range (used.length * n + n + 1)).map (fun j => (Config.recordAt used n + j) % 65535 + 1)).find? (fun k =>
    decide (k + n ≤ 65536) && (List.range n).all (fun i => !(used.contains (k + i))))

/-- R225: the 64 bytes of a record. -/
def recordBytes (kind cause sub slice state nslice : Nat) (cb : DW) (ivec : List Nat) (faddr detail : DW) : List Byte :=
  toLE 1 kind ++ toLE 1 cause ++ toLE 1 sub ++ toLE 1 slice ++ toLE 1 state ++ toLE 1 nslice ++ toLE 2 0 ++
  toLE 8 cb.toNat ++ (List.range 5).flatMap (fun i => toLE 4 (ivec.getD i 0)) ++ toLE 4 0 ++ toLE 8 faddr.toNat ++
  toLE 8 detail.toNat ++ toLE 8 0

/-- R224: where record `k` of a VF stands in control memory: its page as the VF's control root maps it, whatever the page
allows the VF itself (DEDUCED, notes/assumptions/32.md). -/
def State.recordPa (s : State) (pkg vf k : Nat) : Option Nat :=
  let va := ((s.vf pkg vf).rpBase.toNat + 64 * k) % 2 ^ 48
  match s.walkFrom .ctl va ctlLevels (s.vf pkg vf).croot.toNat with
  | .leaf e size _ =>
    let pa := leafPa e + va % 2 ^ size.log2
    if leafSt e = 1 && s.ctlPaOk pa then some pa else none
  | .invalid _ _ => none
  | .bad _ _ => none
  | .lost _ => none

/-- R189: the transition in progress that holds the page of a control physical address. -/
def State.transitionOf (s : State) (pa : Nat) : Option Nat :=
  (s.cohTrs.find? (fun t => !t.queued && decide (t.page ≤ pa) && decide (pa < t.page + t.size))).map CohTr.id

/-- R162: whether a SNAP copy protects the page of a control physical address, one mapped since it started included. -/
def State.snapsCtl (s : State) (c : Cmd) (pa : Nat) : Bool :=
  c.snap.any (fun x => decide (x.1 = .ctl) && decide (x.2.1 ≤ pa) && decide (pa < x.2.1 + x.2.2)) ||
  (c.started && c.snapVa.any (fun va =>
    va.extractLsb' 48 16 == 0 &&
    (match s.walkFrom .ctl va.toNat ctlLevels (s.vf c.pkg c.vf).croot.toNat with
     | .leaf e size _ => leafSt e == 1 && decide (leafPa e ≤ pa) && decide (pa < leafPa e + 2 ^ size.log2)
     | _ => false)))

/-- R162, R189, R293: what a record at a control physical address waits for; `own` is the set that writes it. -/
def State.recordWait (s : State) (pa : Nat) (own : Option Nat) : Option Stall :=
  match s.transitionOf pa with
  | some t => some (.coh t)
  | none =>
    if s.promoting.contains (pa / 2 ^ 33) then some (.lost (pa / 2 ^ 33))
    else (s.cmds.find? (fun c => own != some c.set && s.snapsCtl c pa)).map (fun c => .snap c.inst)

/-- R162, R189, R226, R293: what the next `n` records of a VF wait for before they are written. -/
def State.recordsWait (s : State) (pkg vf n : Nat) (own : Option Nat) : Option Stall :=
  if 128 ≤ vf then none
  else
    match freeRun (s.vf pkg vf).rpUsed n with
    | none => none
    | some k =>
      (List.range n).findSome? (fun i =>
        match s.walkFrom .ctl (((s.vf pkg vf).rpBase.toNat + 64 * (k + i)) % 2 ^ 48) ctlLevels (s.vf pkg vf).croot.toNat with
        | .lost p => some (.lost p)
        | _ => (s.recordPa pkg vf (k + i)).bind (fun pa => s.recordWait pa own))

/-- R289: what a package sends for the reading of these table entries, one after the other, and what it gets. -/
def State.readTables (s : State) (pkg : Nat) (ats : List Nat) : State :=
  (ats.filter s.ctlPaOk).foldl (fun s a => s.exchange .ctl pkg a [] (Memory.readN s.ctl a 8)) s

/-- R224, R289: what the walk to a record of a VF sends, and then its writing (`sent`) or its reading (`got`). -/
def State.recordSent (s : State) (pkg vf k : Nat) (sent got : List Byte) : State :=
  let va := ((s.vf pkg vf).rpBase.toNat + 64 * k) % 2 ^ 48
  match s.recordPa pkg vf k with
  | some pa => (s.readTables pkg (s.walkAts va ctlLevels (s.vf pkg vf).croot.toNat)).exchange .ctl pkg pa sent got
  | none => s

/-- R225: a record's bytes written where it stands. -/
def State.putRecord (s : State) (pkg vf k : Nat) (bs : List Byte) : State :=
  match s.recordPa pkg vf k with
  | some pa => (s.ownWrite pkg pa bs).recordSent pkg vf k bs []
  | none => s

/-- R226: `n` consecutive records of a VF taken and written, or LOST and FULL. The answer is the first index, 0 for
none; a control core has no replay area. -/
def State.writeRecords (s : State) (pkg vf launch : Nat) (recs : List (List Byte)) : Nat × State :=
  let v := s.vf pkg vf
  if 128 ≤ vf then (0, s) else
  match freeRun v.rpUsed recs.length with
  | some k =>
    let ks := (List.range recs.length).map (k + ·)
    let s1 := s.modVf pkg vf (fun v => { v with rpUsed := ks.foldl (fun u i => setInsert i u) v.rpUsed })
    let s2 := s1.modLaunch launch (fun l => { l with records := ks ++ l.records })
    (k, (ks.zip recs).foldl (fun s x => s.putRecord pkg vf x.1 x.2) s2)
  | none =>
    (0, s.modVf pkg vf (fun v =>
      { v with rpFull := true, rpLost := if v.rpLost = 0xFFFF then v.rpLost else v.rpLost + 1 }))

/-- A record is free again (R226, R264); the launch that would free it at its completion no longer does. -/
def State.freeRecord (s : State) (pkg vf k : Nat) : State :=
  let drop (l : Launch) : Launch :=
    if l.pkg == pkg && l.vf == vf && l.records.contains k then { l with records := l.records.filter (· != k) } else l
  { (s.modVf pkg vf (fun v => { v with rpUsed := v.rpUsed.filter (· != k) })) with launches := s.launches.map drop }

/-! ### Traps (R259 to R265) -/

/-- R264: what a fault record holds beyond its cause and the word's address. -/
structure FaultRec where
  sub : Nat
  lane : Nat
  lanes : W
  done : W
  addr : DW
  detail : DW
deriving DecidableEq, Repr

/-- A trap a word raises: its cause code, its TRAPDATA, and the fault record of a memory cause. -/
structure Trap where
  cause : Nat
  data : W
  frec : Option FaultRec
deriving DecidableEq, Repr


/-- A trap without a fault record. -/
def Trap.plain (cause : Nat) (data : W) : Trap := { cause := cause, data := data, frec := none }

/-- R302: the guard of a scalar form is true if it is true in any lane of the side. -/
def scalarGuard (a : Agent) (sd : Side) (g : Pred) : Bool := activeMask a sd g != 0

/-- R88: the statuses of a group's instances are no longer available once it ends. -/
def State.dropInsts (s : State) (agent : Nat) : State :=
  { s with insts := s.insts.filter (fun x => x.agent != agent) }

/-- R407: a side that waits in HWAIT on a handle which is about to be bound anew: it returns the handle's state of now. -/
def Side.tell (h : Nat) (x : Handle) (sd : Side) : Side :=
  if sd.began = some (.hwait h) then
    { sd with began := some (.told h x), stall := if sd.stall = some (.hwait h) then none else sd.stall }
  else sd

/-- R407: the sides of a group before one of its handles is bound anew. -/
def Agent.tell (a : Agent) (h : Nat) : Agent :=
  { a with prim := a.prim.map (Side.tell h (a.handle h)), sec := a.sec.map (Side.tell h (a.handle h)) }

/-- R407: the state that an HWAIT of a side returns, given the handle's state of now. -/
def Side.told (sd : Side) (h : Nat) (now : Handle) : Handle :=
  match sd.began with
  | some (.told k x) => if k = h then x else now
  | _ => now

/-- R88: the statuses of the instances issued into a handle are no longer available once it is issued into or
overwritten; an HWAIT that still waits on it keeps what it is to return (R407). -/
def State.dropHandle (s : State) (agent h : Nat) : State :=
  ({ s with insts := s.insts.filter (fun x => !(x.agent == agent && x.hnum == h)) }).modAgent agent (fun a => a.tell h)

/-- R94: a group's channel slots free when it ends. -/
def Crew.freeSlotsOf (c : Crew) (agent now : Nat) : Crew :=
  { c with rings := c.rings.map (fun r =>
      { r with slots := r.slots.map (fun x => if x = .held agent then .free now else x) }) }

/-- R85: the status word of a resolution. -/
def statusWord (cause replay : Nat) : W :=
  if cause = 0 then 1 else BitVec.ofNat 32 (3 + 256 * cause + 65536 * replay)

/-- R84: whether a handle is PENDING. -/
def Handle.isPending (x : Handle) : Bool :=
  match x with
  | .pending _ _ => true
  | _ => false

/-- R84: the instance a PENDING handle is bound to. -/
def Handle.boundTo (x : Handle) (inst : Nat) : Bool :=
  match x with
  | .pending i _ => i == inst
  | _ => false

/-! ### Acquires (R171, R180, R257) -/

/-- The number under which a core's caches are kept: control cores follow the 256 cores. -/
def cacheCore (a : Agent) : Nat := if a.isCc then 256 + a.core else a.core

/-- R257: after an acquire or CLASP a group no longer uses the copies fetched before. -/
def State.lkStale (s : State) (a : Agent) : State :=
  let mark (c : LkCopy) : LkCopy := if c.core == a.core then { c with stale := setInsert a.id c.stale } else c
  s.modPkg a.pkg (fun p => { p with lk := p.lk.map mark })

/-- R169, R171: a core's L1 copies of tensor lines are discarded. -/
def State.l1DropTensor (s : State) (pkg core : Nat) : State :=
  s.modPkg pkg (fun p => { p with l1 := p.l1.filter (fun x => !(x.core == core && decide (x.space = .ten))) })

/-- R171, R257: an acquire; `tensor` says that it acts on the tensor plane at cluster scope or wider. -/
def State.acquire (s : State) (a : Agent) (tensor : Bool) : State :=
  let s1 := s.lkStale a
  if tensor then s1.l1DropTensor a.pkg (cacheCore a) else s1

/-- R180, R186: what an observed resolution leaves of a SOFT copy: a clean one goes, a dirty one keeps its own bytes and
takes every other byte from the home (DESIGN CHOICE, notes/assumptions/69.md). -/
def L1Line.refresh (x : L1Line) (ctl : Mem) : Option L1Line :=
  if x.dirty = 0 then none
  else some { x with bytes := (List.range 128).map (fun i =>
    if x.dirty.getLsbD i then x.bytes.getD i 0 else Memory.read ctl (128 * x.line + i)) }

/-- R180: a core's stale SOFT copies are discarded. -/
def State.softRefresh (s : State) (pkg core : Nat) : State :=
  s.modPkg pkg (fun p => { p with l1 := p.l1.filterMap (fun x =>
    if x.core == core && decide (x.space = .ctl) then x.refresh s.ctl else some x) })

/-! ### Accumulators of resolved MMAs (R182, R239) -/

/-- R239: the row and column that lane `l` of register ACC + i of team group j holds. -/
def accRow (j l : Nat) : Nat := 16 * j + l % 16
def accCol (i l : Nat) : Nat := 32 * (l / 16) + i

/-- R182: the groups that a resolution concerns: those of an MMA's team, or of an engine command's launch. -/
def MmaRes.has (m : MmaRes) (a : Agent) : Bool :=
  !a.isCc && (if m.slices.isEmpty then a.crew == m.crew && a.grp / 8 == m.team else a.launch == m.launch)

/-- R182: the lanes of an accumulator that take a result; what the group wrote in a lane after the post may be lost, or may
stay, as a free value says. -/
def MmaRes.lanes (m : MmaRes) (a : Agent) (free i : Nat) : W :=
  let since := ((m.marks.find? (fun x => x.1 == a.id)).map (fun x => x.2)).getD 0
  maskOf ((List.range 32).filter (fun l =>
    !(decide (since < a.vwrote (m.acc + i) l) && Config.freeBit (free + 32 * i + l))))

/-- R182, R239: a team group's accumulators take the results. -/
def Agent.takeRes (a : Agent) (m : MmaRes) (free : Nat) : Agent :=
  m.regs.foldl (fun b i =>
    let cell (l : Nat) : Nat := 64 * accRow (a.grp % 8) l + accCol i l
    (b.setV (m.acc + i) (m.lanes a free i) (fun l => m.res.getD (cell l) 0)).spoilV (m.acc + i)
      (if m.bad.isEmpty then 0 else m.lanes a free i &&& maskOf ((List.range 32).filter (fun l => m.bad.contains (cell l))))) a

/-- R182: results become those of a group that a resolution is now ordered before. -/
def State.takeResOf (s : State) (m : MmaRes) (id : Nat) : State :=
  match s.agent? id with
  | some a =>
    if m.slices.isEmpty && m.has a && !m.know.contains id then { s.setAgent (a.takeRes m s.free) with free := s.free + 1024 } else s
  | none => s

/-- R182: the resolutions that a test picks are ordered before these agents from now on. -/
def State.learn (s : State) (ids : List Nat) (p : MmaRes → Bool) : State :=
  if s.accRes.isEmpty then s
  else
    let s1 := (s.accRes.filter p).foldl (fun s m => ids.foldl (fun s id => s.takeResOf m id) s) s
    let up (m : MmaRes) : MmaRes := if p m then { m with know := ids.foldl (fun l id => setInsert id l) m.know } else m
    { s1 with accRes := (s1.accRes.map up).filter (fun m => s1.agents.any (fun a => m.has a && !m.know.contains a.id)) }

/-- R180, R182: whether a resolution is that of an instance. -/
def MmaRes.of (m : MmaRes) (inst : Nat) : Bool :=
  if m.slices.isEmpty then m.inst == inst else m.slices.any (fun x => x.1 == inst)

/-- R180, R182: an agent that observes a resolved handle is ordered after its operation. -/
def State.sawHandle (s : State) (id : Nat) (x : Handle) : State :=
  match x with
  | .resolved i _ => s.learn [id] (fun m => m.of i)
  | _ => s

/-- R182: a group's OPRDY orders what it has observed before the reads of its team's MMA. -/
def State.tellReady (s : State) (id : Nat) : State :=
  if s.accRes.isEmpty then s
  else { s with accRes := s.accRes.map (fun m =>
    if !m.slices.isEmpty && m.know.contains id then { m with told := setInsert id m.told } else m) }

/-- R182: what an agent knows goes on with its arrival at a barrier word. -/
def State.barTell (s : State) (id crew off : Nat) : State :=
  if s.accRes.isEmpty then s
  else { s with accRes := s.accRes.map (fun m => if m.know.contains id then { m with bars := (crew, off) :: m.bars } else m) }

/-- R182: a completed phase of a barrier word orders what its arrivals knew before its groups. -/
def State.barLearn (s : State) (ids : List Nat) (crew off : Nat) : State :=
  if s.accRes.isEmpty then s
  else
    let s1 := s.learn ids (fun m => m.bars.contains (crew, off))
    { s1 with accRes := s1.accRes.map (fun m => { m with bars := m.bars.filter (fun x => x != (crew, off)) }) }

/-- R182: what an agent knows goes on with a message. -/
def State.msgTell (s : State) (id seq : Nat) : State :=
  if s.accRes.isEmpty then s
  else { s with accRes := s.accRes.map (fun m => if m.know.contains id then { m with msgs := seq :: m.msgs } else m) }

/-- R180, R183: an agent observes that an operation has resolved. -/
def State.observeDone (s : State) (a : Agent) : State := (s.acquire a true).softRefresh a.pkg (cacheCore a)

/-- R180: whether an agent holds a handle that an HLOAD bound to an instance. -/
def Agent.loaded (a : Agent) (inst : Nat) : Bool := a.h.toList.any (fun x => x == .pending inst true)

/-- R84, R87, R88, R180: an instance resolves: every handle bound to it becomes RESOLVED with its status, and the groups
that an HLOAD bound to it observe the resolution. -/
def State.resolve (s : State) (inst : Nat) (st : W) : State :=
  let l := s.agents.filter (fun a => a.loaded inst)
  (l.foldl State.observeDone
    { s with
      insts := s.insts.map (fun x => if x.inst == inst then { x with status := some st } else x)
      agents := s.agents.map (fun a =>
        { a with h := a.h.map (fun x => if x.boundTo inst then .resolved inst st else x) }) }).learn
    (l.map (fun a => a.id)) (fun m => m.of inst)

/-- A command whose work is over and whose status is decided (R181). -/
def Cmd.over (c : Cmd) (st : W) : Cmd := { c with phase := .ended, wait := none, fault := none, final := some st }

/-- R205, R225, R226: a slice of a set that cannot run: it ends with ENGINE_DESC where it stood. -/
def Cmd.misfit (c : Cmd) : Cmd :=
  { c with phase := .ended, wait := none,
           fault := some { seq := 0, cause := BitVec.ofNat 8 Cause.engineDesc, sub := 0, complete := false, ivec := c.ivec,
                           faddr := 0, detail := 0 } }

/-- R205: the open COPY sets of a crew whose missing participants can no longer come end with ENGINE_DESC. -/
def State.failOpenSets (s : State) (crew : Nat) : State :=
  let lone (c : Cmd) : Bool := c.kind == .copy && c.phase == .joining && c.crew == crew &&
    !(s.agents.any (fun a => a.crew == crew && !a.isCc && !(s.cmds.any (fun d => d.set == c.set && d.agent == a.id))))
  if s.cmds.any lone then
    { s with cmds := s.cmds.map (fun c => if lone c then c.misfit else c) }
  else s

/-- R61: whether every group of a crew has ended. -/
def Crew.allEnded (c : Crew) : Bool := (List.range c.ngroups).all (fun g => c.ended.getLsbD g)

/-- R59: the scratchpad bytes of its core that a crew holds: none once its last group has ended. -/
def Crew.room (c : Crew) : Nat := if c.allEnded then 0 else c.size

/-- R59: whether a gang still holds its cores: one of its crews has not ended. -/
def State.gangLives (s : State) (gang : Nat) : Bool := s.crews.any (fun c => c.gang == gang && !c.allEnded)

/-- R61: whether an operation that a group of a crew's gang issued is still pending: it completes normally, so what it may still
read or write of the gang's scratchpads is kept for it, though the room is released (DEDUCED, notes/assumptions/95.md). -/
def State.crewHeld (s : State) (c : Crew) : Bool :=
  s.mmas.any (fun m => m.gang == c.gang) ||
  s.cmds.any (fun d => d.gang == c.gang && d.phase != .dead && d.phase != .reporting)

/-- R59, R138: the SRAM split of a core that no gang of a VF holds any longer is given up. -/
def State.dropSplit (s : State) (pkg vf core : Nat) : State :=
  if s.crews.any (fun c => c.pkg == pkg && c.vf == vf && c.core == core && s.gangLives c.gang) then s
  else s.modPkg pkg (fun p => { p with split := p.split.filter (fun x => !(x.core == core && x.vf == vf)) })

/-- R59, R61: a crew whose last group has ended releases its scratchpad and its rings, and a gang whose last crew has ended its
cores. The bytes themselves go once no operation of the gang is pending. -/
def State.endCrew (s : State) (c : Crew) : State :=
  let held := s.crewHeld c
  let strip (x : Crew) : Crew :=
    if x.id != c.id then x
    else if held then { x with rings := [] }
    else { x with size := 0, pad := [], full := [], poison := [], rings := [] }
  let crews := s.crews.map strip
  let rest := if held || s.gangLives c.gang then crews
    else crews.filter (fun x => x.gang != c.gang)
  ((s.crews.filter (fun x => x.gang == c.gang)).map (fun x => x.core)).foldl (fun s k => s.dropSplit c.pkg c.vf k)
    { s with crews := rest }

/-- R59, R61: the crews that were held are released. -/
def State.reapCrews (s : State) : State :=
  (s.crews.filter (fun c => c.allEnded && !s.crewHeld c)).foldl (fun s c => s.endCrew c) s

/-- R61, R59: a group ends: its crew records it, its channel slots and fault records free. -/
def State.endGroup (s : State) (id : Nat) : State :=
  match s.agent? id with
  | none => s
  | some a =>
    let s0 := a.frecs.foldl (fun s k => s.freeRecord a.pkg a.vf k) s
    let s1 := s0.modCrew a.crew (fun c => { (c.freeSlotsOf id s0.aclk) with ended := c.ended ||| ((1 : W) <<< a.grp) })
    let s2 := s1.dropInsts id
    let s3 := { s2 with agents := s2.agents.filter (fun x => x.id != id) }
    let s4 := s3.failOpenSets a.crew
    match s4.crew? a.crew with
    | some c => if c.allEnded then s4.endCrew c else s4
    | none => s4

/-- R265, R106: a group is terminated: its launch records ERR, the cause of the first group terminated, and the
count. -/
def State.terminate (s : State) (id cause : Nat) : State :=
  match s.agent? id with
  | none => s
  | some a =>
    (s.modLaunch a.launch (fun l =>
      { l with err := true, cause := if l.term = 0 && !l.err then BitVec.ofNat 8 cause else l.cause,
               term := if l.term < 0xFFFF then l.term + 1 else l.term })).endGroup id

/-- R295: a control core's exception: supervisor state at EVEC, the word's offset in EPC, cause and PREV in ECAUSE. -/
def Agent.ccException (a : Agent) (slot : Bool) (pt : ClausePt) (len cause : Nat) (data : W) : Agent :=
  match a.cc, a.side slot with
  | some cc, some sd =>
    { (a.setSide slot (some { sd with
        ret := pt, retLen := len, stall := none, began := none, ahead := false, waited := 0, starved := false,
        pt := ClausePt.at (a.code + cc.evec.setWidth 64) })) with
      cc := some { cc with supervisor := true, prev := cc.supervisor, epc := loW (pt.addr - a.code),
                           ecause := BitVec.ofNat 8 cause, edata := data } }
  | _, _ => a

/-- R262: a group's trap registers. -/
def Agent.trapRegs (a : Agent) (pt : ClausePt) (cause : Nat) (data : W) : Agent :=
  { a with tcause := BitVec.ofNat 8 cause, tpc := loW (pt.addr - a.code), tdata := data }

/-- R262: the side goes to the trap vector and is in handler. -/
def Agent.toHandler (a : Agent) (slot : Bool) (pt : ClausePt) (len : Nat) : Agent :=
  match a.side slot with
  | some sd =>
    a.setSide slot (some { sd with
      ret := pt, retLen := len, inHandler := true, stall := none, began := none, ahead := false, waited := 0, starved := false,
      pt := ClausePt.at (a.code + a.trapvec.setWidth 64) })
  | none => a

/-- R264: TRAPDATA of a memory cause. -/
def memTrapData (k lane : Nat) : W := BitVec.ofNat 32 (k + 65536 * lane)

/-- R264: the fault record of a memory cause written; the answer is its index and the state. -/
def State.faultRecord (s : State) (a : Agent) (pt : ClausePt) (cause : Nat) (r : FaultRec) : Nat × State :=
  let (k, s1) := s.writeRecords a.pkg a.vf a.launch
    [recordBytes 0x10 cause r.sub r.lane 0 1 pt.addr [r.lanes.toNat, r.done.toNat] r.addr r.detail]
  (k, if k = 0 then s1 else s1.modAgent a.id (fun a => { a with frecs := k :: a.frecs }))

/-- R162, R189, R264: what the fault record of a group's trap waits for. -/
def State.trapWait (s : State) (a : Agent) (t : Trap) : Option Stall :=
  t.frec.bind (fun _ => s.recordsWait a.pkg a.vf 1 none)

/-- R262, R264, R295: TAKING A TRAP at the word at `pt` of `len` words: a control core enters its exception; a group
whose side is in handler, or whose launch names no handler, is terminated; any other side goes to the handler, once the page
of its fault record may be written. -/
def State.takeTrap (s : State) (id : Nat) (slot : Bool) (pt : ClausePt) (len : Nat) (t : Trap) : State :=
  match s.agent? id with
  | none => s
  | some a =>
    if a.isCc then
      s.setAgent (a.ccException slot pt len t.cause
        (match t.frec with
         | some r => memTrapData 0 r.lane
         | none => t.data))
    else if (match a.side slot with
             | some sd => sd.inHandler
             | none => false) then s.terminate id t.cause
    else
      match s.trapWait a t with
      | some w => s.modAgent id (fun a => a.setSide slot ((a.side slot).map (fun sd => sd.stalled w)))
      | none =>
        let (data, s1) :=
          match t.frec with
          | some r =>
            let (k, s1) := s.faultRecord a pt t.cause r
            (memTrapData k r.lane, s1)
          | none => (t.data, s)
        let s2 := s1.modAgent id (fun a => a.trapRegs pt t.cause data)
        if a.trapvec = 0 then s2.terminate id t.cause
        else s2.modAgent id (fun a => a.toHandler slot pt len)

/-- The issuing word traps. -/
def State.trap (s : State) (a : Agent) (sd : Side) (c : Cursor) (t : Trap) : State :=
  s.takeTrap a.id c.slot sd.pt c.len t

/-- R263, R375: RETURNING from a group's trap: the fault record of a memory cause freed, in-handler cleared, the side at the
trapping word or after it. -/
def State.returnFrom (s : State) (a : Agent) (c : Cursor) (skip : Bool) : State :=
  let mine (k : Nat) : Bool := memCauses.contains a.tcause.toNat && k == (a.tdata.extractLsb' 0 16).toNat
  let s1 := (a.frecs.filter mine).foldl (fun s k => s.freeRecord a.pkg a.vf k) s
  s1.modAgent a.id (fun a =>
    let a := { a with frecs := a.frecs.filter (fun k => !mine k) }
    match a.side c.slot with
    | some sd =>
      a.setSide c.slot (some { sd with
        inHandler := false, stall := none, began := none, ahead := false, waited := 0, starved := false,
        pt := if skip then sd.ret.advance sd.retLen else sd.ret })
    | none => a)

/-- R376: RETURNING from a control core's exception to EPC plus `skip` words, in the state PREV records. An address within the
clause of the last exception, which EPC names unless a SWRITE has changed it, is that of a word of the clause; any other that of
a header (DEDUCED, notes/assumptions/97.md). -/
def Agent.ccReturn (a : Agent) (slot : Bool) (skip : Nat) : Agent :=
  match a.cc, a.side slot with
  | some cc, some sd =>
    let dest := a.code + cc.epc.setWidth 64 + BitVec.ofNat 64 (4 * skip)
    let k := ((dest - sd.ret.hdr).toNat) / 4
    let pt : ClausePt :=
      if 1 ≤ k ∧ k ≤ sd.ret.count ∧ (dest - sd.ret.hdr).toNat % 4 = 0 then { sd.ret with pos := k }
      else ClausePt.at dest
    { (a.setSide slot (some { sd with
        pt := pt, stall := none, began := none, ahead := false, waited := 0, starved := false })) with
      cc := some { cc with supervisor := cc.prev } }
  | _, _ => a

/-! ### Words of the issuing side -/

/-- The frame of every instruction word: it acts through the side that issues it (R69). -/
def withIssuer (s : State) (k : Agent → Side → Cursor → State) : Host.Outcome State Fault Refusal :=
  match s.issuer? with
  | some (a, sd, c) => .next (k a sd c)
  | none => .fault .noIssuer

/-- R308, R64: the lowest of the named vector registers at or beyond the allocation. -/
def lowestBeyond (n : Nat) (regs : List Nat) : Option Nat :=
  regs.foldl (fun acc r =>
    if r < n then acc else
      match acc with
      | none => some r
      | some q => some (if r < q then r else q)) none

/-- R316 orders 2 and 4 for a vector word that uses these vector registers: a control core has no vector form, and a
register beyond the allocation raises REG_RANGE. -/
def vecCheck (a : Agent) (c : Cursor) (regs : List Nat) : Option Trap :=
  if a.isCc then some (Trap.plain Cause.illegalInstr c.raw)
  else (lowestBeyond a.nregs regs).map (fun r => Trap.plain Cause.regRange (BitVec.ofNat 32 r))

/-- A vector word: checked, then carried out. -/
def vecWord (s : State) (regs : List Nat) (k : Agent → Side → Cursor → State) :
    Host.Outcome State Fault Refusal :=
  withIssuer s (fun a sd c =>
    match vecCheck a c regs with
    | some t => s.trap a sd c t
    | none => k a sd c)

/-- A scalar-form word under R65: a false guard makes it have no effect. -/
def scalarWord (s : State) (g : Pred) (k : Agent → Side → Cursor → State) :
    Host.Outcome State Fault Refusal :=
  withIssuer s (fun a sd c => if scalarGuard a sd g then k a sd c else s.retire c)

end Sys2Proof.Machine
end

