-- ==== Sys2Proof/Machine/Operands.lean ====
section
/-!
DEFINITION. Sys2Proof/Machine/Operands.lean: every operand form: the B operand of formats A and P (R309), 64-bit
operands (R3, R308), the offset and the address of format M (R311).
-/
namespace Sys2Proof.Machine

/-! ### Operand B (R309) -/

/-- The vector registers a B operand names. -/
def VSrc.regs (b : VSrc) : List Nat :=
  match b with
  | .v r => [r.toNat]
  | .s _ => []
  | .lit _ => []

/-- The vector registers a 64-bit B operand names (R3, R308). -/
def VSrc.regsD (b : VSrc) : List Nat :=
  match b with
  | .v r => [r.toNat, r.toNat + 1]
  | .s _ => []
  | .lit _ => []

/-- R309: the 32-bit value of B in a lane. -/
def VSrc.get (a : Agent) (b : VSrc) (l : Nat) : W :=
  match b with
  | .v r => a.vreg r.toNat l
  | .s r => a.sreg r.toNat
  | .lit w => w

/-- R309: the 64-bit integer value of B in a lane; a literal is sign-extended. -/
def VSrc.getD (a : Agent) (b : VSrc) (l : Nat) : DW :=
  match b with
  | .v r => a.vpair r.toNat l
  | .s r => pairVal (a.sreg r.toNat) (a.sreg (r.toNat + 1))
  | .lit w => w.signExtend 64

/-- R309: the FP64 pattern of an FP32 literal converted exactly. -/
def widenLit (w : W) : DW := toDW (roundArith .fp64 .rne false (Fmt.value .fp32 w.toNat)).bits

/-- R309, R380: the FP64 pattern of B in a lane. -/
def VSrc.getF64 (a : Agent) (b : VSrc) (l : Nat) : DW :=
  match b with
  | .v r => a.vpair r.toNat l
  | .s r => pairVal (a.sreg r.toNat) (a.sreg (r.toNat + 1))
  | .lit w => widenLit w

/-- R309, R380: the value of an FP64 B operand; a signalling literal stays signalling (R37). -/
def VSrc.valF64 (a : Agent) (b : VSrc) (l : Nat) : FVal :=
  match b with
  | .lit w => Fmt.value .fp32 w.toNat
  | .v _ => Fmt.value .fp64 (VSrc.getF64 a b l).toNat
  | .s _ => Fmt.value .fp64 (VSrc.getF64 a b l).toNat

/-- R309: the 32-bit value of a scalar-form B. -/
def SSrc.get (a : Agent) (b : SSrc) : W :=
  match b with
  | .s r => a.sreg r.toNat
  | .lit w => w

/-- R309, R409: the 64-bit integer value of a scalar-form B. -/
def SSrc.getD (a : Agent) (b : SSrc) : DW :=
  match b with
  | .s r => pairVal (a.sreg r.toNat) (a.sreg (r.toNat + 1))
  | .lit w => w.signExtend 64

/-! ### Offsets and addresses of format M (R311) -/

/-- The vector registers an offset names. -/
def VOff.regs (o : VOff) : List Nat :=
  match o with
  | .reg r => [r.toNat]
  | .ext _ (some r) => [r.toNat]
  | .ext _ none => []

/-- The offset of a lane: a signed 32-bit register value and a signed displacement. -/
def VOff.get (a : Agent) (o : VOff) (l : Nat) : DW :=
  match o with
  | .reg r => (a.vreg r.toNat l).signExtend 64
  | .ext d (some r) => (a.vreg r.toNat l).signExtend 64 + d.signExtend 64
  | .ext d none => d.signExtend 64

/-- The offset of a scalar form. -/
def SOff.get (a : Agent) (o : SOff) : DW :=
  match o with
  | .reg r => (a.sreg r.toNat).signExtend 64
  | .ext d (some r) => (a.sreg r.toNat).signExtend 64 + d.signExtend 64
  | .ext d none => d.signExtend 64

/-- R335: on a control core the offset of an atomic follows the scalar rows; `none` where the register number is out
of the scalar range. -/
def VOff.toScalar (o : VOff) : Option SOff :=
  match o with
  | .reg r => if r.toNat < 64 then some (.reg (r.setWidth 6)) else none
  | .ext d (some r) => if r.toNat < 64 then some (.ext d (some (r.setWidth 6))) else none
  | .ext d none => some (.ext d none)

/-- R311: the address of a lane, modulo 2^64. -/
def laneAddr (a : Agent) (c : SPair) (o : VOff) (l : Nat) : DW := a.spair c.toNat + VOff.get a o l

/-- R311: the address of a scalar form, modulo 2^64. -/
def scalarAddr (a : Agent) (c : SPair) (o : SOff) : DW := a.spair c.toNat + SOff.get a o

/-! ### The common frames of register words -/

/-- A vector word that writes register `d` of every active lane (R331). -/
def vecOp (s : State) (g : Pred) (d : Nat) (regs : List Nat) (f : Agent → Nat → W) :
    Host.Outcome State Fault Refusal :=
  vecWord s (d :: regs) (fun a sd c => (s.setAgent (a.setV d (activeMask a sd g) (f a))).retire c)

/-- A vector word that writes the pair `d`, `d` + 1 of every active lane. -/
def vecOpD (s : State) (g : Pred) (d : Nat) (regs : List Nat) (f : Agent → Nat → DW) :
    Host.Outcome State Fault Refusal :=
  vecWord s (d :: (d + 1) :: regs) (fun a sd c => (s.setAgent (a.setVPair d (activeMask a sd g) (f a))).retire c)

/-- A scalar-form word that writes scalar register `d` once (R65, R331). -/
def scaOp (s : State) (g : Pred) (d : Nat) (f : Agent → W) : Host.Outcome State Fault Refusal :=
  scalarWord s g (fun a _ c => (s.setAgent (a.setS d (f a))).retire c)

/-- A scalar-form word that writes the pair `d`, `d` + 1. -/
def scaOpD (s : State) (g : Pred) (d : Nat) (f : Agent → DW) : Host.Outcome State Fault Refusal :=
  scalarWord s g (fun a _ c => (s.setAgent (a.setPair d (f a))).retire c)

end Sys2Proof.Machine
end

