-- ==== Sys2Proof/Machine/Flags.lean ====
section
/-!
DEFINITION. Sys2Proof/Machine/Flags.lean: the fields of fmt (R50, R51) and the sticky flags (R44 to R46, R52).
-/
namespace Sys2Proof.Machine

/-- R50 [1:0]: the rounding mode. -/
def fmtRm (f : W) : Rm := Rm.ofCode (f.extractLsb' 0 2).toNat
/-- R50 [2]: FTZ. -/
def fmtFtz (f : W) : Bool := f.getLsbD 2
/-- R50 [4:3]: the overflow policy of QNT. -/
def fmtOv (f : W) : Ov := Ov.ofCode (f.extractLsb' 3 2).toNat
/-- R50 [8:5]: QF, the code of the default QNT target format. -/
def fmtQf (f : W) : Nat := (f.extractLsb' 5 4).toNat
/-- R50 [10:9]: the INT4G group size. -/
def fmtGsz (f : W) : Nat := 32 * 2 ^ (f.extractLsb' 9 2).toNat
/-- R50 [11]: SPLIT. -/
def fmtSplit (f : W) : Bool := f.getLsbD 11

/-- R51: the QF codes that fmt may hold. -/
def qfOk (c : Nat) : Bool := c ≤ 5 || c == 0xB || c == 0xC

/-- R51: the values that SETFMT accepts. -/
def fmtOk (w : W) : Bool :=
  (w &&& 0xFFF0F000) == 0 && (w.extractLsb' 9 2) != 3 && qfOk (fmtQf w)

/-- R50 [19:16]: the sticky flags SOV, SINV, SINX and SPOI at their places. -/
def stickyBits (sov sinv sinx spoi : Bool) : W :=
  (if sov then 0x10000 else 0) ||| (if sinv then 0x20000 else 0) ||| (if sinx then 0x40000 else 0) |||
  (if spoi then 0x80000 else 0)

/-- SPOI (R277, R278). -/
def spoi : W := 0x80000

/-- R52: the flags of one word are the OR of those of its active lanes. -/
def orFlags (m : W) (f : Nat → W) : W := (lanesOf m).foldl (fun acc l => acc ||| f l) 0

/-- A result and the flags it raises. -/
structure Res where
  bits : DW
  flags : W
deriving DecidableEq, Repr

/-- The low word of a result. -/
def Res.w (r : Res) : W := loW r.bits

/-- R43, R44: the canonical NaN, SINV when the operation is invalid or an input signals. -/
def nanRes (f : Fmt) (inv : Bool) : Res := { bits := toDW (Fmt.canonNan f), flags := stickyBits false inv false false }

/-- R381: the exact value rounded once, with the flags of R45 and R46. -/
def roundRes (f : Fmt) (rm : Rm) (ftz : Bool) (v : FVal) : Res :=
  let r := roundArith f rm ftz v
  { bits := toDW r.bits, flags := stickyBits r.ovf false r.inx false }

end Sys2Proof.Machine
end

