-- ==== Sys2Proof/Machine/IntAlu.lean ====
section
/-!
DEFINITION. Sys2Proof/Machine/IntAlu.lean: the integer, bitwise, shift, bit-field, select and move words of class ALU
(R332, R343, R344, R347, R361, R408, R409, R428, R430, R433, R441, R447, R451, R472) and NOP (R429).
-/
namespace Sys2Proof.Machine

/-! ### The operations -/

/-- R408: bits [63:32] of the exact product of I32 operands. -/
def mulhI (a b : W) : W := (BitVec.ofInt 64 (a.toInt * b.toInt)).extractLsb' 32 32
/-- R408: bits [63:32] of the exact product of N32 operands. -/
def mulhN (a b : W) : W := (toDW (a.toNat * b.toNat)).extractLsb' 32 32
/-- R408: the smaller as I32. -/
def minI (a b : W) : W := if a.toInt < b.toInt then a else b
/-- R408: the smaller as N32. -/
def minN (a b : W) : W := if a.toNat < b.toNat then a else b
/-- R408: the larger as I32. -/
def maxI (a b : W) : W := if b.toInt < a.toInt then a else b
/-- R408: the larger as N32. -/
def maxN (a b : W) : W := if b.toNat < a.toNat then a else b
/-- R408: |B| as I32, modulo 2^32. -/
def absI (b : W) : W := if b.getLsbD 31 then -b else b
/-- R447: the count of a shift. -/
def shCount (b : W) : Nat := (b.extractLsb' 0 8).toNat
/-- R447: SHL. -/
def shlW (a b : W) : W := a <<< shCount b
/-- R447: SHR. -/
def shrW (a b : W) : W := a >>> shCount b
/-- R447: SAR. -/
def sarW (a b : W) : W := a.sshiftRight (shCount b)
/-- R447: ROT. -/
def rotW (a b : W) : W := a.rotateLeft (shCount b % 32)
/-- R441: the number of set bits. -/
def popcW (b : W) : W := BitVec.ofNat 32 (lanesOf b).length
/-- R361: the number of zero bits above the most significant set bit. -/
def clzW (b : W) : W := if b = 0 then 32 else BitVec.ofNat 32 (31 - Nat.log2 b.toNat)
/-- R347: the bits in reverse order. -/
def brevW (b : W) : W := maskOf ((List.range 32).filter (fun i => b.getLsbD (31 - i)))
/-- R343: the position in a BFE or BFI control. -/
def bfPos (b : W) : Nat := (b.extractLsb' 0 8).toNat
/-- R343: the width in a BFE or BFI control. -/
def bfWidth (b : W) : Nat := if 32 < (b.extractLsb' 8 8).toNat then 32 else (b.extractLsb' 8 8).toNat
/-- The `w` low bits set, w at most 32. -/
def lowMask (w : Nat) : W := BitVec.ofNat 32 (2 ^ w - 1)
/-- R343: BFE.N. -/
def bfeN (a b : W) : W := (if 32 ≤ bfPos b then 0 else a >>> bfPos b) &&& lowMask (bfWidth b)
/-- R343: BFE.I. -/
def bfeI (a b : W) : W :=
  let t := bfeN a b
  if bfWidth b ≠ 0 ∧ t.getLsbD (bfWidth b - 1) then t - BitVec.ofNat 32 (2 ^ bfWidth b) else t
/-- R344: BFI, from D, A and B. -/
def bfiW (d a b : W) : W :=
  let m : W := if 32 ≤ bfPos b then 0 else lowMask (bfWidth b) <<< bfPos b
  (d &&& ~~~m) ||| ((a <<< bfPos b) &&& m)

/-! ### The shapes -/

/-- A vector word D := op (A, B). -/
def vecBin (s : State) (g : Pred) (d a : VReg) (b : VSrc) (op : W → W → W) : Host.Outcome State Fault Refusal :=
  vecOp s g d.toNat (a.toNat :: VSrc.regs b) (fun x l => op (x.vreg a.toNat l) (VSrc.get x b l))
/-- A scalar word D := op (A, B). -/
def scaBin (s : State) (g : Pred) (d a : SReg) (b : SSrc) (op : W → W → W) : Host.Outcome State Fault Refusal :=
  scaOp s g d.toNat (fun x => op (x.sreg a.toNat) (SSrc.get x b))
/-- A vector word D := op (B). -/
def vecUn (s : State) (g : Pred) (d : VReg) (b : VSrc) (op : W → W) : Host.Outcome State Fault Refusal :=
  vecOp s g d.toNat (VSrc.regs b) (fun x l => op (VSrc.get x b l))
/-- A scalar word D := op (B). -/
def scaUn (s : State) (g : Pred) (d : SReg) (b : SSrc) (op : W → W) : Host.Outcome State Fault Refusal :=
  scaOp s g d.toNat (fun x => op (SSrc.get x b))
/-- R310: a vector word D := op (D, A, B). -/
def vecTri (s : State) (g : Pred) (d a : VReg) (b : VSrc) (op : W → W → W → W) :
    Host.Outcome State Fault Refusal :=
  vecOp s g d.toNat (a.toNat :: VSrc.regs b)
    (fun x l => op (x.vreg d.toNat l) (x.vreg a.toNat l) (VSrc.get x b l))
/-- R310: a scalar word D := op (D, A, B). -/
def scaTri (s : State) (g : Pred) (d a : SReg) (b : SSrc) (op : W → W → W → W) :
    Host.Outcome State Fault Refusal :=
  scaOp s g d.toNat (fun x => op (x.sreg d.toNat) (x.sreg a.toNat) (SSrc.get x b))
/-- R409: a vector word on pairs. -/
def vecBinD (s : State) (g : Pred) (d a : VReg) (b : VSrc) (op : DW → DW → DW) : Host.Outcome State Fault Refusal :=
  vecOpD s g d.toNat (a.toNat :: (a.toNat + 1) :: VSrc.regsD b)
    (fun x l => op (x.vpair a.toNat l) (VSrc.getD x b l))
/-- R409: a scalar word on pairs. -/
def scaBinD (s : State) (g : Pred) (d a : SReg) (b : SSrc) (op : DW → DW → DW) : Host.Outcome State Fault Refusal :=
  scaOpD s g d.toNat (fun x => op (pairVal (x.sreg a.toNat) (x.sreg (a.toNat + 1))) (SSrc.getD x b))

/-! ### The instructions -/

/-- R408: IADD, vector form. -/
def execIaddV (g : Pred) (d a : VReg) (b : VSrc) (s : State) : Host.Outcome State Fault Refusal :=
  vecBin s g d a b (fun x y => x + y)
/-- R408: IADD, scalar form. -/
def execIaddS (g : Pred) (d a : SReg) (b : SSrc) (s : State) : Host.Outcome State Fault Refusal :=
  scaBin s g d a b (fun x y => x + y)
/-- R408, R409: IADD.D on pairs, vector form. -/
def execIaddDV (g : Pred) (d a : VReg) (b : VSrc) (s : State) : Host.Outcome State Fault Refusal :=
  vecBinD s g d a b (fun x y => x + y)
/-- R408, R409: IADD.D on pairs, scalar form. -/
def execIaddDS (g : Pred) (d a : SReg) (b : SSrc) (s : State) : Host.Outcome State Fault Refusal :=
  scaBinD s g d a b (fun x y => x + y)
/-- R408: ISUB, vector form. -/
def execIsubV (g : Pred) (d a : VReg) (b : VSrc) (s : State) : Host.Outcome State Fault Refusal :=
  vecBin s g d a b (fun x y => x - y)
/-- R408: ISUB, scalar form. -/
def execIsubS (g : Pred) (d a : SReg) (b : SSrc) (s : State) : Host.Outcome State Fault Refusal :=
  scaBin s g d a b (fun x y => x - y)
/-- R408, R409: ISUB.D on pairs, vector form. -/
def execIsubDV (g : Pred) (d a : VReg) (b : VSrc) (s : State) : Host.Outcome State Fault Refusal :=
  vecBinD s g d a b (fun x y => x - y)
/-- R408, R409: ISUB.D on pairs, scalar form. -/
def execIsubDS (g : Pred) (d a : SReg) (b : SSrc) (s : State) : Host.Outcome State Fault Refusal :=
  scaBinD s g d a b (fun x y => x - y)
/-- R408: IMUL, vector form. -/
def execImulV (g : Pred) (d a : VReg) (b : VSrc) (s : State) : Host.Outcome State Fault Refusal :=
  vecBin s g d a b (fun x y => x * y)
/-- R408: IMUL, scalar form. -/
def execImulS (g : Pred) (d a : SReg) (b : SSrc) (s : State) : Host.Outcome State Fault Refusal :=
  scaBin s g d a b (fun x y => x * y)
/-- R408: IMULH.I, vector form. -/
def execImulhIV (g : Pred) (d a : VReg) (b : VSrc) (s : State) : Host.Outcome State Fault Refusal :=
  vecBin s g d a b (mulhI)
/-- R408: IMULH.I, scalar form. -/
def execImulhIS (g : Pred) (d a : SReg) (b : SSrc) (s : State) : Host.Outcome State Fault Refusal :=
  scaBin s g d a b (mulhI)
/-- R408: IMULH.N, vector form. -/
def execImulhNV (g : Pred) (d a : VReg) (b : VSrc) (s : State) : Host.Outcome State Fault Refusal :=
  vecBin s g d a b (mulhN)
/-- R408: IMULH.N, scalar form. -/
def execImulhNS (g : Pred) (d a : SReg) (b : SSrc) (s : State) : Host.Outcome State Fault Refusal :=
  scaBin s g d a b (mulhN)
/-- R408: IMAD, vector form. -/
def execImadV (g : Pred) (d a : VReg) (b : VSrc) (s : State) : Host.Outcome State Fault Refusal :=
  vecTri s g d a b (fun z x y => x * y + z)
/-- R408: IMAD, scalar form. -/
def execImadS (g : Pred) (d a : SReg) (b : SSrc) (s : State) : Host.Outcome State Fault Refusal :=
  scaTri s g d a b (fun z x y => x * y + z)
/-- R408: IMIN.I, vector form. -/
def execIminIV (g : Pred) (d a : VReg) (b : VSrc) (s : State) : Host.Outcome State Fault Refusal :=
  vecBin s g d a b (minI)
/-- R408: IMIN.I, scalar form. -/
def execIminIS (g : Pred) (d a : SReg) (b : SSrc) (s : State) : Host.Outcome State Fault Refusal :=
  scaBin s g d a b (minI)
/-- R408: IMIN.N, vector form. -/
def execIminNV (g : Pred) (d a : VReg) (b : VSrc) (s : State) : Host.Outcome State Fault Refusal :=
  vecBin s g d a b (minN)
/-- R408: IMIN.N, scalar form. -/
def execIminNS (g : Pred) (d a : SReg) (b : SSrc) (s : State) : Host.Outcome State Fault Refusal :=
  scaBin s g d a b (minN)
/-- R408: IMAX.I, vector form. -/
def execImaxIV (g : Pred) (d a : VReg) (b : VSrc) (s : State) : Host.Outcome State Fault Refusal :=
  vecBin s g d a b (maxI)
/-- R408: IMAX.I, scalar form. -/
def execImaxIS (g : Pred) (d a : SReg) (b : SSrc) (s : State) : Host.Outcome State Fault Refusal :=
  scaBin s g d a b (maxI)
/-- R408: IMAX.N, vector form. -/
def execImaxNV (g : Pred) (d a : VReg) (b : VSrc) (s : State) : Host.Outcome State Fault Refusal :=
  vecBin s g d a b (maxN)
/-- R408: IMAX.N, scalar form. -/
def execImaxNS (g : Pred) (d a : SReg) (b : SSrc) (s : State) : Host.Outcome State Fault Refusal :=
  scaBin s g d a b (maxN)
/-- R408: IABS, vector form. -/
def execIabsV (g : Pred) (d : VReg) (b : VSrc) (s : State) : Host.Outcome State Fault Refusal :=
  vecUn s g d b (absI)
/-- R408: IABS, scalar form. -/
def execIabsS (g : Pred) (d : SReg) (b : SSrc) (s : State) : Host.Outcome State Fault Refusal :=
  scaUn s g d b (absI)
/-- R332: AND, vector form. -/
def execAndV (g : Pred) (d a : VReg) (b : VSrc) (s : State) : Host.Outcome State Fault Refusal :=
  vecBin s g d a b (fun x y => x &&& y)
/-- R332: AND, scalar form. -/
def execAndS (g : Pred) (d a : SReg) (b : SSrc) (s : State) : Host.Outcome State Fault Refusal :=
  scaBin s g d a b (fun x y => x &&& y)
/-- R433: OR, vector form. -/
def execOrV (g : Pred) (d a : VReg) (b : VSrc) (s : State) : Host.Outcome State Fault Refusal :=
  vecBin s g d a b (fun x y => x ||| y)
/-- R433: OR, scalar form. -/
def execOrS (g : Pred) (d a : SReg) (b : SSrc) (s : State) : Host.Outcome State Fault Refusal :=
  scaBin s g d a b (fun x y => x ||| y)
/-- R472: XOR, vector form. -/
def execXorV (g : Pred) (d a : VReg) (b : VSrc) (s : State) : Host.Outcome State Fault Refusal :=
  vecBin s g d a b (fun x y => x ^^^ y)
/-- R472: XOR, scalar form. -/
def execXorS (g : Pred) (d a : SReg) (b : SSrc) (s : State) : Host.Outcome State Fault Refusal :=
  scaBin s g d a b (fun x y => x ^^^ y)
/-- R430: NOT, vector form. -/
def execNotV (g : Pred) (d : VReg) (b : VSrc) (s : State) : Host.Outcome State Fault Refusal :=
  vecUn s g d b (fun y => ~~~y)
/-- R430: NOT, scalar form. -/
def execNotS (g : Pred) (d : SReg) (b : SSrc) (s : State) : Host.Outcome State Fault Refusal :=
  scaUn s g d b (fun y => ~~~y)
/-- R447: SHL, vector form. -/
def execShlV (g : Pred) (d a : VReg) (b : VSrc) (s : State) : Host.Outcome State Fault Refusal :=
  vecBin s g d a b (shlW)
/-- R447: SHL, scalar form. -/
def execShlS (g : Pred) (d a : SReg) (b : SSrc) (s : State) : Host.Outcome State Fault Refusal :=
  scaBin s g d a b (shlW)
/-- R447: SHR, vector form. -/
def execShrV (g : Pred) (d a : VReg) (b : VSrc) (s : State) : Host.Outcome State Fault Refusal :=
  vecBin s g d a b (shrW)
/-- R447: SHR, scalar form. -/
def execShrS (g : Pred) (d a : SReg) (b : SSrc) (s : State) : Host.Outcome State Fault Refusal :=
  scaBin s g d a b (shrW)
/-- R447: SAR, vector form. -/
def execSarV (g : Pred) (d a : VReg) (b : VSrc) (s : State) : Host.Outcome State Fault Refusal :=
  vecBin s g d a b (sarW)
/-- R447: SAR, scalar form. -/
def execSarS (g : Pred) (d a : SReg) (b : SSrc) (s : State) : Host.Outcome State Fault Refusal :=
  scaBin s g d a b (sarW)
/-- R447: ROT, vector form. -/
def execRotV (g : Pred) (d a : VReg) (b : VSrc) (s : State) : Host.Outcome State Fault Refusal :=
  vecBin s g d a b (rotW)
/-- R447: ROT, scalar form. -/
def execRotS (g : Pred) (d a : SReg) (b : SSrc) (s : State) : Host.Outcome State Fault Refusal :=
  scaBin s g d a b (rotW)
/-- R441: POPC, vector form. -/
def execPopcV (g : Pred) (d : VReg) (b : VSrc) (s : State) : Host.Outcome State Fault Refusal :=
  vecUn s g d b (popcW)
/-- R441: POPC, scalar form. -/
def execPopcS (g : Pred) (d : SReg) (b : SSrc) (s : State) : Host.Outcome State Fault Refusal :=
  scaUn s g d b (popcW)
/-- R361: CLZ, vector form. -/
def execClzV (g : Pred) (d : VReg) (b : VSrc) (s : State) : Host.Outcome State Fault Refusal :=
  vecUn s g d b (clzW)
/-- R361: CLZ, scalar form. -/
def execClzS (g : Pred) (d : SReg) (b : SSrc) (s : State) : Host.Outcome State Fault Refusal :=
  scaUn s g d b (clzW)
/-- R347: BREV, vector form. -/
def execBrevV (g : Pred) (d : VReg) (b : VSrc) (s : State) : Host.Outcome State Fault Refusal :=
  vecUn s g d b (brevW)
/-- R347: BREV, scalar form. -/
def execBrevS (g : Pred) (d : SReg) (b : SSrc) (s : State) : Host.Outcome State Fault Refusal :=
  scaUn s g d b (brevW)
/-- R343: BFE.N, vector form. -/
def execBfeNV (g : Pred) (d a : VReg) (b : VSrc) (s : State) : Host.Outcome State Fault Refusal :=
  vecBin s g d a b (bfeN)
/-- R343: BFE.N, scalar form. -/
def execBfeNS (g : Pred) (d a : SReg) (b : SSrc) (s : State) : Host.Outcome State Fault Refusal :=
  scaBin s g d a b (bfeN)
/-- R343: BFE.I, vector form. -/
def execBfeIV (g : Pred) (d a : VReg) (b : VSrc) (s : State) : Host.Outcome State Fault Refusal :=
  vecBin s g d a b (bfeI)
/-- R343: BFE.I, scalar form. -/
def execBfeIS (g : Pred) (d a : SReg) (b : SSrc) (s : State) : Host.Outcome State Fault Refusal :=
  scaBin s g d a b (bfeI)
/-- R344: BFI, vector form. -/
def execBfiV (g : Pred) (d a : VReg) (b : VSrc) (s : State) : Host.Outcome State Fault Refusal :=
  vecTri s g d a b (bfiW)
/-- R344: BFI, scalar form. -/
def execBfiS (g : Pred) (d a : SReg) (b : SSrc) (s : State) : Host.Outcome State Fault Refusal :=
  scaTri s g d a b (bfiW)
/-- R428: MOV, vector form. -/
def execMovV (g : Pred) (d : VReg) (b : VSrc) (s : State) : Host.Outcome State Fault Refusal :=
  vecUn s g d b (fun y => y)
/-- R428: MOV, scalar form. -/
def execMovS (g : Pred) (d : SReg) (b : SSrc) (s : State) : Host.Outcome State Fault Refusal :=
  scaUn s g d b (fun y => y)
/-- R451: SEL, vector form: G selects and guards nothing. -/
def execSelV (p : Pred) (d a : VReg) (b : VSrc) (s : State) : Host.Outcome State Fault Refusal :=
  vecWord s (d.toNat :: a.toNat :: VSrc.regs b) (fun x sd c =>
    (s.setAgent (x.setV d.toNat sd.mask (fun l =>
      if (x.pred p.toNat).getLsbD l then x.vreg a.toNat l else VSrc.get x b l))).retire c)
/-- R451: SEL, scalar form. -/
def execSelS (p : Pred) (d a : SReg) (b : SSrc) (s : State) : Host.Outcome State Fault Refusal :=
  withIssuer s (fun x sd c =>
    (s.setAgent (x.setS d.toNat (if activeMask x sd p != 0 then x.sreg a.toNat else SSrc.get x b))).retire c)
/-- R429: NOP. -/
def execNop (s : State) : Host.Outcome State Fault Refusal := withIssuer s (fun _ _ c => s.retire c)

end Sys2Proof.Machine
end

