-- ==== Sys2Proof/Machine/FloatAlu.lean ====
section
/-!
DEFINITION. Sys2Proof/Machine/FloatAlu.lean: the floating-point words of class ALU: FADD, FSUB, FMUL, FFMA (R379 to
R381), FMIN, FMAX (R394), FDOT2 (R390) and the unary functions (R386 to R389).
-/
namespace Sys2Proof.Machine

/-! ### Elements -/

/-- R381: an exact sum of terms rounded once; `inv` says that an input signals or a product is invalid. -/
def sumRes (f : Fmt) (rm : Rm) (ftz inv : Bool) (terms : List FVal) : Res :=
  if inv || sumInvalid terms then nanRes f true
  else if terms.any FVal.isNan then nanRes f false
  else roundRes f rm ftz (sumExact (rm == .rdn) terms)

/-- R381: A + B. -/
def addRes (f : Fmt) (rm : Rm) (ftz : Bool) (a b : FVal) : Res := sumRes f rm ftz (a.isSig || b.isSig) [a, b]

/-- R381: A × B. -/
def mulRes (f : Fmt) (rm : Rm) (ftz : Bool) (a b : FVal) : Res :=
  if a.isSig || b.isSig || mulInvalid a b then nanRes f true
  else if a.isNan || b.isNan then nanRes f false
  else roundRes f rm ftz (a.mul b)

/-- R381: A × B + C with one rounding; 0 × ∞ is invalid whatever C is. -/
def fmaRes (f : Fmt) (rm : Rm) (ftz : Bool) (a b c : FVal) : Res :=
  sumRes f rm ftz (a.isSig || b.isSig || c.isSig || mulInvalid a b) [a.mul b, c]

/-- R390: A0 × B0 + A1 × B1 + D in FP32 with one rounding. -/
def dot2Res (rm : Rm) (ftz : Bool) (a0 b0 a1 b1 d : FVal) : Res :=
  sumRes .fp32 rm ftz
    (a0.isSig || b0.isSig || a1.isSig || b1.isSig || d.isSig || mulInvalid a0 b0 || mulInvalid a1 b1)
    [a0.mul b0, a1.mul b1, d]

/-- R394: the minimum or maximum of two patterns with their values. -/
def minmaxRes (f : Fmt) (max : Bool) (a b : FVal) (ab bb : DW) : Res :=
  if a.isSig || b.isSig then nanRes f true
  else if a.isNan && b.isNan then nanRes f false
  else if a.isNan then { bits := bb, flags := 0 }
  else if b.isNan then { bits := ab, flags := 0 }
  else if (if max then b.ltz a else a.ltz b) then { bits := ab, flags := 0 }
  else { bits := bb, flags := 0 }

/-- R46: an FP32 input pattern after the flush of FTZ. -/
def flush32 (ftz : Bool) (w : W) : W := if ftz && (w &&& 0x7F800000) == 0 then w &&& 0x80000000 else w

/-- R380: the elements of a packed register. -/
def half0 (w : W) : Nat := (w.extractLsb' 0 16).toNat
def half1 (w : W) : Nat := (w.extractLsb' 16 16).toNat

/-- R381: both halves of a packed result, flags ORed. -/
def pairRes (lo hi : Res) : Res :=
  { bits := ((hi.bits.extractLsb' 0 16 ++ lo.bits.extractLsb' 0 16 : W)).setWidth 64, flags := lo.flags ||| hi.flags }

/-! ### Frames -/

/-- A vector word that writes a 32-bit result in each active lane and merges the flags (R52). -/
def vecRes (s : State) (g : Pred) (d : Nat) (regs : List Nat) (f : Agent → W → Nat → Res) :
    Host.Outcome State Fault Refusal :=
  vecWord s (d :: regs) (fun x sd c =>
    let m := activeMask x sd g
    ((s.setAgent (x.setV d m (fun l => (f x sd.fmt l).w))).orFmt c (orFlags m (fun l => (f x sd.fmt l).flags))).retire c)

/-- A vector word that writes a 64-bit result to a pair. -/
def vecResD (s : State) (g : Pred) (d : Nat) (regs : List Nat) (f : Agent → W → Nat → Res) :
    Host.Outcome State Fault Refusal :=
  vecWord s (d :: (d + 1) :: regs) (fun x sd c =>
    let m := activeMask x sd g
    ((s.setAgent (x.setVPair d m (fun l => (f x sd.fmt l).bits))).orFmt c
      (orFlags m (fun l => (f x sd.fmt l).flags))).retire c)

/-- A scalar-form word that writes a 32-bit result and merges its flags. -/
def scaRes (s : State) (g : Pred) (d : Nat) (f : Agent → W → Res) : Host.Outcome State Fault Refusal :=
  scalarWord s g (fun x sd c =>
    let r := f x sd.fmt
    ((s.setAgent (x.setS d r.w)).orFmt c r.flags).retire c)

/-- The value of an FP32 word under fmt. -/
def v32 (fmt : W) (w : W) : FVal := Fmt.valueFtz (fmtFtz fmt) .fp32 w.toNat

/-- An .F32 vector form over A and B. -/
def f32V (s : State) (g : Pred) (d a : VReg) (b : VSrc) (op : Rm → Bool → FVal → FVal → Res) :
    Host.Outcome State Fault Refusal :=
  vecRes s g d.toNat (a.toNat :: VSrc.regs b) (fun x fmt l =>
    op (fmtRm fmt) (fmtFtz fmt) (v32 fmt (x.vreg a.toNat l)) (v32 fmt (VSrc.get x b l)))

/-- An .F32 scalar form over A and B. -/
def f32S (s : State) (g : Pred) (d a : SReg) (b : SSrc) (op : Rm → Bool → FVal → FVal → Res) :
    Host.Outcome State Fault Refusal :=
  scaRes s g d.toNat (fun x fmt =>
    op (fmtRm fmt) (fmtFtz fmt) (v32 fmt (x.sreg a.toNat)) (v32 fmt (SSrc.get x b)))

/-- An .F64 form over A and B; FP64 is never flushed (R46). -/
def f64V (s : State) (g : Pred) (d a : VReg) (b : VSrc) (op : Rm → FVal → FVal → Res) :
    Host.Outcome State Fault Refusal :=
  vecResD s g d.toNat (a.toNat :: (a.toNat + 1) :: VSrc.regsD b) (fun x fmt l =>
    op (fmtRm fmt) (Fmt.value .fp64 (x.vpair a.toNat l).toNat) (VSrc.valF64 x b l))

/-- A packed form of two 16-bit elements over A and B. -/
def pk2V (s : State) (g : Pred) (d a : VReg) (b : VSrc) (f : Fmt) (op : Rm → Bool → FVal → FVal → Res) :
    Host.Outcome State Fault Refusal :=
  vecRes s g d.toNat (a.toNat :: VSrc.regs b) (fun x fmt l =>
    let e (h : W → Nat) : Res :=
      op (fmtRm fmt) (fmtFtz fmt) (Fmt.valueFtz (fmtFtz fmt) f (h (x.vreg a.toNat l)))
        (Fmt.valueFtz (fmtFtz fmt) f (h (VSrc.get x b l)))
    pairRes (e half0) (e half1))

/-- A packed form of two 16-bit elements over A, B and D. -/
def pk3V (s : State) (g : Pred) (d a : VReg) (b : VSrc) (f : Fmt) :
    Host.Outcome State Fault Refusal :=
  vecRes s g d.toNat (a.toNat :: VSrc.regs b) (fun x fmt l =>
    let v (n : Nat) : FVal := Fmt.valueFtz (fmtFtz fmt) f n
    let e (h : W → Nat) : Res :=
      fmaRes f (fmtRm fmt) (fmtFtz fmt) (v (h (x.vreg a.toNat l))) (v (h (VSrc.get x b l))) (v (h (x.vreg d.toNat l)))
    pairRes (e half0) (e half1))

/-! ### FADD, FSUB, FMUL, FFMA (R379 to R381) -/

/-- R379: FADD.F32, vector form. -/
def execFaddF32V (g : Pred) (d a : VReg) (b : VSrc) (s : State) : Host.Outcome State Fault Refusal :=
  f32V s g d a b (fun rm ftz x y => addRes .fp32 rm ftz x y)
/-- R379: FADD.F32, scalar form. -/
def execFaddF32S (g : Pred) (d a : SReg) (b : SSrc) (s : State) : Host.Outcome State Fault Refusal :=
  f32S s g d a b (fun rm ftz x y => addRes .fp32 rm ftz x y)
/-- R379: FADD.F64. -/
def execFaddF64 (g : Pred) (d a : VReg) (b : VSrc) (s : State) : Host.Outcome State Fault Refusal :=
  f64V s g d a b (fun rm x y => addRes .fp64 rm false x y)
/-- R379: FADD.H2. -/
def execFaddH2 (g : Pred) (d a : VReg) (b : VSrc) (s : State) : Host.Outcome State Fault Refusal :=
  pk2V s g d a b .fp16 (fun rm ftz x y => addRes .fp16 rm ftz x y)
/-- R379: FADD.B2. -/
def execFaddB2 (g : Pred) (d a : VReg) (b : VSrc) (s : State) : Host.Outcome State Fault Refusal :=
  pk2V s g d a b .bf16 (fun rm ftz x y => addRes .bf16 rm ftz x y)
/-- R379: FSUB.F32. -/
def execFsubF32 (g : Pred) (d a : VReg) (b : VSrc) (s : State) : Host.Outcome State Fault Refusal :=
  f32V s g d a b (fun rm ftz x y => addRes .fp32 rm ftz x y.neg)
/-- R379: FSUB.F64. -/
def execFsubF64 (g : Pred) (d a : VReg) (b : VSrc) (s : State) : Host.Outcome State Fault Refusal :=
  f64V s g d a b (fun rm x y => addRes .fp64 rm false x y.neg)
/-- R379: FMUL.F32, vector form. -/
def execFmulF32V (g : Pred) (d a : VReg) (b : VSrc) (s : State) : Host.Outcome State Fault Refusal :=
  f32V s g d a b (fun rm ftz x y => mulRes .fp32 rm ftz x y)
/-- R379: FMUL.F32, scalar form. -/
def execFmulF32S (g : Pred) (d a : SReg) (b : SSrc) (s : State) : Host.Outcome State Fault Refusal :=
  f32S s g d a b (fun rm ftz x y => mulRes .fp32 rm ftz x y)
/-- R379: FMUL.F64. -/
def execFmulF64 (g : Pred) (d a : VReg) (b : VSrc) (s : State) : Host.Outcome State Fault Refusal :=
  f64V s g d a b (fun rm x y => mulRes .fp64 rm false x y)
/-- R379: FMUL.H2. -/
def execFmulH2 (g : Pred) (d a : VReg) (b : VSrc) (s : State) : Host.Outcome State Fault Refusal :=
  pk2V s g d a b .fp16 (fun rm ftz x y => mulRes .fp16 rm ftz x y)
/-- R379: FMUL.B2. -/
def execFmulB2 (g : Pred) (d a : VReg) (b : VSrc) (s : State) : Host.Outcome State Fault Refusal :=
  pk2V s g d a b .bf16 (fun rm ftz x y => mulRes .bf16 rm ftz x y)
/-- R379: FFMA.F32, vector form. -/
def execFfmaF32V (g : Pred) (d a : VReg) (b : VSrc) (s : State) : Host.Outcome State Fault Refusal :=
  vecRes s g d.toNat (a.toNat :: VSrc.regs b) (fun x fmt l =>
    fmaRes .fp32 (fmtRm fmt) (fmtFtz fmt) (v32 fmt (x.vreg a.toNat l)) (v32 fmt (VSrc.get x b l))
      (v32 fmt (x.vreg d.toNat l)))
/-- R379: FFMA.F32, scalar form. -/
def execFfmaF32S (g : Pred) (d a : SReg) (b : SSrc) (s : State) : Host.Outcome State Fault Refusal :=
  scaRes s g d.toNat (fun x fmt =>
    fmaRes .fp32 (fmtRm fmt) (fmtFtz fmt) (v32 fmt (x.sreg a.toNat)) (v32 fmt (SSrc.get x b))
      (v32 fmt (x.sreg d.toNat)))
/-- R379: FFMA.F64. -/
def execFfmaF64 (g : Pred) (d a : VReg) (b : VSrc) (s : State) : Host.Outcome State Fault Refusal :=
  vecResD s g d.toNat (a.toNat :: (a.toNat + 1) :: VSrc.regsD b) (fun x fmt l =>
    fmaRes .fp64 (fmtRm fmt) false (Fmt.value .fp64 (x.vpair a.toNat l).toNat) (VSrc.valF64 x b l)
      (Fmt.value .fp64 (x.vpair d.toNat l).toNat))
/-- R379: FFMA.H2. -/
def execFfmaH2 (g : Pred) (d a : VReg) (b : VSrc) (s : State) : Host.Outcome State Fault Refusal :=
  pk3V s g d a b .fp16
/-- R379: FFMA.B2. -/
def execFfmaB2 (g : Pred) (d a : VReg) (b : VSrc) (s : State) : Host.Outcome State Fault Refusal :=
  pk3V s g d a b .bf16

/-! ### FMIN, FMAX, FDOT2 (R394, R390) -/

/-- R394: an .F32 minimum or maximum. -/
def minmax32 (s : State) (g : Pred) (d a : VReg) (b : VSrc) (max : Bool) : Host.Outcome State Fault Refusal :=
  vecRes s g d.toNat (a.toNat :: VSrc.regs b) (fun x fmt l =>
    minmaxRes .fp32 max (v32 fmt (x.vreg a.toNat l)) (v32 fmt (VSrc.get x b l))
      ((flush32 (fmtFtz fmt) (x.vreg a.toNat l)).setWidth 64) ((flush32 (fmtFtz fmt) (VSrc.get x b l)).setWidth 64))

/-- R394: an .F64 minimum or maximum. -/
def minmax64 (s : State) (g : Pred) (d a : VReg) (b : VSrc) (max : Bool) : Host.Outcome State Fault Refusal :=
  vecResD s g d.toNat (a.toNat :: (a.toNat + 1) :: VSrc.regsD b) (fun x _ l =>
    minmaxRes .fp64 max (Fmt.value .fp64 (x.vpair a.toNat l).toNat) (VSrc.valF64 x b l)
      (x.vpair a.toNat l) (VSrc.getF64 x b l))

/-- R394: FMIN.F32. -/
def execFminF32 (g : Pred) (d a : VReg) (b : VSrc) (s : State) : Host.Outcome State Fault Refusal :=
  minmax32 s g d a b false
/-- R394: FMAX.F32. -/
def execFmaxF32 (g : Pred) (d a : VReg) (b : VSrc) (s : State) : Host.Outcome State Fault Refusal :=
  minmax32 s g d a b true
/-- R394: FMIN.F64. -/
def execFminF64 (g : Pred) (d a : VReg) (b : VSrc) (s : State) : Host.Outcome State Fault Refusal :=
  minmax64 s g d a b false
/-- R394: FMAX.F64. -/
def execFmaxF64 (g : Pred) (d a : VReg) (b : VSrc) (s : State) : Host.Outcome State Fault Refusal :=
  minmax64 s g d a b true
/-- R390: FDOT2. -/
def execFdot2 (g : Pred) (d a : VReg) (b : VSrc) (s : State) : Host.Outcome State Fault Refusal :=
  vecRes s g d.toNat (a.toNat :: VSrc.regs b) (fun x fmt l =>
    let v (n : Nat) : FVal := Fmt.valueFtz (fmtFtz fmt) .bf16 n
    let p := x.vreg a.toNat l
    let q := VSrc.get x b l
    dot2Res (fmtRm fmt) (fmtFtz fmt) (v (half0 p)) (v (half0 q)) (v (half1 p)) (v (half1 q))
      (v32 fmt (x.vreg d.toNat l)))

/-! ### The unary functions (R386 to R389)

FRCP, FRSQ, FEX2, FLG2, FSIN and FCOS return `Config.approx` of the input where that lies within the bound of R387, and
the nearest FP32 value otherwise (DESIGN CHOICE, notes/assumptions/15.md). The exact result is approximated in fixed point with far
more bits than the bounds need. -/

/-- The bits of a fixed-point fraction. -/
def fixBits : Nat := 160
/-- ln 2 in units of 2^-160. -/
def ln2Fix : Nat := 1013035739299659071135698605846798551586536899366
/-- 2π in units of 2^-160. -/
def twoPiFix : Nat := 9182885614096437842769610399486622256908310048836

/-- A finite value in units of 2^-160, rounded down in magnitude. -/
def FVal.toFix (v : FVal) : Int :=
  match v with
  | .fin n m e =>
    let k := e + fixBits
    let t : Nat := if 0 ≤ k then m * 2 ^ k.toNat else m / 2 ^ (-k).toNat
    if n then -(t : Int) else (t : Int)
  | _ => 0

/-- A fixed-point number as a value. -/
def fixVal (t : Int) : FVal := .fin (t < 0) t.natAbs (-(fixBits : Int))

/-- The terms of a power series: `n` terms from the k-th, each the last times `t` over its number. -/
def expSeries (t : Nat) : Nat → Nat → Nat → Nat → Nat
  | 0, _, _, acc => acc
  | n + 1, k, term, acc => expSeries t n (k + 1) (term * t / 2 ^ fixBits / k) (acc + term)

/-- e^t for a fixed-point t in [0, 1). -/
def expFix (t : Nat) : Nat := expSeries t 50 1 (2 ^ fixBits) 0

/-- Alternating series of sine and cosine: `n` terms, each the last times −t² over the next two numbers. -/
def trigSeries (t2 : Nat) : Nat → Nat → Int → Int → Int
  | 0, _, _, acc => acc
  | n + 1, k, term, acc => trigSeries t2 n (k + 2) (-(term * t2 / 2 ^ fixBits / (k * (k + 1) : Nat))) (acc + term)

/-- The sine of a fixed-point angle in [0, 2π). -/
def sinFix (t : Nat) : Int := trigSeries (t * t / 2 ^ fixBits) 50 2 t 0
/-- The cosine of a fixed-point angle in [0, 2π). -/
def cosFix (t : Nat) : Int := trigSeries (t * t / 2 ^ fixBits) 50 1 (2 ^ fixBits : Nat) 0

/-- Bits of log2 of a fixed-point number in [1, 2), most significant first. -/
def log2Bits : Nat → Nat → Nat → Nat
  | 0, _, acc => acc
  | n + 1, f, acc =>
    let q := f * f / 2 ^ fixBits
    if 2 ^ (fixBits + 1) ≤ q then log2Bits n (q / 2) (2 * acc + 1) else log2Bits n q (2 * acc)

/-- 1 / (m × 2^e). -/
def rcpVal (n : Bool) (m : Nat) (e : Int) : FVal := .fin n (2 ^ 200 / m) (-200 - e)

/-- 1 / √(m × 2^e). -/
def rsqVal (m : Nat) (e : Int) : FVal :=
  let m' := if e % 2 == 0 then m else 2 * m
  let e' := if e % 2 == 0 then e else e - 1
  .fin false (isqrtBits (2 ^ 400 / m') 201 0) (-200 - e' / 2)

/-- 2^x for |x| below 150. -/
def ex2Val (x : FVal) : FVal :=
  let t := x.toFix
  let k := t / (2 ^ fixBits : Nat)
  let f := (t % (2 ^ fixBits : Nat)).toNat
  .fin false (expFix (f * ln2Fix / 2 ^ fixBits)) (k - fixBits)

/-- log2 (m × 2^e). -/
def lg2Val (m : Nat) (e : Int) : FVal :=
  let l := log2Of m e
  let f := m * 2 ^ fixBits / 2 ^ Nat.log2 m
  let t := l * (2 ^ 96 : Nat) + (log2Bits 96 f 0 : Nat)
  .fin (t < 0) t.natAbs (-96)

/-- R387: the exponent of one ulp of FP32 at a value. -/
def ulpExp (v : FVal) : Int :=
  match v with
  | .fin _ m e => if m = 0 then -149 else if log2Of m e < -126 then -149 else log2Of m e - 23
  | _ => -149

/-- Whether `c` lies within bm × 2^be of the exact value that `y` approximates, whichever way `y` errs. -/
def within (c y : FVal) (bm : Nat) (be : Int) : Bool :=
  match c, y with
  | .fin _ _ ce, .fin _ _ ye =>
    let q := if ce < ye then (if ce < be then ce else be) else (if ye < be then ye else be)
    decide ((c.toIntAt q - y.toIntAt q).natAbs + scaleTo (2 ^ 20) ye q ≤ scaleTo bm be q)
  | _, _ => false

/-- R387: the value of the unary function numbered `k` at `x`: the chip's own where it is within the bound. -/
def approxBits (k : Nat) (x : W) (y : FVal) (bm : Nat) (be : Int) (ok : FVal → Bool) : Nat :=
  let c := (Config.approx k x).toNat
  if within (Fmt.value .fp32 c) y bm be && ok (Fmt.value .fp32 c) then c
  else (roundArith .fp32 .rne false y).bits

/-- R389, R46: an inexact result: SINX, and under FTZ a subnormal one becomes zero of its sign. -/
def inexactRes (ftz : Bool) (b : Nat) : Res :=
  { bits := (flush32 ftz (BitVec.ofNat 32 b)).setWidth 64, flags := stickyBits false false true false }

/-- A result that sets no flag. -/
def exactRes (b : Nat) : Res := { bits := toDW b, flags := 0 }

/-- R389: an overflow. -/
def ovfRes (n : Bool) : Res := { bits := toDW (Fmt.signBit .fp32 n + 0x7F800000), flags := stickyBits true false true false }

/-- Whether m is a power of two. -/
def isPow2 (m : Nat) : Bool := m != 0 && m == 2 ^ Nat.log2 m

/-- R387 to R389: FRCP. -/
def frcpRes (ftz : Bool) (x : W) : Res :=
  match Fmt.value .fp32 x.toNat with
  | .nan sg => nanRes .fp32 sg
  | .inf n => exactRes (Fmt.signBit .fp32 n)
  | .fin n m e =>
    if m = 0 then exactRes (Fmt.signBit .fp32 n + 0x7F800000)
    else
      let y := rcpVal n m e
      if isPow2 m && -log2Of m e ≤ 127 && -126 ≤ -log2Of m e then
        exactRes (roundArith .fp32 .rne false (.fin n 1 (-log2Of m e))).bits
      else if 128 ≤ log2Of (2 ^ 200 / m) (-200 - e) then ovfRes n
      else inexactRes ftz (approxBits 0 x y 1 (ulpExp y) (fun c => c.sign == n))

/-- R387 to R389: FRSQ. -/
def frsqRes (ftz : Bool) (x : W) : Res :=
  match Fmt.value .fp32 x.toNat with
  | .nan sg => nanRes .fp32 sg
  | .inf n => if n then nanRes .fp32 true else exactRes 0
  | .fin n m e =>
    if m = 0 then exactRes (Fmt.signBit .fp32 n + 0x7F800000)
    else if n then nanRes .fp32 true
    else if isPow2 m && log2Of m e % 2 == 0 then
      exactRes (roundArith .fp32 .rne false (.fin false 1 (-(log2Of m e / 2)))).bits
    else
      let y := rsqVal m e
      inexactRes ftz (approxBits 1 x y 2 (ulpExp y) (fun c => !c.sign))

/-- R387 to R389: FSQRT, correctly rounded. -/
def fsqrtRes (rm : Rm) (x : W) : Res :=
  match Fmt.value .fp32 x.toNat with
  | .nan sg => nanRes .fp32 sg
  | .inf n => if n then nanRes .fp32 true else exactRes 0x7F800000
  | .fin n m e =>
    if m = 0 then exactRes (Fmt.signBit .fp32 n)
    else if n then nanRes .fp32 true
    else roundRes .fp32 rm false (sqrtVal m e)

/-- Whether a finite value is an integer. -/
def FVal.isInt (v : FVal) : Bool :=
  match v with
  | .fin _ m e => decide (0 ≤ e) || m % 2 ^ (-e).toNat == 0
  | _ => false

/-- The floor of a finite value. -/
def FVal.floor (v : FVal) : Int := v.toFix / (2 ^ fixBits : Nat)

/-- R387 to R389: FEX2. -/
def fex2Res (ftz : Bool) (x : W) : Res :=
  let v := Fmt.value .fp32 x.toNat
  match v with
  | .nan sg => nanRes .fp32 sg
  | .inf n => exactRes (if n then 0 else 0x7F800000)
  | .fin _ m _ =>
    if m = 0 then exactRes 0x3F800000
    else if !(v.lt (.fin false 128 0)) then ovfRes false
    else if v.lt (.fin true 149 0) then { (exactRes 0) with flags := stickyBits false false true false }
    else if FVal.isInt v && !(v.lt (.fin true 126 0)) then
      exactRes (roundArith .fp32 .rne false (.fin false 1 (FVal.floor v))).bits
    else
      let y := ex2Val v
      inexactRes ftz (approxBits 2 x y 2 (ulpExp y) (fun c => !c.sign))

/-- R387 to R389: FLG2. -/
def flg2Res (ftz : Bool) (x : W) : Res :=
  let v := Fmt.value .fp32 x.toNat
  match v with
  | .nan sg => nanRes .fp32 sg
  | .inf n => if n then nanRes .fp32 true else exactRes 0x7F800000
  | .fin n m e =>
    if m = 0 then exactRes 0xFF800000
    else if n then nanRes .fp32 true
    else if isPow2 m then exactRes (roundArith .fp32 .rne false (FVal.ofInt (log2Of m e))).bits
    else
      let y := lg2Val m e
      if !(v.lt (.fin false 1 (-1))) && !((FVal.fin false 2 0).lt v) then
        inexactRes ftz (approxBits 3 x y 1 (-22) (fun _ => true))
      else inexactRes ftz (approxBits 3 x y 2 (ulpExp y) (fun _ => true))

/-- R387: a magnitude of at most 1. -/
def atMost1 (c : FVal) : Bool := !c.isNan && !((FVal.fin false 1 0).lt c.abs)

/-- R387: FSIN (`k` = 4) or FCOS (`k` = 5) of a finite non-zero value. -/
def trigRes (ftz : Bool) (k : Nat) (x : W) (v : FVal) : Res :=
  if (FVal.fin false 32768 0).lt v.abs then
    let c := (Config.approx k x).toNat
    inexactRes ftz (if atMost1 (Fmt.value .fp32 c) then c else 0)
  else
    let r := (v.toFix % (twoPiFix : Int)).toNat
    let y := fixVal (if k = 4 then sinFix r else cosFix r)
    let b := approxBits k x y 1 (-21) atMost1
    inexactRes ftz (if atMost1 (Fmt.value .fp32 b) then b else Fmt.signBit .fp32 y.sign + 0x3F800000)

/-- R387 to R389: FSIN. -/
def fsinRes (ftz : Bool) (x : W) : Res :=
  let v := Fmt.value .fp32 x.toNat
  match v with
  | .nan sg => nanRes .fp32 sg
  | .inf _ => nanRes .fp32 true
  | .fin n m _ => if m = 0 then exactRes (Fmt.signBit .fp32 n) else trigRes ftz 4 x v

/-- R387 to R389: FCOS. -/
def fcosRes (ftz : Bool) (x : W) : Res :=
  let v := Fmt.value .fp32 x.toNat
  match v with
  | .nan sg => nanRes .fp32 sg
  | .inf _ => nanRes .fp32 true
  | .fin _ m _ => if m = 0 then exactRes 0x3F800000 else trigRes ftz 5 x v

/-- R386: a unary FP32 word; under FTZ a subnormal input is zero of its sign (R388). -/
def unary32 (s : State) (g : Pred) (d : VReg) (b : VSrc) (f : Rm → Bool → W → Res) :
    Host.Outcome State Fault Refusal :=
  vecRes s g d.toNat (VSrc.regs b) (fun x fmt l =>
    f (fmtRm fmt) (fmtFtz fmt) (flush32 (fmtFtz fmt) (VSrc.get x b l)))

/-- R386: FRCP. -/
def execFrcp (g : Pred) (d : VReg) (b : VSrc) (s : State) : Host.Outcome State Fault Refusal :=
  unary32 s g d b (fun _ ftz x => frcpRes ftz x)
/-- R386: FRSQ. -/
def execFrsq (g : Pred) (d : VReg) (b : VSrc) (s : State) : Host.Outcome State Fault Refusal :=
  unary32 s g d b (fun _ ftz x => frsqRes ftz x)
/-- R386: FEX2. -/
def execFex2 (g : Pred) (d : VReg) (b : VSrc) (s : State) : Host.Outcome State Fault Refusal :=
  unary32 s g d b (fun _ ftz x => fex2Res ftz x)
/-- R386: FLG2. -/
def execFlg2 (g : Pred) (d : VReg) (b : VSrc) (s : State) : Host.Outcome State Fault Refusal :=
  unary32 s g d b (fun _ ftz x => flg2Res ftz x)
/-- R386: FSIN. -/
def execFsin (g : Pred) (d : VReg) (b : VSrc) (s : State) : Host.Outcome State Fault Refusal :=
  unary32 s g d b (fun _ ftz x => fsinRes ftz x)
/-- R386: FCOS. -/
def execFcos (g : Pred) (d : VReg) (b : VSrc) (s : State) : Host.Outcome State Fault Refusal :=
  unary32 s g d b (fun _ ftz x => fcosRes ftz x)
/-- R386: FSQRT. -/
def execFsqrt (g : Pred) (d : VReg) (b : VSrc) (s : State) : Host.Outcome State Fault Refusal :=
  unary32 s g d b (fun rm _ x => fsqrtRes rm x)

end Sys2Proof.Machine
end

