-- ==== Sys2Proof/Machine/Xlate.lean ====
section
/-!
DEFINITION. Sys2Proof/Machine/Xlate.lean: address classes and reach (R132 to R137), the page walk and the TLBs (R268 to
R270), and the checks of one access of one lane with what a failing or waiting lane does
(R260, R266, R158, R162, R189, R293).
-/
namespace Sys2Proof.Machine

/-! ### Who accesses -/

/-- R268, R271: a group or a control core. -/
def State.who (s : State) (a : Agent) : Who :=
  match a.cc with
  | some cc =>
    { pkg := a.pkg, vf := a.vf, asid := cc.asid.toNat, croot := cc.croot.toNat, troot := cc.troot.toNat,
      tlbs := [.cc cc.num], core := some (cacheCore a), cc := true, supervisor := cc.supervisor, crew := 0, gang := 0 }
  | none =>
    let v := s.vf a.pkg a.vf
    { pkg := a.pkg, vf := a.vf, asid := a.vf, croot := v.croot.toNat, troot := v.troot.toNat,
      tlbs := [.core a.core, .cluster (a.core / 4)], core := some a.core, cc := false, supervisor := false,
      crew := a.crew, gang := match s.crew? a.crew with
        | some c => c.gang
        | none => 0 }

/-- R228, R268: an engine command of a VF, translating through the TLB of its cluster. -/
def State.whoCmd (s : State) (c : Cmd) : Who :=
  let v := s.vf c.pkg c.vf
  match if c.vf < 128 then none else (s.agent? c.agent).bind (fun a => a.cc) with
  | some cc =>
    { pkg := c.pkg, vf := c.vf, asid := cc.asid.toNat, croot := cc.croot.toNat, troot := cc.troot.toNat,
      tlbs := [.cluster c.eng], core := none, cc := true, supervisor := false, crew := 0, gang := 0 }
  | none =>
  { pkg := c.pkg, vf := c.vf, asid := c.vf, croot := v.croot.toNat, troot := v.troot.toNat,
    tlbs := [.cluster c.eng], core := none, cc := false, supervisor := false, crew := c.crew, gang := c.gang }

/-- The kind of an access: the SUB of R264, whether it writes, fetches code, and whether a remote tensor range is
within its reach (R137). -/
structure Kind where
  sub : Nat
  write : Bool
  fetch : Bool
  remote : Bool
deriving DecidableEq, Repr

namespace Kind
def load : Kind := { sub := 0, write := false, fetch := false, remote := false }
def store : Kind := { sub := 1, write := true, fetch := false, remote := false }
def atomic : Kind := { sub := 2, write := true, fetch := false, remote := true }
def fetchCode : Kind := { sub := 3, write := false, fetch := true, remote := false }
def arrive : Kind := { sub := 4, write := true, fetch := false, remote := false }
def engineRead : Kind := { sub := 0, write := false, fetch := false, remote := true }
def engineWrite : Kind := { sub := 1, write := true, fetch := false, remote := true }
end Kind

/-- The level number of a page size's leaf (R268). -/
def sizeLevel (p : PgSize) : Nat :=
  match p with
  | .g32 => 1
  | .m512 => 2
  | .m2 => 3
  | .k64 => 4

/-- R132: the class of an address. -/
def vaClass (va : DW) : Nat := (va.extractLsb' 62 2).toNat

/-- R132: the space of a translated address. -/
def vaSpace (va : DW) : Space := if va.getLsbD 62 then .ten else .ctl

/-- R132: the translated bits of an address. -/
def vaBits (va : DW) : Nat := if va.getLsbD 62 then (va.extractLsb' 0 56).toNat else (va.extractLsb' 0 48).toNat

/-- R269: whether a cached entry covers an address of an address space. -/
def Tlb.covers (t : Tlb) (asid : Nat) (va : DW) : Bool :=
  t.asid == asid && t.va >>> t.size.log2 == va >>> t.size.log2

/-- R269: the first cached translation an access finds in its TLBs. -/
def Pkg.tlbFind (p : Pkg) (w : Who) (va : DW) : Option Tlb :=
  w.tlbs.findSome? (fun l => p.tlb.find? (fun t => t.loc == l && t.covers w.asid va))

/-- R8, R269: the die whose page-walk cache an agent's walks use. -/
def Who.die (w : Who) : Nat :=
  match w.tlbs.getLast? with
  | some (.core n) => n / 128
  | some (.cluster n) => if n < 64 then n / 32 else n - 64
  | some (.cc n) => n / 8
  | none => 0

/-- R269: the deepest level whose table the page-walk cache knows for an address, and that table. -/
def Pkg.walkStart (p : Pkg) (w : Who) (sp : Space) (va : Nat) : List Level → Option (List Level × Nat)
  | [] => none
  | lv :: rest =>
    match p.walkStart w sp va rest with
    | some x => some x
    | none =>
      (p.walks.find? (fun x => x.die == w.die && x.asid == w.asid && decide (x.space = sp) && x.level == lv.num &&
        x.pfx == va / 2 ^ (lv.shift + lv.width))).map (fun x => (lv :: rest, x.base))

/-- R268, R269: where a walk starts: the deepest table that the page-walk cache knows, else the root. -/
def State.walkTop (s : State) (w : Who) (va : DW) : List Level × Nat :=
  let sp := vaSpace va
  let levels := if sp = .ten then tenLevels else ctlLevels
  ((s.pkg? w.pkg).bind (fun p => p.walkStart w sp (vaBits va) levels)).getD
    (levels, if sp = .ten then w.troot else w.croot)

/-- R268, R269: a walk. -/
def State.walk (s : State) (w : Who) (va : DW) : Walk :=
  s.walkFrom (vaSpace va) (vaBits va) (s.walkTop w va).1 (s.walkTop w va).2

/-- The translation of an address: from a TLB, else by a walk. -/
def State.lookup (s : State) (w : Who) (va : DW) : Walk :=
  match (s.pkg? w.pkg).bind (fun p => p.tlbFind w va) with
  | some t => .leaf t.leaf t.size 0
  | none => s.walk w va

/-- R269: the entries a TLB holds. -/
def tlbSize (l : TlbAt) : Nat :=
  match l with
  | .core _ => 64
  | .cluster _ => 2048
  | .cc _ => 64

/-- R269: an entry cached in one TLB; the oldest beyond its size is dropped (DESIGN CHOICE, notes/assumptions/11.md). -/
def Pkg.tlbAdd (p : Pkg) (t : Tlb) : Pkg :=
  if p.tlb.any (fun x => x.loc == t.loc && x.covers t.asid t.va) then p
  else
    let mine := p.tlb.filter (fun x => x.loc == t.loc)
    let old := p.tlb.filter (fun x => x.loc != t.loc)
    { p with tlb := t :: (mine.take (tlbSize t.loc - 1) ++ old) }

/-- R269: the tables of a walk kept in a die's page-walk cache, each once (DESIGN CHOICE, notes/assumptions/11.md: the
spec gives no size). -/
def Pkg.walksAdd (p : Pkg) (w : Who) (sp : Space) (l : List (Nat × Nat × Nat)) : Pkg :=
  { p with walks := l.foldl (fun acc x =>
      let e : WalkEnt := { die := w.die, asid := w.asid, space := sp, level := x.1, pfx := x.2.1, base := x.2.2 }
      if acc.any (fun y => y.die == e.die && y.asid == e.asid && decide (y.space = sp) && y.level == e.level &&
        y.pfx == e.pfx) then acc else e :: acc) p.walks }

/-- R268, R289: what the walk that an access makes, where its TLBs do not know the address, sends to other packages. -/
def State.walkSent (s : State) (w : Who) (va : DW) : State :=
  let known := ((s.pkg? w.pkg).bind (fun p => p.tlbFind w va)).isSome
  let walked := match vaClass va with
    | 0 => va.extractLsb' 48 14 == 0
    | 1 => va.extractLsb' 56 6 == 0
    | _ => false
  if known || !walked then s
  else s.readTables w.pkg (s.walkAts (vaBits va) (s.walkTop w va).1 (s.walkTop w va).2)

/-- R269: a MAPPED translation is cached where it was not found, with the tables of its walk; INVALID entries never
are. -/
def State.tlbFill (s0 : State) (w : Who) (va : DW) : State :=
  let s := s0.walkSent w va
  match s.lookup w va with
  | .leaf e size _ =>
    if leafSt e = 1 then
      let found := ((s.pkg? w.pkg).bind (fun p => p.tlbFind w va)).isSome
      let tables := if found then [] else s.walkTables (vaBits va) (s.walkTop w va).1 (s.walkTop w va).2
      s.modPkg w.pkg (fun p => w.tlbs.foldl (fun p l =>
        p.tlbAdd { loc := l, asid := w.asid, va := (va >>> size.log2) <<< size.log2, size := size, leaf := e })
          (p.walksAdd w (vaSpace va) tables))
    else s
  | _ => s

/-- R268: how far the prefix of a walk-cache entry of a level is shifted. -/
def walkShift (level : Nat) : Nat :=
  match level with
  | 1 => 48
  | 2 => 35
  | 3 => 29
  | _ => 21

/-- R270: whether a walk-cache entry serves an address of a range. -/
def WalkEnt.overlaps (x : WalkEnt) (va : DW) (bytes : Nat) : Bool :=
  decide (x.space = vaSpace va) && decide (vaBits va < (x.pfx + 1) * 2 ^ walkShift x.level) &&
  decide (x.pfx * 2 ^ walkShift x.level < vaBits va + bytes)

/-- R270, R462: cached translations and walk-cache entries of an address space that overlap a range go, on every
package. -/
def State.tlbDrop (s : State) (asid : Nat) (whole : Bool) (va : DW) (bytes : Nat) : State :=
  { s with pkgs := s.pkgs.map (fun p => { p with
      tlb := p.tlb.filter (fun t =>
        !(t.asid == asid && (whole || (decide (va.toNat < t.va.toNat + 2 ^ t.size.log2) &&
          decide (t.va.toNat < va.toNat + bytes)))))
      walks := p.walks.filter (fun x => !(x.asid == asid && (whole || x.overlaps va bytes))) }) }

/-! ### The check of one access -/

/-- Where an access lands. -/
inductive Target where
  /-- a control physical address with its page's COH -/
  | ctl (pa coh : Nat)
  /-- a tensor physical address -/
  | ten (pa : Nat)
  /-- an offset in a crew's allocation; `gang` for the gang form -/
  | pad (crew off : Nat) (gang : Bool)
  /-- an offset of the MP register space (R280) -/
  | mmio (off : Nat)
deriving DecidableEq, Repr

/-- The outcome of the checks of one access. -/
inductive Checked where
  | ok (t : Target)
  | bad (cause : Nat) (detail : DW)
  /-- page-fault service for an INVALID entry at this level (R266) -/
  | service (level : Nat)
  /-- a stall that ends by itself (R158, R162, R189, R293) -/
  | wait (w : Stall)
deriving DecidableEq, Repr

/-- R157: the page-transit entry with this index. -/
def State.transitFind (s : State) (pkg i : Nat) : Option Transit :=
  (s.pkg? pkg).bind (fun p => p.transit.find? (fun t => t.idx == i))

/-- R133: the physical page that an address translates to where it is mapped: its space, base and size. -/
def State.mappedPage (s : State) (w : Who) (va : DW) : Option (Space × Nat × Nat) :=
  if 2 ≤ vaClass va then none
  else
    match s.lookup w va with
    | .leaf e size _ => if leafSt e = 1 then some (vaSpace va, leafPa e, 2 ^ size.log2) else none
    | _ => none

/-- R162: the SNAP copy that protects a page this physical address lies in: a page of its source, mapped when the copy
started or since. -/
def State.snapOf (s : State) (sp : Space) (pa : Nat) : Option Nat :=
  let covers (x : Space × Nat × Nat) : Bool := decide (x.1 = sp) && decide (x.2.1 ≤ pa) && decide (pa < x.2.1 + x.2.2)
  (s.cmds.find? (fun c => c.snap.any covers ||
    c.started && c.snapVa.any (fun va => (s.mappedPage (s.whoCmd c) va).any covers))).map Cmd.inst

/-- R185, R189: whether an agent may access a PRIVATE page: its owner core, or an engine once an owner is recorded. -/
def State.privateOk (s : State) (w : Who) (pa : Nat) : Bool :=
  match s.ownerOf pa with
  | none => false
  | some o =>
    match w.core with
    | none => true
    | some k => o.pkg == w.pkg && o.core == k

/-- R276: whether a partition move has stopped a partition and not yet resumed it. -/
def Pkg.moves (p : Pkg) (part : Nat) : Bool := p.move.any (fun m => m.parts.contains part && !m.host && m.pages.isNone)

/-- R274, R276: whether a physical address is served by a partition: its part of the tensor range, or, of control space, a
home slice of its own (R141). -/
def SetRow.serves (r : SetRow) (sp : Space) (pa : Nat) : Bool :=
  match sp with
  | .ten => decide (r.base.toNat * 2 ^ 30 ≤ pa % 2 ^ 40) && decide (pa % 2 ^ 40 < (r.base.toNat + r.size.toNat) * 2 ^ 30)
  | .ctl => r.slc.getLsbD (Config.homeSlice (pa / 128) % 64)

/-- R290, R292: whether a package has no route to another. -/
def State.cutOff (s : State) (pkg n : Nat) : Bool :=
  match s.pkg? pkg with
  | some p => p.unreach.any (fun x => x.1 == n)
  | none => false

/-- R276, R290: what a request to another package waits for: a route, and the end of a move that stops the partition it
goes to. -/
def State.ingress (s : State) (pkg : Nat) (sp : Space) (pa : Nat) : Option Stall :=
  let n := s.homeAt sp pa
  if n = pkg then none
  else if s.cutOff pkg n then some (.route n)
  else
    match s.pkg? n with
    | none => none
    | some p =>
      if p.move.isNone then none
      else ((List.range 64).find? (fun i => p.moves i && (p.setRow i).serves sp pa)).map (fun i => .ingress n i)

/-- R162, R276: what holds an access to a physical address. -/
def State.paHeld (s : State) (w : Who) (k : Kind) (sp : Space) (pa : Nat) : Option Stall :=
  match s.ingress w.pkg sp pa with
  | some st => some st
  | none => if k.write then (s.snapOf sp pa).map Stall.snap else none

/-- R22, R133 to R137, R162, R185, R189, R192, R276, R292, R293: the checks at the physical address of a MAPPED leaf. A control
core's own accesses do not reach a remote tensor range (R22). -/
def State.checkPa (s : State) (w : Who) (k : Kind) (va : DW) (e : DW) (size : PgSize) : Checked :=
  let lvl := toDW (sizeLevel size)
  let sp := vaSpace va
  let pa := leafPa e + vaBits va % 2 ^ size.log2
  if k.write && !leafW e then .bad Cause.access lvl
  else if k.fetch && !leafX e then .bad Cause.access lvl
  else if sp = .ten then
    if !s.tenPaOk pa then .bad Cause.access lvl
    else if pa / 2 ^ 40 != w.pkg && (!k.remote || (w.cc && w.core.isSome)) then .bad Cause.remoteTensor 0
    else if s.lost.contains (pa / 2 ^ 40) then .bad Cause.peerLost 0
    else
      match s.paHeld w k .ten pa with
      | some st => .wait st
      | none => .ok (.ten pa)
  else if !s.ctlPaOk pa then .bad Cause.access lvl
  else
    match s.transitionOf pa with
    | some t => .wait (.coh t)
    | none =>
      if s.promoting.contains (pa / 2 ^ 33) then .wait (.lost (pa / 2 ^ 33))
      else if leafCoh e = 0 && !s.privateOk w pa then .bad Cause.access 0
      else if (leafCoh e == 2 || leafCoh e == 0) && s.isolated w (pa / 128) k.write then
        .bad Cause.cohIsolation 0
      else
        match s.paHeld w k .ctl pa with
        | some st => .wait st
        | none => .ok (.ctl pa (leafCoh e))

/-- R132, R133: an access to a translated class. -/
def State.checkMapped (s : State) (w : Who) (k : Kind) (va : DW) : Checked :=
  match s.lookup w va with
  | .bad c l => .bad c (toDW l)
  | .invalid l _ => .service l
  | .lost p => .wait (.lost p)
  | .leaf e size _ =>
    if leafSt e = 2 then
      match s.transitFind w.pkg (leafTidx e) with
      | some t => .wait (.transit t.idx)
      | none => .bad Cause.access (toDW (sizeLevel size))
    else s.checkPa w k va e size

/-- R59, R135: the crew and offset that a cluster-local address names for a crew of this gang. A group reaches no scratchpad of a
crew that has ended. -/
def State.padTarget (s : State) (w : Who) (va : DW) (n : Nat) : Option Target :=
  let off := (va.extractLsb' 0 19).toNat
  if va.getLsbD 61 then
    if va.extractLsb' 19 39 != 0 then none
    else
      match s.crews.find? (fun c => c.gang == w.gang && c.idx == (va.extractLsb' 58 3).toNat && c.pkg == w.pkg) with
      | some c => if off + n ≤ c.size && !(w.core.isSome && c.allEnded) then some (.pad c.id off true) else none
      | none => none
  else if va.extractLsb' 19 42 != 0 then none
  else
    match s.crew? w.crew with
    | some c => if off + n ≤ c.size then some (.pad c.id off false) else none
    | none => none

/-- R316 step 5, R132 to R137: the checks of one access of `n` bytes: alignment, class, reach, translation. -/
def State.checkAddr (s : State) (w : Who) (k : Kind) (va : DW) (n : Nat) : Checked :=
  if va.toNat % n ≠ 0 then .bad Cause.misaligned 0
  else
    match (va.extractLsb' 62 2).toNat with
    | 0 => if va.extractLsb' 48 14 != 0 then .bad Cause.access 0 else s.checkMapped w k va
    | 1 => if va.extractLsb' 56 6 != 0 then .bad Cause.access 0 else s.checkMapped w k va
    | 2 =>
      if w.cc then .bad Cause.access 0
      else
        match s.padTarget w va n with
        | some t => .ok t
        | none => .bad Cause.access 0
    | _ =>
      if !w.supervisor then .bad Cause.privileged 0
      else if va.extractLsb' 26 36 != 0 then .bad Cause.access 0
      else .ok (.mmio (va.extractLsb' 0 26).toNat)

/-! ### Page-fault requests (R266, R267, R287) -/

/-- R286, R287: a request raised in host-assisted mode; a later change of HATMO does not reach it. -/
def State.raiseHa (s : State) (pkg func vf : Nat) (addr data : DW) (ref_ : Nat) : State :=
  s.modPkg pkg (fun p => { p with haReqs := p.haReqs ++
    [{ func := func, vf := vf, addr := addr, data := data, raisedAt := s.aclk, posted := none, ref_ := ref_,
       tmo := 1300 * p.mp.hatmo.toNat }] })

/-- R287, R288: the VF byte of an event. -/
def haVf (v : Nat) : Nat := if v < 128 then v else 0xFF

/-- R266, R267: the open request for an address of an address space; one service serves a page. -/
def Pkg.faultFor (p : Pkg) (asid : Nat) (va : DW) (failed : Bool) : Option FaultReq :=
  p.faults.find? (fun f => f.asid == asid && f.va >>> 16 == va >>> 16 && f.failed == failed)

/-- R266: 4,096 requests that the MP holds. -/
def faultRoom : Nat := 4096

/-- R266: what an access that found an INVALID entry waits for, raising a request where there is none. -/
def State.faultWait (s0 : State) (w : Who) (va : DW) (sub level : Nat) : Stall × State :=
  let s := s0.walkSent w va
  match s.pkg? w.pkg with
  | none => (.room, s)
  | some p =>
    match p.faultFor w.asid va false with
    | some f => (.service f.id, s)
    | none =>
      if faultRoom ≤ (p.faults.filter (fun f => !f.failed)).length then (.room, s)
      else
        let (i, s1) := s.fresh
        let s2 := s1.modPkg w.pkg (fun p => { p with faults := p.faults ++
          [{ id := i, pkg := w.pkg, asid := w.asid, va := va, sub := sub, level := level, host := p.mp.pfs,
             failed := false }] })
        (.service i,
          if p.mp.pfs then
            s2.raiseHa w.pkg 0 (haVf w.vf) va (toDW (w.asid + 256 * sub + 2048 * level)) i
          else s2)

/-- R266: an access that waited for a service which declared its address unresolvable takes PAGE_FAULT. -/
def State.settleWait (s : State) (w : Who) (waiting : Option Stall) (va : DW) (c : Checked) : Checked :=
  match c, waiting with
  | .service l, some (.service r) =>
    match (s.pkg? w.pkg).bind (fun p => p.faults.find? (fun f => f.id == r)) with
    | some f => if f.failed && f.asid == w.asid && f.va >>> 16 == va >>> 16 then .bad Cause.pageFault (toDW l) else c
    | none => c
  | _, _ => c

/-! ### The word's accesses (R260, R412) -/

/-- One access of a lane with its outcome. -/
structure LaneAcc where
  lane : Nat
  va : DW
  res : Checked
deriving DecidableEq, Repr

def LaneAcc.isBad (x : LaneAcc) : Bool :=
  match x.res with
  | .bad _ _ => true
  | _ => false

def LaneAcc.isOk (x : LaneAcc) : Bool :=
  match x.res with
  | .ok _ => true
  | _ => false

/-- Whether the access fails with this cause. -/
def LaneAcc.failsWith (cause : Nat) (x : LaneAcc) : Bool :=
  match x.res with
  | .bad c _ => c == cause
  | _ => false

/-- R264: the trap of a failing access: PRIVILEGED reports the word, a memory cause writes a fault record. -/
def memTrap (c : Cursor) (sub cause lane : Nat) (lanes : W) (addr detail : DW) : Trap :=
  if cause = Cause.privileged then Trap.plain cause c.raw
  else { cause := cause, data := 0,
         frec := some { sub := sub, lane := lane, lanes := lanes, done := 0, addr := addr, detail := detail } }

/-- R260: the trap of a word some of whose accesses fail: the first cause of the lowest failing lane. -/
def lanesTrap (c : Cursor) (sub : Nat) (accs : List LaneAcc) : Option Trap :=
  match accs.find? LaneAcc.isBad with
  | some x =>
    match x.res with
    | .bad cause detail =>
      some (memTrap c sub cause x.lane (maskOf ((accs.filter (LaneAcc.failsWith cause)).map LaneAcc.lane)) x.va detail)
    | _ => none
  | none => none

/-- The word waits: its side stalls and will issue it again. -/
def State.waitFor (s : State) (w : Who) (c : Cursor) (sub : Nat) (x : LaneAcc) : State :=
  match x.res with
  | .service l =>
    let r := s.faultWait w x.va sub l
    r.2.stall c r.1
  | .wait st => s.stall c st
  | _ => s

/-- R289: what the walk of the first access that fails sends; a misaligned one makes none (R316). -/
def State.failSent (s : State) (w : Who) (accs : List LaneAcc) : State :=
  match accs.find? LaneAcc.isBad with
  | some x => if x.failsWith Cause.misaligned then s else s.walkSent w x.va
  | none => s

/-- R260: the accesses of a word: a failing lane traps, else a waiting lane stalls the side, else all are carried out. -/
def State.withAccs (s : State) (a : Agent) (sd : Side) (c : Cursor) (k : Kind) (accs : List LaneAcc)
    (go : State → List (Nat × DW × Target) → State) : State :=
  match lanesTrap c k.sub accs with
  | some t => (s.failSent (s.who a) accs).trap a sd c t
  | none =>
    match accs.find? (fun x => !x.isOk) with
    | some x => s.waitFor (s.who a) c k.sub x
    | none =>
      go (accs.foldl (fun s x => if x.va.getLsbD 63 then s else s.tlbFill (s.who a) x.va) s)
        (accs.filterMap (fun x =>
          match x.res with
          | .ok t => some (x.lane, x.va, t)
          | _ => none))

/-- R412: the check of one lane of the issuing side. -/
def State.laneAcc (s : State) (a : Agent) (sd : Side) (k : Kind) (n : Nat) (x : Nat × DW) : LaneAcc :=
  let w := s.who a
  { lane := x.1, va := x.2, res := s.settleWait w sd.stall x.2 (s.checkAddr w k x.2 n) }

end Sys2Proof.Machine
end

