-- ==== Sys2Proof/Machine/MpRegs.lean ====
section
/-!
DEFINITION. Sys2Proof/Machine/MpRegs.lean: what reads of the MP register space and of a VF's window return (R281, with
R115, R116, R191, R224, R247, R274, R279, R282, R284, R286 to R288, R296, R300, R489). Registers held as pending values
read as last written (DEDUCED, notes/assumptions/22.md).
-/
namespace Sys2Proof.Machine

/-- Fields of a register: values with the places of their lowest bits. -/
def regFields (l : List (Nat × Nat)) : W := BitVec.ofNat 32 (l.foldl (fun n x => n + x.1 * 2 ^ x.2) 0)

def boolBit (b : Bool) : Nat := if b then 1 else 0

/-- Four bytes of a table row, least significant first. -/
def rowWord (r : Vector Byte 64) (i : Nat) : W :=
  BitVec.ofNat 32 (leNat ((List.range 4).map (fun j => r[i + j]?.getD 0)))

/-- R114: an entry of a table bank. -/
def tblRow (t : Vector (Vector Byte 64) 64) (k : Nat) : Vector Byte 64 := t[k]?.getD (Vector.replicate 64 0)

/-- R116: the four registers of a VF. -/
def Vf.regRead (v : Vf) (i : Nat) : W :=
  match i with
  | 0 => regFields [(v.pend.l2ways.toNat, 0), (v.pend.linksh.toNat, 16), (v.pend.hbmsh.toNat, 24)]
  | 1 => regFields [(v.pend.part.toNat, 0), (boolBit v.pend.scopecap, 6), (v.pend.donee.toNat, 8),
                    (v.pend.bank.toNat, 16), (v.pend.qslots.toNat, 24)]
  | 2 => regFields [(boolBit v.demoted, 0), (boolBit v.cancelled, 1), (if v.overruns < 3 then v.overruns else 3, 8),
                    (v.demotes.toNat, 16)]
  | _ => regFields [(v.banked.toNat, 0)]

/-- R224, R247, R489: the table and replay registers of a VF. -/
def Vf.areaRead (v : Vf) (i : Nat) : W :=
  match i with
  | 0 => BitVec.ofNat 32 (v.lkBase.toNat % 2 ^ 32 / 2 ^ 16 * 2 ^ 16)
  | 1 => BitVec.ofNat 32 (v.lkBase.toNat / 2 ^ 32)
  | 2 => BitVec.ofNat 32 v.lkSize.toNat
  | 3 => BitVec.ofNat 32 (v.rpBase.toNat % 2 ^ 32 / 2 ^ 22 * 2 ^ 22)
  | 4 => BitVec.ofNat 32 (v.rpBase.toNat / 2 ^ 32)
  | 5 => regFields [(v.rpLost.toNat, 0), (boolBit v.rpFull, 16)]
  | 6 => BitVec.ofNat 32 v.armsh.toNat
  | _ => 0

/-- R274: the eight registers of a partition's row. -/
def SetRow.regRead (r : SetRow) (i : Nat) : W :=
  match i with
  | 0 => regFields [(boolBit r.en, 0)]
  | 1 => loW r.clu
  | 2 => hiW r.clu
  | 3 => loW r.slc
  | 4 => hiW r.slc
  | 5 => loW r.hbm
  | 6 => hiW r.hbm
  | _ => regFields [(r.base.toNat, 0), (r.size.toNat, 16)]

/-- R284, R285: a mailbox register at an offset of its window. -/
def Mbx.regRead (m : Mbx) (off : Nat) : W :=
  if 0x40 ≤ off ∧ off < 0x80 then
    BitVec.ofNat 32 (leNat ((List.range 4).map (fun j => m.cmd.getD (off - 0x40 + j) 0)))
  else if off = 0x80 then regFields [(boolBit m.go, 0)]
  else if off = 0x84 then regFields [(m.res.toNat, 0)]
  else if 0x88 ≤ off ∧ off < 0x98 then m.out[(off - 0x88) / 4]?.getD 0
  else 0

/-- R288: an event-ring register. -/
def HaRing.regRead (h : HaRing) (i : Nat) : W :=
  match i with
  | 0 => loW h.base
  | 1 => hiW h.base
  | 2 => BitVec.ofNat 32 h.log2n.toNat
  | 3 => h.head
  | _ => h.tail

/-- R282: the HSEM register without its read effect. -/
def Hsem.regRead (h : Hsem) : W := regFields [(boolBit (h.holder != 0), 0), (h.holder, 1)]

/-- R281: the value a read of the MP register space returns; `cc` names the control core that reads, if one does. -/
def Pkg.mpRead (p : Pkg) (port : Nat) (cc : Option Nat) (off : Nat) : W :=
  if off % 4 ≠ 0 then 0
  else if off = 0x00 then p.hsem.regRead
  else if off = 0x08 then BitVec.ofNat 32 p.hsem.tmo.toNat
  else if off = 0x0C then regFields [(boolBit p.hsem.broken0, 0), (boolBit p.hsem.broken1, 1)]
  else if 0x40 ≤ off ∧ off < 0x98 then p.pfMbx.regRead off
  else if off = 0x100 then
    regFields [(boolBit p.mp.pfs, 0), (boolBit p.mp.res, 1), (boolBit p.mp.ret, 2), (boolBit p.mp.coh, 3),
               (boolBit p.mp.plr, 4), (boolBit p.mp.pmv, 5), (p.mp.hatmo.toNat, 16)]
  else if off = 0x104 then regFields [(boolBit p.mp.fallback, 0)]
  else if 0x110 ≤ off ∧ off ≤ 0x120 then (p.ha[port]?.getD HaRing.reset).regRead ((off - 0x110) / 4)
  else if off = 0x200 then BitVec.ofNat 32 p.mp.watts.toNat
  else if off = 0x204 then BitVec.ofNat 32 p.mp.gated.toNat
  else if off = 0x300 then
    regFields [(p.mp.window.toNat, 0), (p.mp.pgthr.toNat, 16), (p.mp.bkthr.toNat, 20)]
  else if off = 0x304 then p.mp.errCe
  else if off = 0x308 then p.mp.errUe
  else if off = 0x30C then regFields [(p.mp.pages.toNat, 0), (p.mp.banks.toNat, 16)]
  else if off = 0x400 then BitVec.ofNat 32 p.mp.log2q.toNat
  else if off = 0x10000 then
    regFields [(boolBit p.slt.en, 0), (boolBit p.slt.swap, 1), (boolBit p.slt.active, 2)]
  else if off = 0x10004 then
    regFields [(boolBit p.slt.cfgerr, 0), (boolBit p.slt.swaperr, 1), (p.slt.slot.toNat, 8), (p.slt.errslot.toNat, 16),
               (p.slt.errpart.toNat, 22)]
  else if off = 0x10008 then BitVec.ofNat 32 p.slt.pSlotlen.toNat
  else if off = 0x1000C then BitVec.ofNat 32 p.slt.pLead.toNat
  else if off = 0x10010 then BitVec.ofNat 32 p.slt.pDmax.toNat
  else if 0x11000 ≤ off ∧ off < 0x11800 then (p.vf ((off - 0x11000) / 16)).regRead ((off - 0x11000) % 16 / 4)
  else if 0x20000 ≤ off ∧ off < 0x21000 then rowWord (tblRow p.slt.tbl0 ((off - 0x20000) / 64)) (off % 64)
  else if 0x21000 ≤ off ∧ off < 0x22000 then rowWord (tblRow p.slt.tbl1 ((off - 0x21000) / 64)) (off % 64)
  else if 0x30000 ≤ off ∧ off < 0x30800 then (p.setRow ((off - 0x30000) / 32)).regRead (off % 32 / 4)
  else if 0x40000 ≤ off ∧ off < 0x41000 then (p.vf ((off - 0x40000) / 32)).areaRead (off % 32 / 4)
  else if 0x50000 ≤ off ∧ off < 0x50100 then
    match cc with
    | none => 0
    | some _ =>
      match p.xeSub[(off - 0x50000) / 16]? with
      | some x => if off % 16 = 8 then x.stLo else if off % 16 = 12 then x.stHi else 0
      | none => 0
  else 0

/-- R281: the value a read of a VF's window returns. -/
def Pkg.vfWinRead (p : Pkg) (v off : Nat) : W :=
  let x := p.vf v
  if off % 4 ≠ 0 then 0
  else if off = 0x00 then x.regRead 2
  else if off = 0x04 then x.regRead 3
  else if off = 0x08 then x.areaRead 3
  else if off = 0x0C then x.areaRead 4
  else if off = 0x10 then x.areaRead 5
  else if off = 0x14 then x.areaRead 0
  else if off = 0x18 then x.areaRead 1
  else if off = 0x1C then x.areaRead 2
  else if off = 0x20 then x.areaRead 6
  else (p.vfMbx[v]?.getD Mbx.reset).regRead off

end Sys2Proof.Machine
end

