-- ==== Sys2Proof/Machine/MemPath.lean ====
section
/-!
DEFINITION. Sys2Proof/Machine/MemPath.lean: the bytes that an access reads and writes at its target: homes, L1 copies
(R140, R169, R186), scratchpad beads (R143), poison (R277) and the MP register space (R280, R281).
-/
namespace Sys2Proof.Machine

/-! ### Homes -/

/-- R277: the byte of 0x7FC00BAD that a poisoned granule gives at an address. -/
def poisonByte (a : Nat) : Byte :=
  match a % 4 with
  | 0 => 0xAD
  | 1 => 0x0B
  | 2 => 0xC0
  | _ => 0x7F

/-- R277: a byte at its home, as any agent reads it. -/
def State.homeByte (s : State) (sp : Space) (a : Nat) : Byte :=
  if rangesHas (s.poison sp) (a / 4) then poisonByte a else Memory.read (s.mem sp) a

/-- Bytes at their home. -/
def State.homeRead (s : State) (sp : Space) (pa n : Nat) : List Byte :=
  (List.range n).map (fun i => s.homeByte sp (pa + i))

/-- Bytes written at their home. -/
def State.homeWrite (s : State) (sp : Space) (pa : Nat) (bs : List Byte) : State :=
  (s.note sp.place pa bs.length).setMem sp (Memory.writeN (s.mem sp) pa bs)

/-! ### L1 copies -/

/-- The L1 copy that a core holds of a line. -/
def Pkg.l1Find (p : Pkg) (core : Nat) (sp : Space) (line : Nat) : Option L1Line :=
  p.l1.find? (fun x => x.core == core && decide (x.space = sp) && x.line == line)

/-- R277: the bytes that a copy gives from an offset on. -/
def L1Line.read (x : L1Line) (off n : Nat) : List Byte :=
  (List.range n).map (fun i => if x.poison then poisonByte (off + i) else x.bytes.getD (off + i) 0)

/-- R186, R194, R289: the dirty bytes of an L1 copy of a package written home, with the copy's poison; a line all of which is dirty
overwrites its home and clears the poison there (R277). -/
def State.l1Flush (s : State) (pkg : Nat) (x : L1Line) : State :=
  let s := if x.dirty = 0 then s
    else (s.carry 4 .data pkg (s.homeAt x.space (128 * x.line)) (128 * x.line) x.bytes).mirroredAt x.space pkg (128 * x.line) x.bytes
  let s1 := (List.range 128).foldl (fun s i =>
    if x.dirty.getLsbD i then s.homeWrite x.space (128 * x.line + i) [x.bytes.getD i 0] else s) s
  if x.poison && x.dirty != 0 then s1.poisonLine x.space x.line
  else if x.dirty = BitVec.allOnes 128 && !(s1.poison x.space).isEmpty then
    s1.setPoison x.space (rangesDrop (32 * x.line) (32 * x.line + 32) (s1.poison x.space))
  else s1

/-- R186: the dirty bytes of some copies of control lines written home; the copies stay, clean. -/
def State.l1Clean (s : State) (p : Nat → L1Line → Bool) : State :=
  let each (s : State) (k : Pkg) : State :=
    (k.l1.filter (fun x => x.dirty != 0 && decide (x.space = .ctl) && p k.num x)).foldl (fun s x => s.l1Flush k.num x) s
  if s.pkgs.any (fun k => k.l1.any (fun x => x.dirty != 0 && p k.num x)) then
    (s.pkgs.foldl each s) |> fun s1 =>
      { s1 with pkgs := s1.pkgs.map (fun k => { k with l1 := k.l1.map (fun x => if p k.num x then { x with dirty := 0 } else x) }) }
  else s

/-- R162, R186: the dirty bytes of some SOFT copies go home; a store to a page that a SNAP copy protects waits for that copy. -/
def State.cleanWhere (s : State) (p : Nat → L1Line → Bool) : Option Stall × State :=
  match s.pkgs.findSome? (fun k => k.l1.findSome? (fun x =>
      if x.dirty != 0 && p k.num x then s.snapOf x.space (128 * x.line) else none)) with
  | some c => (some (.snap c), s)
  | none => (none, s.l1Clean p)

/-- R179: the release at package scope that issuing an engine command is: what the issuing core has stored in SOFT lines
goes home (DESIGN CHOICE, notes/assumptions/74.md). -/
def State.release (s : State) (pkg core : Nat) : Option Stall × State :=
  s.cleanWhere (fun k x => k == pkg && x.core == core)

/-- A core's copy of a line changed. -/
def State.l1Map (s : State) (pkg core : Nat) (sp : Space) (line : Nat) (f : L1Line → L1Line) : State :=
  let g (x : L1Line) : L1Line := if x.core == core && decide (x.space = sp) && x.line == line then f x else x
  s.modPkg pkg (fun p => { p with l1 := p.l1.map g })

/-- A core's copy of a line removed, its dirty bytes not written. -/
def State.l1Remove (s : State) (pkg core : Nat) (sp : Space) (line : Nat) : State :=
  let other (x : L1Line) : Bool := !(x.core == core && decide (x.space = sp) && x.line == line)
  s.modPkg pkg (fun p => { p with l1 := p.l1.filter other })

/-- R186: a core's copy of a line leaves its L1, its dirty bytes written home first. -/
def State.l1Evict (s : State) (pkg core : Nat) (sp : Space) (line : Nat) : State :=
  match (s.pkg? pkg).bind (fun p => p.l1Find core sp line) with
  | some x => (s.l1Flush pkg x).l1Remove pkg core sp line
  | none => s

/-- R138: the lines that a core's L1 holds; without a split, as in a control core, the whole 512 KiB (DESIGN CHOICE,
notes/assumptions/11.md). -/
def Pkg.l1Lines (p : Pkg) (core vf : Nat) : Nat :=
  match p.split.find? (fun x => x.core == core && x.vf == vf) with
  | some x => (524288 - x.size) / 128
  | none => 4096

/-- R140: the copy that leaves a core's L1 next: the oldest (DESIGN CHOICE, notes/assumptions/11.md) whose dirty bytes
no SNAP copy keeps from their home (R162). -/
def State.l1Victim (s : State) (pkg core : Nat) : Option L1Line :=
  (s.pkg? pkg).bind (fun p =>
    (p.l1.filter (fun x => x.core == core && (x.dirty == 0 || (s.snapOf x.space (128 * x.line)).isNone))).getLast?)

/-- The copies that a core's L1 holds. -/
def State.l1Count (s : State) (pkg core : Nat) : Nat :=
  match s.pkg? pkg with
  | some p => (p.l1.filter (fun x => x.core == core)).length
  | none => 0

/-- R138: copies leave a core's L1 until at most `n` are left. -/
def State.l1Shrink (s : State) (pkg core n : Nat) : Nat → State
  | 0 => s
  | k + 1 =>
    if s.l1Count pkg core ≤ n then s
    else
      match s.l1Victim pkg core with
      | some x => (s.l1Evict pkg core x.space x.line).l1Shrink pkg core n k
      | none => s

/-- R140: a line's bytes copied into an L1, for which the oldest copies beyond its size leave. -/
def State.l1Fill (s : State) (pkg vf core : Nat) (sp : Space) (line : Nat) : State :=
  match s.pkg? pkg with
  | none => s
  | some p =>
    let n := p.l1Lines core vf
    let s1 := s.l1Shrink pkg core (n - 1) (s.l1Count pkg core)
    if n ≤ s1.l1Count pkg core then s1
    else
      s1.modPkg pkg (fun p => { p with l1 :=
        { core := core, space := sp, line := line, bytes := Memory.readN (s1.mem sp) (128 * line) 128, dirty := 0,
          vf := vf, poison := false } :: p.l1 })

/-- A read through a core's L1; `keep` says that the line may be allocated there. A poisoned line is not. -/
def State.l1Read (s : State) (w : Who) (core : Nat) (sp : Space) (pa n : Nat) (keep : Bool) : List Byte × State :=
  match (s.pkg? w.pkg).bind (fun p => p.l1Find core sp (pa / 128)) with
  | some x => (x.read (pa % 128) n, s)
  | none =>
    (s.homeRead sp pa n,
      if keep && !s.isPoisoned sp (pa / 128 * 128) 128 then s.l1Fill w.pkg w.vf core sp (pa / 128) else s)

/-- The bytes of a copy replaced from an offset on. -/
def L1Line.put (x : L1Line) (off : Nat) (bs : List Byte) (dirty : Bool) : L1Line :=
  { x with
    bytes := x.bytes.take off ++ bs ++ x.bytes.drop (off + bs.length)
    dirty := if dirty then x.dirty ||| (BitVec.ofNat 128 ((2 ^ bs.length - 1) * 2 ^ off)) else x.dirty }

/-- R186: a store to a SOFT line stays in the core's copy; without a copy and without allocation it goes home. -/
def State.l1Write (s : State) (w : Who) (core : Nat) (sp : Space) (pa : Nat) (bs : List Byte) (keep : Bool) : State :=
  let s1 :=
    if keep && ((s.pkg? w.pkg).bind (fun p => p.l1Find core sp (pa / 128))).isNone &&
        !s.isPoisoned sp (pa / 128 * 128) 128 then s.l1Fill w.pkg w.vf core sp (pa / 128)
    else s
  match (s1.pkg? w.pkg).bind (fun p => p.l1Find core sp (pa / 128)) with
  | some _ =>
    (s1.note sp.place pa bs.length).l1Map w.pkg core sp (pa / 128) (fun x => x.put (pa % 128) bs true)
  | none => s1.homeWrite sp pa bs

/-! ### Scratchpads (R139, R143) -/

/-- The beads that `n` bytes from an offset touch. -/
def beadsOf (off n : Nat) : List Nat := rangeIncl (off / 16) ((off + n - 1) / 16)

/-- R277: the 4-byte granules that `n` bytes from an offset touch. -/
def granulesOf (off n : Nat) : List Nat := rangeIncl (off / 4) ((off + n - 1) / 4)

/-- R277: a scratchpad byte as any agent reads it. -/
def Crew.byte (c : Crew) (off : Nat) : Byte :=
  if c.poison.contains (off / 4) then poisonByte off else Memory.read c.pad off

def Crew.bytes (c : Crew) (off n : Nat) : List Byte := (List.range n).map (fun i => c.byte (off + i))

/-- Beads set full. -/
def Crew.fill (c : Crew) (bs : List Nat) : Crew := { c with full := bs.foldl (fun f b => setInsert b f) c.full }

/-- R277: the beads that a range touches poisoned. -/
def Crew.poisonBeads (c : Crew) (off n : Nat) : Crew :=
  { c with poison := (beadsOf off n).foldl (fun l b => (granulesOf (16 * b) 16).foldl (fun l g => setInsert g l) l) c.poison }

/-- Beads set empty. -/
def Crew.drain (c : Crew) (bs : List Nat) : Crew := { c with full := c.full.filter (fun b => !(bs.contains b)) }

/-- R143: bytes written with the beads they touch set full. -/
def Crew.store (c : Crew) (off : Nat) (bs : List Byte) : Crew :=
  ({ c with pad := Memory.writeN c.pad off bs }).fill (beadsOf off bs.length)

/-- R143: bytes stored in a crew's scratchpad. -/
def State.padStore (s : State) (k off : Nat) (bs : List Byte) : State :=
  (s.note (.pad k) off bs.length).modCrew k (fun c => c.store off bs)

/-! ### Targets -/

/-- Where a target's bytes stand, and from which number on. -/
def Target.stands (t : Target) : Option (Place × Nat) :=
  match t with
  | .ctl pa _ => some (.ctl, pa)
  | .ten pa => some (.ten, pa)
  | .pad k off _ => some (.pad k, off)
  | .mmio _ => none

/-- R281: the bytes a control core's load of the MP space returns; only 4-byte accesses reach a register. -/
def State.mmioRead (s : State) (w : Who) (off n : Nat) : List Byte :=
  if n = 4 then
    match s.pkg? w.pkg with
    | some p => toLE 4 (p.mpRead 0 (some 0) off).toNat
    | none => toLE 4 0
  else toLE n 0

/-- R281, R296: a control core's store to the MP space. The XE_SUB registers take it at once; a write of XE_SUB_HI, and a
write of any other register, is the next event (DESIGN CHOICE, notes/assumptions/23.md). -/
def State.mmioWrite (s : State) (w : Who) (off : Nat) (bs : List Byte) : State :=
  if bs.length ≠ 4 then s
  else
    let v : W := BitVec.ofNat 32 (leNat bs)
    if 0x50000 ≤ off ∧ off < 0x50100 then
      let k := (off - 0x50000) / 16
      let set (f : XeSub → XeSub) : State := s.modPkg w.pkg (fun p =>
        { p with xeSub := p.xeSub.setIfInBounds k (f (p.xeSub[k]?.getD { subLo := 0, stLo := 0, stHi := 0 })) })
      if off % 16 = 0 then set (fun x => { x with subLo := v })
      else if off % 16 = 4 then { s with agenda := .submit w.pkg k v :: s.agenda }
      else if off % 16 = 8 then set (fun x => { x with stLo := v &&& 0xFFFFFFFC })
      else if off % 16 = 12 then set (fun x => { x with stHi := v })
      else s
    else { s with agenda := .mmio w.pkg off v :: s.agenda }

/-- R277: whether a target's bytes are poisoned. -/
def State.targetPoisoned (s : State) (t : Target) (n : Nat) : Bool :=
  match t with
  | .ctl pa _ => s.isPoisoned .ctl pa n
  | .ten pa => s.isPoisoned .ten pa n
  | .pad k off _ =>
    match s.crew? k with
    | some c => (granulesOf off n).any (fun g => c.poison.contains g)
    | none => false
  | .mmio _ => false

/-- R185: whether a core's clean copy of a HARD or PRIVATE line is poisoned. -/
def State.copyPoisoned (s : State) (pkg core line : Nat) : Bool :=
  match s.pkg? pkg with
  | some p => p.hard.any (fun c => c.core == core && c.line == line && c.poison)
  | none => false

/-- R277: whether the bytes that an agent's load finds at a target are poisoned: those of its core's copy where it has
one. -/
def State.readPoisoned (s : State) (w : Who) (t : Target) (n : Nat) : Bool :=
  let copy (k : Nat) (sp : Space) (pa : Nat) : Bool :=
    match (s.pkg? w.pkg).bind (fun p => p.l1Find k sp (pa / 128)) with
    | some x => x.poison
    | none => s.targetPoisoned t n
  match w.core, t with
  | some k, .ctl pa coh =>
    if coh = 1 then copy k .ctl pa else s.targetPoisoned t n || s.copyPoisoned w.pkg k (pa / 128)
  | some k, .ten pa => if pa / 2 ^ 40 = w.pkg then copy k .ten pa else s.targetPoisoned t n
  | _, _ => s.targetPoisoned t n

/-- R185, R277: the bytes of a HARD or PRIVATE line as a core reads them. -/
def State.hardBytes (s : State) (w : Who) (core pa n : Nat) : List Byte :=
  if s.copyPoisoned w.pkg core (pa / 128) then (List.range n).map (fun i => poisonByte (pa + i)) else s.homeRead .ctl pa n

/-- R185, R277: a store of a core to a HARD or PRIVATE line: the copy it leaves holds the poison of the one before. -/
def State.hardWrite (s : State) (w : Who) (core pa : Nat) (bs : List Byte) (keep : Bool) : State :=
  let s1 := (s.homeWrite .ctl pa bs).hardTouch w (pa / 128) true keep
  if s.copyPoisoned w.pkg core (pa / 128) then s1.poisonLine .ctl (pa / 128) else s1

/-- R185, R186: whether a copy in the issuing core answers an access to control space: for a write, one that it need not share. -/
def State.copyHit (s : State) (w : Who) (t : Target) (write : Bool) : Bool :=
  match w.core, t, s.pkg? w.pkg with
  | some k, .ctl pa coh, some p =>
    if coh = 1 then (p.l1Find k .ctl (pa / 128)).isSome
    else decide (coh ≠ 3) && s.hardHit w (pa / 128) write
  | _, _, _ => false

/-- R289: what an access to another package sends there, and what comes back. -/
def State.sendAccess (s : State) (w : Who) (t : Target) (sent got : List Byte) : State :=
  match t with
  | .ctl pa _ => s.exchange .ctl w.pkg pa sent got
  | .ten pa => s.exchange .ten w.pkg pa sent got
  | _ => s

/-- R175, R289: what an atomic on `n` bytes sends to another package, and what comes back. -/
def State.sendAtomic (s : State) (w : Who) (t : Target) (n : Nat) (sent got : List Byte) : State :=
  match t with
  | .ctl pa _ => s.atomicTo .ctl w.pkg pa n sent got
  | .ten pa => s.atomicTo .ten w.pkg pa n sent got
  | _ => s

/-- The bytes that an access reads at its target, with the copies it leaves. -/
def State.lookT (s : State) (w : Who) (t : Target) (n : Nat) (keep : Bool) : List Byte × State :=
  match t with
  | .ctl pa coh =>
    match w.core with
    | some k =>
      if coh = 1 then s.l1Read w k .ctl pa n keep
      else if coh = 3 then (s.homeRead .ctl pa n, s)
      else (s.hardBytes w k pa n, s.hardTouch w (pa / 128) false keep)
    | none => (s.homeRead .ctl pa n, if coh = 0 ∨ coh = 2 then s.hardTouch w (pa / 128) false false else s)
  | .ten pa =>
    match w.core with
    | some k => if pa / 2 ^ 40 = w.pkg then s.l1Read w k .ten pa n keep else (s.homeRead .ten pa n, s)
    | none => (s.homeRead .ten pa n, s)
  | .pad k off _ =>
    match s.crew? k with
    | some c => (c.bytes off n, s)
    | none => ([], s)
  | .mmio off => (s.mmioRead w off n, s)

/-- R71: what an access finds at its target where entries of divergence stacks stand there: the entries' bytes. -/
def State.overEntries (s : State) (t : Target) (bs : List Byte) : List Byte :=
  match t with
  | .ctl pa _ => bs.mapIdx (fun i b => (s.agents.findSome? (fun a => a.entryByte (pa + i))).getD b)
  | _ => bs

/-- R71: an access that reaches a group's divergence-stack area makes the group's later behaviour unpredictable. -/
def State.stray (s : State) (t : Target) (n : Nat) : State :=
  match t with
  | .ctl pa _ =>
    { s with strayed := s.strayed ++
        (s.agents.filter (fun a => a.areaMeets pa n && !s.strayed.contains a.id)).map (fun a => a.id) }
  | _ => s

/-- The bytes that an access reads at its target, with the copies and the flits it leaves. -/
def State.readT (s : State) (w : Who) (t : Target) (n : Nat) (keep : Bool) : List Byte × State :=
  let r := s.lookT w t n keep
  (s.overEntries t r.1, (if s.copyHit w t false then r.2 else r.2.sendAccess w t [] r.1).stray t n)

/-- The effect of a store's bytes at its target. -/
def State.putT (s : State) (w : Who) (t : Target) (bs : List Byte) (keep : Bool) : State :=
  match t with
  | .ctl pa coh =>
    match w.core with
    | some k =>
      if coh = 1 then s.l1Write w k .ctl pa bs keep
      else if coh = 3 then s.homeWrite .ctl pa bs
      else s.hardWrite w k pa bs keep
    | none =>
      if coh = 0 ∨ coh = 2 then (s.homeWrite .ctl pa bs).hardTouch w (pa / 128) true false else s.homeWrite .ctl pa bs
  | .ten pa =>
    let s1 := s.homeWrite .ten pa bs
    match w.core with
    | some k => s1.l1Map w.pkg k .ten (pa / 128) (fun x => x.put (pa % 128) bs false)
    | none => s1
  | .pad k off _ => s.padStore k off bs
  | .mmio off => s.mmioWrite w off bs

/-- The effect of a store's bytes at its target, with the flits that it takes. -/
def State.writeT (s : State) (w : Who) (t : Target) (bs : List Byte) (keep : Bool) : State :=
  let s1 := s.putT w t bs keep
  (if s.copyHit w t true then s1 else s1.sendAccess w t bs []).stray t bs.length

/-- R175, R186, R336: an atomic is performed at the home, which the core asks for it whatever it holds: the core's own copy of
the line leaves first, its dirty bytes written back; a clean copy leaves nothing there, and no poison of its own. -/
def State.toHome (s : State) (w : Who) (t : Target) : State :=
  match w.core, t with
  | some k, .ctl pa coh =>
    if coh = 1 then s.l1Evict w.pkg k .ctl (pa / 128)
    else if coh = 3 then s
    else ((s.dirNote w (pa / 128)).hardDrop w.pkg (fun c => c.core == k && c.line == pa / 128)).hardTouch w (pa / 128) true false
  | some k, .ten pa => s.l1Remove w.pkg k .ten (pa / 128)
  | _, _ => s

/-- The bytes of a target at its home. -/
def State.homeReadT (s : State) (t : Target) (n : Nat) : List Byte :=
  match t with
  | .ctl pa _ => s.homeRead .ctl pa n
  | .ten pa => s.homeRead .ten pa n
  | .pad k off _ =>
    match s.crew? k with
    | some c => c.bytes off n
    | none => []
  | .mmio _ => toLE n 0

/-- R71: the bytes of a target at its home as a program's access finds them. -/
def State.homeGet (s : State) (t : Target) (n : Nat) : List Byte := s.overEntries t (s.homeReadT t n)

/-- Bytes written at the home of a target. -/
def State.homeWriteT (s : State) (t : Target) (bs : List Byte) : State :=
  match t with
  | .ctl pa _ => s.homeWrite .ctl pa bs
  | .ten pa => s.homeWrite .ten pa bs
  | .pad k off _ => s.padStore k off bs
  | .mmio _ => s

/-- R277: writes that together cover a whole poisoned unit clear its poison. -/
def State.clearPoison (s : State) (ts : List (Target × Nat)) : State :=
  let covers (f : Target → Option Nat) (base n : Nat) : Bool :=
    (List.range n).all (fun i => ts.any (fun x =>
      match f x.1 with
      | some a => decide (a ≤ base + i) && decide (base + i < a + x.2)
      | none => false))
  let ctlAt (t : Target) : Option Nat :=
    match t with
    | .ctl pa _ => some pa
    | _ => none
  let tenAt (t : Target) : Option Nat :=
    match t with
    | .ten pa => some pa
    | _ => none
  let padAt (k : Nat) (t : Target) : Option Nat :=
    match t with
    | .pad j off _ => if j = k then some off else none
    | _ => none
  let lines (f : Target → Option Nat) : List Nat :=
    (ts.flatMap (fun x =>
      match f x.1 with
      | some a => rangeIncl (a / 128) ((a + x.2 - 1) / 128)
      | none => [])).filter (fun k => covers f (128 * k) 128)
  let without (f : Target → Option Nat) (l : List (Nat × Nat)) : List (Nat × Nat) :=
    if l.isEmpty then l else (lines f).foldl (fun l k => rangesDrop (32 * k) (32 * k + 32) l) l
  let s1 := if s.ctlPoison.isEmpty then s else { s with ctlPoison := without ctlAt s.ctlPoison }
  let s2 := if s1.tenPoison.isEmpty then s1 else { s1 with tenPoison := without tenAt s1.tenPoison }
  if s2.crews.all (fun c => c.poison.isEmpty) then s2
  else { s2 with crews := s2.crews.map (fun c =>
    { c with poison := c.poison.filter (fun g => !(covers (padAt c.id) (16 * (g / 4)) 16)) }) }

/-- R277: stores that together cover a whole poisoned L1 copy of the storing core clear its poison. -/
def State.clearCopyPoison (s : State) (w : Who) (ts : List (Target × Nat)) : State :=
  let covered (x : L1Line) : Bool :=
    (List.range 128).all (fun i => ts.any (fun y =>
      let at_ (pa : Nat) : Bool := decide (pa ≤ 128 * x.line + i) && decide (128 * x.line + i < pa + y.2)
      match y.1 with
      | .ctl pa _ => decide (x.space = .ctl) && at_ pa
      | .ten pa => decide (x.space = .ten) && at_ pa
      | _ => false))
  match w.core with
  | none => s
  | some k =>
    if s.pkgs.any (fun p => p.l1.any (fun x => x.poison)) then
      s.modPkg w.pkg (fun p => { p with l1 := p.l1.map (fun x =>
        if x.poison && x.core == k && covered x then { x with poison := false } else x) })
    else s

/-- R336: an EXCH that overwrites all four bytes of a poisoned location clears that location's poison. -/
def State.clearGranule (s : State) (t : Target) : State :=
  match t with
  | .ctl pa _ =>
    if s.ctlPoison.isEmpty then s else { s with ctlPoison := rangesDrop (pa / 4) (pa / 4 + 1) s.ctlPoison }
  | .ten pa =>
    if s.tenPoison.isEmpty then s else { s with tenPoison := rangesDrop (pa / 4) (pa / 4 + 1) s.tenPoison }
  | .pad k off _ => s.modCrew k (fun c => { c with poison := c.poison.filter (fun g => g != off / 4) })
  | .mmio _ => s

end Sys2Proof.Machine
end

