-- ==== Sys2Proof/Machine/Locket.lean ====
section
/-!
DEFINITION. Sys2Proof/Machine/Locket.lean: Locket records (R247, R248), merges (R249, R250), the views of R257, the words
LKREAD, LKBIND and LKRST (R253, R415 to R417) and automatic rescale (R258).
-/
namespace Sys2Proof.Machine

/-! ### Records -/

/-- R248: a record. -/
structure LkRec where
  amax : W
  count : W
  scale : Byte
  pol : Byte
  flags : Byte
  margin : Byte
  gen : W
  hist : List Nat
deriving DecidableEq, Repr

/-- R248: the record that 64 bytes hold. -/
def LkRec.ofBytes (b : List Byte) : LkRec :=
  let w (o : Nat) : W := BitVec.ofNat 32 (leNat ((b.drop o).take 4))
  { amax := w 0, count := w 4, scale := b.getD 8 0, pol := b.getD 9 0, flags := b.getD 10 0, margin := b.getD 11 0,
    gen := w 12, hist := (List.range 24).map (fun k => leNat ((b.drop (16 + 2 * k)).take 2)) }

/-- R248: the 64 bytes of a record. -/
def LkRec.toBytes (r : LkRec) : List Byte :=
  toLE 4 r.amax.toNat ++ toLE 4 r.count.toNat ++ [r.scale, r.pol, r.flags, r.margin] ++ toLE 4 r.gen.toNat ++
  r.hist.flatMap (toLE 2)

/-- R248 [0] to [4] of FLAGS. -/
def lkNan : Byte := 1
def lkInf : Byte := 2
def lkRpend : Byte := 4
def lkCsat : Byte := 8
def lkHsat : Byte := 16

/-- R250: the histogram bin of a finite magnitude. -/
def lkBin (scale : Byte) (v : FVal) : Nat :=
  match v with
  | .fin _ m e =>
    if m = 0 then 0
    else
      let k := log2Of m e - ((scale.toNat : Int) - 127) + 20
      if k < 0 then 0 else if 23 < k then 23 else k.toNat
  | _ => 0

/-- R250: one element merged. -/
def LkRec.add (r : LkRec) (v : FVal) : LkRec :=
  let r1 : LkRec :=
    if r.count = 0xFFFFFFFF then { r with flags := r.flags ||| lkCsat } else { r with count := r.count + 1 }
  match v with
  | .nan _ => { r1 with flags := r1.flags ||| lkNan }
  | .inf _ => { r1 with flags := r1.flags ||| lkInf }
  | .fin _ _ _ =>
    let a : W := BitVec.ofNat 32 (roundArith .fp32 .rup false v.abs).bits
    let k := lkBin r1.scale v
    let h := r1.hist.getD k 0
    { r1 with
      amax := if r1.amax.toNat < a.toNat then a else r1.amax
      hist := if h < 65535 then r1.hist.set k (h + 1) else r1.hist
      flags := if h < 65535 then r1.flags else r1.flags ||| lkHsat }

/-- R250: a merge of elements of a format. -/
def LkRec.merge (r : LkRec) (f : Fmt) (vals : List DW) : LkRec :=
  vals.foldl (fun r v => r.add (Fmt.value f v.toNat)) r

/-- R253: what LKBIND and LKRST clear. -/
def LkRec.reset (r : LkRec) : LkRec :=
  { r with amax := 0, count := 0, flags := 0, hist := List.replicate 24 0, gen := r.gen + 1 }

/-! ### The table (R247) -/

/-- R247: the tensor physical address of a record of a VF's table on a package. -/
def State.lkAddr (s : State) (pkg vf idx : Nat) : Nat := (s.vf pkg vf).lkBase.toNat + 64 * idx

/-- R247: the records of a VF's table on a package. -/
def State.lkNrec (s : State) (pkg vf : Nat) : Nat := (s.vf pkg vf).lkSize.toNat

/-- A record read at its home. -/
def State.lkRead (s : State) (pkg vf idx : Nat) : List Byte := s.homeRead .ten (s.lkAddr pkg vf idx) 64

/-- A record changed at its home in one act. -/
def State.lkUpdate (s : State) (pkg vf idx : Nat) (f : LkRec → LkRec) : State :=
  s.homeWrite .ten (s.lkAddr pkg vf idx) (f (LkRec.ofBytes (s.lkRead pkg vf idx))).toBytes

/-- R250: a merge performed at the home of a record, also of a poisoned one, of which nothing is then reported (DESIGN CHOICE,
notes/assumptions/107.md). -/
def State.lkMerge (s : State) (pkg vf idx : Nat) (f : Fmt) (vals : List DW) : State :=
  if vals.isEmpty then s else s.lkUpdate pkg vf idx (fun r => r.merge f vals)

/-! ### Cached views (R257) -/

/-- R257: the time for which a cached copy may be used. -/
def lkCacheTime : Nat := 4096

/-- R257: the record as QNT of a group sees it, with the copy it leaves on the core. -/
def State.lkView (s : State) (a : Agent) (idx : Nat) : List Byte × State :=
  let mine (c : LkCopy) : Bool := c.core == a.core && c.vf == a.vf && c.idx == idx
  match (s.pkg? a.pkg).bind (fun p => p.lk.find? (fun c =>
      mine c && decide (s.aclk ≤ c.since + lkCacheTime) && !c.stale.contains a.id)) with
  | some c => (c.bytes, s)
  | none =>
    let b := s.lkRead a.pkg a.vf idx
    let copy : LkCopy := { core := a.core, vf := a.vf, idx := idx, bytes := b, since := s.aclk, stale := [] }
    (b, s.modPkg a.pkg (fun p => { p with lk := copy :: p.lk.filter (fun c => !mine c) }))

/-- R257: LKBIND and LKRST discard the copy on their own core. -/
def State.lkDrop (s : State) (a : Agent) (idx : Nat) : State :=
  let other (c : LkCopy) : Bool := !(c.core == a.core && c.vf == a.vf && c.idx == idx)
  s.modPkg a.pkg (fun p => { p with lk := p.lk.filter other })

/-! ### The words -/

/-- R264: the trap of a record index at or beyond NREC. -/
def lkAccess (sub lane : Nat) (lanes : W) (addr : DW) (idx : Nat) : Trap :=
  { cause := Cause.access, data := 0,
    frec := some { sub := sub, lane := lane, lanes := lanes, done := 0, addr := addr,
                   detail := toDW (2 ^ 32 + idx) } }

/-- The lowest lane of a mask. -/
def lowLane (m : W) : Nat := (lanesOf m).headD 0

/-- The mask of one lane. -/
def laneBit (l : Nat) : W := (1 : W) <<< l

/-- R416: the record index in a scalar register, or none where bits [31:20] are not zero. -/
def lkIndex (w : W) : Option Nat := if w.extractLsb' 20 12 = 0 then some w.toNat else none

/-- R253, R416: the checks of LKBIND and LKRST, then their act: the index before the operand's value (DEDUCED,
notes/assumptions/100.md). -/
def lkWord (s : State) (g : Pred) (ia : SReg) (act : Agent → Side → Cursor → Nat → State) :
    Host.Outcome State Fault Refusal :=
  vecWord s [] (fun a sd c =>
    let m := activeMask a sd g
    if m = 0 then s.retire c
    else
      match lkIndex (a.sreg ia.toNat) with
      | none => s.trap a sd c (Trap.plain Cause.illegalInstr c.raw)
      | some idx =>
        if s.lkNrec a.pkg a.vf ≤ idx then s.trap a sd c (lkAccess 2 (lowLane m) (laneBit (lowLane m)) 0 idx)
        else act a sd c idx)

/-- R253: the operands that LKBIND accepts. -/
def lkBindOk (v : W) : Bool :=
  v.extractLsb' 0 8 != 0xFF && v.extractLsb' 24 8 == 0 && qfOk (v.extractLsb' 8 4).toNat

/-- R253, R415, R416: LKBIND. A poisoned record is reset as any other (DESIGN CHOICE, notes/assumptions/107.md). -/
def execLkbind (g : Pred) (d a : SReg) (s : State) : Host.Outcome State Fault Refusal :=
  lkWord s g a (fun x sd c idx =>
    let v := x.sreg d.toNat
    if !lkBindOk v then s.trap x sd c (Trap.plain Cause.illegalInstr c.raw)
    else
      ((s.lkUpdate x.pkg x.vf idx (fun r =>
        { r.reset with scale := v.extractLsb' 0 8, pol := v.extractLsb' 8 8, margin := v.extractLsb' 16 8 })).lkDrop
        x idx).retire c)

/-- R253, R415, R416: LKRST. A poisoned record is reset as any other (DESIGN CHOICE, notes/assumptions/107.md). -/
def execLkrst (g : Pred) (a : SReg) (s : State) : Host.Outcome State Fault Refusal :=
  lkWord s g a (fun x _ c idx => ((s.lkUpdate x.pkg x.vf idx LkRec.reset).lkDrop x idx).retire c)

/-- R253, R416, R278: LKREAD, a load of the record at its home. -/
def execLkread (g : Pred) (d : VReg) (a : SReg) (s : State) : Host.Outcome State Fault Refusal :=
  vecWord s [d.toNat] (fun x sd c =>
    let m := activeMask x sd g
    if m = 0 then s.retire c
    else
      match lkIndex (x.sreg a.toNat) with
      | none => s.trap x sd c (Trap.plain Cause.illegalInstr c.raw)
      | some idx =>
        if s.lkNrec x.pkg x.vf ≤ idx then s.trap x sd c (lkAccess 0 (lowLane m) m 0 idx)
        else
          let b := s.lkRead x.pkg x.vf idx
          let bad := s.isPoisoned .ten (s.lkAddr x.pkg x.vf idx) 64
          if bad && x.errtrap then
            s.trap x sd c (memTrap c 0 Cause.poison (lowLane m) m 0 0)
          else
            ((s.setAgent (x.setV d.toNat m (fun l =>
              if l < 16 then BitVec.ofNat 32 (leNat ((b.drop (4 * l)).take 4)) else 0))).orFmt c
              (if bad then spoi else 0)).retire c)

/-! ### Automatic rescale (R258) -/

/-- R258: the largest finite value of a QNT target. -/
def qntLimit (f : Fmt) : FVal :=
  match f with
  | .i8 => .fin false 127 0
  | .i4 => .fin false 7 0
  | .e2m1x => .fin false 6 0
  | _ => Fmt.value f (Fmt.maxBits f)

/-- R258: the smallest scale from `k` up, within `n` tries, for which m × 2^MARGIN fits; 254 if none. -/
def rescaleFrom (m lim : FVal) : Nat → Nat → Nat
  | 0, _ => 254
  | n + 1, k =>
    if 254 ≤ k then 254
    else if !((lim.mul (.fin false 1 ((k : Int) - 127))).lt m) then k else rescaleFrom m lim n (k + 1)

/-- R258: the larger of the record's AMAX and the values given. -/
def rescaleMax (r : LkRec) (xs : List FVal) : FVal :=
  xs.foldl (fun m v =>
    match v with
    | .fin _ _ _ => if m.lt v.abs then v.abs else m
    | _ => m) (Fmt.value .fp32 r.amax.toNat)

/-- R258: the automatic rescale, performed at the record's home. -/
def State.autoRescale (s : State) (pkg vf idx : Nat) (r : LkRec) (tf : Fmt) (xs : List FVal) : State :=
  let m := (rescaleMax r xs).mul (.fin false 1 (r.margin.toNat % 16))
  let k := rescaleFrom m (qntLimit tf) 256 r.scale.toNat
  s.lkUpdate pkg vf idx (fun h =>
    if h.scale.toNat < k then
      { h with scale := BitVec.ofNat 8 k, gen := h.gen + 1, hist := List.replicate 24 0,
               flags := (h.flags ||| lkRpend) &&& ~~~lkHsat }
    else h)

end Sys2Proof.Machine
end

