-- ==== Sys2Proof/Machine/LoadStore.lean ====
section
/-!
DEFINITION. Sys2Proof/Machine/LoadStore.lean: LD (R411 to R414) and ST (R457 to R459) with their qualifiers: beads
(R144), acquire and release (R172), `.lk` merges (R249, R250, R458) and poison (R277, R278).
-/
namespace Sys2Proof.Machine

/-! ### What acquires and demoted scopes do -/

/-- R130: a demoted instruction of a VF. -/
def State.demote (s : State) (pkg vf : Nat) : State :=
  s.modVf pkg vf (fun v =>
    { v with demoted := true, demotes := if v.demotes = 0xFFFF then v.demotes else v.demotes + 1 })

/-- R130: an instruction of an agent that names system scope. -/
def State.atSystem (s : State) (a : Agent) : State :=
  if !a.isCc && (s.vf a.pkg a.vf).cfg.scopecap then s.demote a.pkg a.vf else s

/-- R172: whether a target's qualifiers act at system scope. -/
def Target.isSystem (t : Target) : Bool :=
  match t with
  | .ctl _ _ => true
  | .ten _ => true
  | .mmio _ => true
  | .pad _ _ _ => false

/-- R164: the tensor plane. -/
def Target.isTensor (t : Target) : Bool :=
  match t with
  | .ten _ => true
  | _ => false

/-! ### Loads -/

/-- R413, R414: `.fe` and `.fec` reach the cluster-local class only: any other class gives ACCESS, after alignment and
privilege (R136, R316) and before anything that translation finds. -/
def beadClass (q : LdQ) (x : LaneAcc) : LaneAcc :=
  if (q = .fe ∨ q = .fec) ∧ x.va.extractLsb' 62 2 ≠ 2 ∧ !x.failsWith Cause.misaligned ∧ !x.failsWith Cause.privileged then
    { x with res := .bad Cause.access 0 }
  else x

/-- R260, R278: with ERRTRAP a lane that finds poison fails, as one that finds any other cause; under `.fe` and `.fec` it finds
poison only once the word's beads are full (R144). -/
def State.poisonClass (s : State) (a : Agent) (q : LdQ) (n : Nat) (x : LaneAcc) : LaneAcc :=
  match x.res with
  | .ok t =>
    if a.errtrap && q != .fe && q != .fec && s.readPoisoned (s.who a) t n then { x with res := .bad Cause.poison 0 } else x
  | _ => x

/-- R412 to R414: the check of one lane of a load. -/
def State.loadAcc (s : State) (a : Agent) (sd : Side) (q : LdQ) (n : Nat) (x : Nat × DW) : LaneAcc :=
  s.poisonClass a q n (beadClass q (s.laneAcc a sd Kind.load n x))

/-- R144: the beads of a word's accesses, by crew. -/
def wordBeads (n : Nat) (ts : List (Nat × DW × Target)) : List (Nat × List Nat) :=
  ts.filterMap (fun x =>
    match x.2.2 with
    | .pad k off _ => some (k, beadsOf off n)
    | _ => none)

/-- R144: the first crew some of whose beads are empty, with the beads of the word there. -/
def State.emptyBeads (s : State) (bs : List (Nat × List Nat)) : Option (Nat × List Nat) :=
  match bs.find? (fun x =>
      match s.crew? x.1 with
      | some c => x.2.any (fun b => !c.full.contains b)
      | none => false) with
  | some x => some (x.1, (bs.filter (fun y => y.1 == x.1)).flatMap (fun y => y.2))
  | none => none

/-- R144: `.fec` clears the beads of the word. -/
def State.drainBeads (s : State) (bs : List (Nat × List Nat)) : State :=
  bs.foldl (fun s x => s.modCrew x.1 (fun c => c.drain x.2)) s

/-- R144, R173: an agent has seen beads full. -/
def State.seeBeads (s : State) (id : Nat) (bs : List (Nat × List Nat)) : State :=
  bs.foldl (fun s x => s.modCrew x.1 (fun c =>
    { c with seen := x.2.map (fun b => (id, b, s.wlog.length)) ++ c.seen })) s

/-- R411: the value of a loaded element, extended to its registers. -/
def loadValue (signed : Bool) (bs : List Byte) : Nat :=
  let n := bs.length
  let v := leNat bs
  if signed && 2 ^ (8 * n - 1) ≤ v then v + (2 ^ 32 - 2 ^ (8 * n)) else v

/-- The `i`-th 32-bit word of a value. -/
def wordAt (v i : Nat) : W := BitVec.ofNat 32 (v / 2 ^ (32 * i))

/-- R165: the accesses of a load: every lane reads what stands before the word, so that lanes which read one byte read
one value; then the copies the reads leave. -/
def State.readAll (s : State) (w : Who) (n : Nat) (keep : Bool) (ts : List (Nat × DW × Target)) :
    List (Nat × List Byte) × State :=
  (ts.map (fun x => (x.1, (s.readT w x.2.2 n keep).1)),
    ts.foldl (fun s x => (s.readT w x.2.2 n keep).2) s)

/-- The value a load gave a lane. -/
def laneValue (signed : Bool) (vs : List (Nat × List Byte)) (l : Nat) : Nat :=
  match vs.find? (fun x => x.1 == l) with
  | some x => loadValue signed x.2
  | none => 0

/-- R412: the bytes read, written to the registers, and the acquire of `.acq`. -/
def State.loadEnd (s : State) (a : Agent) (c : Cursor) (acq : Bool) (q : LdQ) (n : Nat) (signed : Bool)
    (put : Agent → (Nat → Nat) → Agent) (ts : List (Nat × DW × Target)) (bs : List (Nat × List Nat)) (fl : W) :
    State :=
  let r := s.readAll (s.who a) n (q != .nt) ts
  let s0 := if q = .fe ∨ q = .fec then r.2.seeBeads a.id bs else r.2
  let s1 := if q = .fec then s0.drainBeads bs else s0
  let s2 := (s1.modAgent a.id (fun a => put a (laneValue signed r.1))).orFmt c fl
  let s3 :=
    if acq then
      let s3 := s2.acquire a (ts.any (fun x => x.2.2.isTensor))
      if ts.any (fun x => x.2.2.isSystem) then s3.atSystem a else s3
    else s2
  s3.retire c

/-- R412 to R414: a load once its accesses are checked; `put` writes the destination from each lane's value. -/
def State.loadGo (s : State) (a : Agent) (sd : Side) (c : Cursor) (acq : Bool) (q : LdQ) (n : Nat) (signed : Bool)
    (put : Agent → (Nat → Nat) → Agent) (ts : List (Nat × DW × Target)) : State :=
  let bs := wordBeads n ts
  let fe := q = .fe ∨ q = .fec
  match (if fe then s.emptyBeads bs else none) with
  | some e => s.stall c (.beads e.1 e.2)
  | none =>
    let bad := ts.filter (fun x => s.readPoisoned (s.who a) x.2.2 n)
    match bad with
    | b :: _ =>
      if a.errtrap then
        s.trap a sd c (memTrap c 0 Cause.poison b.1 (maskOf (bad.map (fun x => x.1))) b.2.1 0)
      else State.loadEnd s a c acq q n signed put ts bs spoi
    | [] => State.loadEnd s a c acq q n signed put ts bs 0

/-- R411: the vector registers of an element of `n` bytes from X on. -/
def dataRegs (x n : Nat) : List Nat := (List.range ((n + 3) / 4)).map (x + ·)

/-- R411: a vector element written to its registers. -/
def putVec (x n : Nat) (m : W) (a : Agent) (v : Nat → Nat) : Agent :=
  (List.range ((n + 3) / 4)).foldl (fun a i => a.setV (x + i) m (fun l => wordAt (v l) i)) a

/-- R411, R412: a vector load. -/
def loadVec (s : State) (g : Pred) (acq : Bool) (q : LdQ) (c : SPair) (x : VReg) (o : VOff) (n : Nat) (signed : Bool) :
    Host.Outcome State Fault Refusal :=
  vecWord s (dataRegs x.toNat n ++ VOff.regs o) (fun a sd cu =>
    let m := activeMask a sd g
    if m = 0 then s.retire cu
    else
      let accs := (lanesOf m).map (fun l => s.loadAcc a sd q n (l, laneAddr a c o l))
      s.withAccs a sd cu Kind.load accs (fun s1 ts =>
        s1.loadGo a sd cu acq q n signed (putVec x.toNat n m) ts))

/-- R411: a scalar element written to its registers. -/
def putSca (x n lane : Nat) (a : Agent) (v : Nat → Nat) : Agent :=
  (List.range (n / 4)).foldl (fun a i => a.setS (x + i) (wordAt (v lane) i)) a

/-- R411, R412, R65: a scalar load, made once. -/
def loadSca (s : State) (g : Pred) (acq : Bool) (q : LdQ) (c : SPair) (x : SReg) (o : SOff) (n : Nat) :
    Host.Outcome State Fault Refusal :=
  scalarWord s g (fun a sd cu =>
    let l := lowLane (activeMask a sd g)
    s.withAccs a sd cu Kind.load [s.loadAcc a sd q n (l, scalarAddr a c o)] (fun s1 ts =>
      s1.loadGo a sd cu acq q n false (putSca x.toNat n l) ts))

/-! ### Stores -/

/-- The place of a target's first byte: its memory and its address there. -/
def Target.place (t : Target) : Nat × Nat :=
  match t with
  | .ctl pa _ => (0, pa)
  | .ten pa => (1, pa)
  | .mmio off => (2, off)
  | .pad k off _ => (3 + k, off)

/-- Whether `n` bytes at a target overlap `k` bytes from `i` on at another. -/
def overlaps (t : Target) (n : Nat) (u : Target) (i k : Nat) : Bool :=
  t.place.1 == u.place.1 && decide (t.place.2 < u.place.2 + i + k) && decide (u.place.2 + i < t.place.2 + n)

/-- R249: the Locket format of a `.lk` store's elements. -/
def lkFmt (n : Nat) : Fmt :=
  match n with
  | 1 => .e4m3
  | 2 => .bf16
  | 8 => .fp64
  | _ => .fp32

/-- R250, R458: the elements a `.lk` store merges: those no higher lane overwrites in any byte. -/
def lkElems (n : Nat) : List (Target × Nat) → List DW
  | [] => []
  | x :: r =>
    let es := if n = 16 then 4 else n
    ((List.range (n / es)).filterMap (fun i =>
      if r.any (fun y => overlaps y.1 n x.1 (i * es) es) then none
      else some (toDW (x.2 / 2 ^ (8 * es * i) % 2 ^ (8 * es))))) ++ lkElems n r

/-- R459, R264: a `.lk` store whose LKSEL is at or beyond NREC fails in every lane that its address does not fail. -/
def lkClass (bad : Bool) (idx : Nat) (x : LaneAcc) : LaneAcc :=
  if bad && !x.isBad then { x with res := .bad Cause.access (toDW (2 ^ 32 + idx)) } else x

/-- R186: whether a store's bytes stay in the core's copy of a SOFT line. -/
def State.inCopy (s : State) (w : Who) (t : Target) : Bool :=
  match w.core, t with
  | some k, .ctl pa 1 => ((s.pkg? w.pkg).bind (fun p => p.l1Find k .ctl (pa / 128))).isSome
  | _, _ => false

/-- R277: the poison that the stores of a word clear, at the homes and copies that took their bytes. -/
def State.storeClears (s : State) (w : Who) (ts : List (Target × Nat)) : State :=
  (s.clearPoison (ts.filter (fun x => !s.inCopy w x.1))).clearCopyPoison w ts

/-- R458: a store once its accesses are checked; `v` gives each lane's value. -/
def State.storeGo (s : State) (a : Agent) (c : Cursor) (rel : Bool) (q : StQ) (n : Nat) (v : Nat → Nat)
    (ts : List (Nat × DW × Target)) : State :=
  let w := s.who a
  let s1 := if rel && ts.any (fun x => x.2.2.isSystem) then s.atSystem a else s
  let s2 := ts.foldl (fun s x => s.writeT w x.2.2 (toLE n (v x.1)) (q != .nt)) s1
  let s3 := s2.storeClears w (ts.map (fun x => (x.2.2, n)))
  let s4 :=
    if q = .lk then
      s3.lkMerge a.pkg a.vf a.lksel.toNat (lkFmt n) (lkElems n (ts.map (fun x => (x.2.2, v x.1 % 2 ^ (8 * n)))))
    else s3
  s4.retire c

/-- The value of a lane's data registers. -/
def vecData (a : Agent) (x n l : Nat) : Nat :=
  leNat ((List.range ((n + 3) / 4)).flatMap (fun i => toLE 4 (a.vreg (x + i) l).toNat))

/-- The value of the scalar data registers. -/
def scaData (a : Agent) (x n : Nat) : Nat :=
  leNat ((List.range (n / 4)).flatMap (fun i => toLE 4 (a.sreg (x + i)).toNat))

/-- R458: the checks of a `.lk` store's record index. -/
def State.lkBad (s : State) (a : Agent) (q : StQ) : Bool :=
  decide (q = .lk) && decide (s.lkNrec a.pkg a.vf ≤ a.lksel.toNat)

/-- R457, R458: a vector store. -/
def storeVec (s : State) (g : Pred) (rel : Bool) (q : StQ) (c : SPair) (x : VReg) (o : VOff) (n : Nat) :
    Host.Outcome State Fault Refusal :=
  vecWord s (dataRegs x.toNat n ++ VOff.regs o) (fun a sd cu =>
    let m := activeMask a sd g
    if m = 0 then s.retire cu
    else
      let accs := (lanesOf m).map (fun l =>
        lkClass (s.lkBad a q) a.lksel.toNat (s.laneAcc a sd Kind.store n (l, laneAddr a c o l)))
      s.withAccs a sd cu Kind.store accs (fun s1 ts => s1.storeGo a cu rel q n (vecData a x.toNat n) ts))

/-- R457, R458, R65: a scalar store; on a control core the `.lk` form raises ILLEGAL_INSTR (R459). -/
def storeSca (s : State) (g : Pred) (rel : Bool) (q : StQ) (c : SPair) (x : SReg) (o : SOff) (n : Nat) :
    Host.Outcome State Fault Refusal :=
  withIssuer s (fun a sd cu =>
    if a.isCc && q == .lk then s.trap a sd cu (Trap.plain Cause.illegalInstr cu.raw)
    else if !scalarGuard a sd g then s.retire cu
    else
      let l := lowLane (activeMask a sd g)
      s.withAccs a sd cu Kind.store
        [lkClass (s.lkBad a q) a.lksel.toNat (s.laneAcc a sd Kind.store n (l, scalarAddr a c o))]
        (fun s1 ts => s1.storeGo a cu rel q n (fun _ => scaData a x.toNat n) ts))

/-! ### The instructions -/

/-- R411: LD.B8. -/
def execLdB8 (g : Pred) (acq : Bool) (q : LdQ) (c : SPair) (x : VReg) (o : VOff) (s : State) :
    Host.Outcome State Fault Refusal :=
  loadVec s g acq q c x o 1 false
/-- R411: LD.X8. -/
def execLdX8 (g : Pred) (acq : Bool) (q : LdQ) (c : SPair) (x : VReg) (o : VOff) (s : State) :
    Host.Outcome State Fault Refusal :=
  loadVec s g acq q c x o 1 true
/-- R411: LD.B16. -/
def execLdB16 (g : Pred) (acq : Bool) (q : LdQ) (c : SPair) (x : VReg) (o : VOff) (s : State) :
    Host.Outcome State Fault Refusal :=
  loadVec s g acq q c x o 2 false
/-- R411: LD.X16. -/
def execLdX16 (g : Pred) (acq : Bool) (q : LdQ) (c : SPair) (x : VReg) (o : VOff) (s : State) :
    Host.Outcome State Fault Refusal :=
  loadVec s g acq q c x o 2 true
/-- R411: LD.B32. -/
def execLdB32 (g : Pred) (acq : Bool) (q : LdQ) (c : SPair) (x : VReg) (o : VOff) (s : State) :
    Host.Outcome State Fault Refusal :=
  loadVec s g acq q c x o 4 false
/-- R411: LD.B64. -/
def execLdB64 (g : Pred) (acq : Bool) (q : LdQ) (c : SPair) (x : VReg) (o : VOff) (s : State) :
    Host.Outcome State Fault Refusal :=
  loadVec s g acq q c x o 8 false
/-- R411: LD.B128. -/
def execLdB128 (g : Pred) (acq : Bool) (q : LdQ) (c : SPair) (x : VReg) (o : VOff) (s : State) :
    Host.Outcome State Fault Refusal :=
  loadVec s g acq q c x o 16 false
/-- R411: LD.B32, scalar form. -/
def execLdB32Scalar (g : Pred) (acq : Bool) (q : LdQ) (c : SPair) (x : SReg) (o : SOff) (s : State) :
    Host.Outcome State Fault Refusal :=
  loadSca s g acq q c x o 4
/-- R411: LD.B64, scalar form. -/
def execLdB64Scalar (g : Pred) (acq : Bool) (q : LdQ) (c : SPair) (x : SReg) (o : SOff) (s : State) :
    Host.Outcome State Fault Refusal :=
  loadSca s g acq q c x o 8
/-- R457: ST.B8. -/
def execStB8 (g : Pred) (rel : Bool) (q : StQ) (c : SPair) (x : VReg) (o : VOff) (s : State) :
    Host.Outcome State Fault Refusal :=
  storeVec s g rel q c x o 1
/-- R457: ST.B16. -/
def execStB16 (g : Pred) (rel : Bool) (q : StQ) (c : SPair) (x : VReg) (o : VOff) (s : State) :
    Host.Outcome State Fault Refusal :=
  storeVec s g rel q c x o 2
/-- R457: ST.B32. -/
def execStB32 (g : Pred) (rel : Bool) (q : StQ) (c : SPair) (x : VReg) (o : VOff) (s : State) :
    Host.Outcome State Fault Refusal :=
  storeVec s g rel q c x o 4
/-- R457: ST.B64. -/
def execStB64 (g : Pred) (rel : Bool) (q : StQ) (c : SPair) (x : VReg) (o : VOff) (s : State) :
    Host.Outcome State Fault Refusal :=
  storeVec s g rel q c x o 8
/-- R457: ST.B128. -/
def execStB128 (g : Pred) (rel : Bool) (q : StQ) (c : SPair) (x : VReg) (o : VOff) (s : State) :
    Host.Outcome State Fault Refusal :=
  storeVec s g rel q c x o 16
/-- R457: ST.B32, scalar form. -/
def execStB32Scalar (g : Pred) (rel : Bool) (q : StQ) (c : SPair) (x : SReg) (o : SOff) (s : State) :
    Host.Outcome State Fault Refusal :=
  storeSca s g rel q c x o 4
/-- R457: ST.B64, scalar form. -/
def execStB64Scalar (g : Pred) (rel : Bool) (q : StQ) (c : SPair) (x : SReg) (o : SOff) (s : State) :
    Host.Outcome State Fault Refusal :=
  storeSca s g rel q c x o 8

end Sys2Proof.Machine
end

