-- ==== Sys2Proof/Machine/Atomic.lean ====
section
/-!
DEFINITION. Sys2Proof/Machine/Atomic.lean: ATOM and RED (R333 to R336, R444), CAS (R350, R351), GTSWAP (R399, R400), VSWAP
(R471) and TAGSWAP (R460), performed one lane at a time, in an order that
R165 leaves open (notes/assumptions/10.md), at the home (R175).
-/
namespace Sys2Proof.Machine

/-- One atomic: its width in bytes, the registers it names from X on, and the new value from the old value and the
registers' values; `none` stores nothing. -/
structure AtomOp where
  bytes : Nat
  regs : Nat
  next : Nat → (Nat → W) → Option Nat
  /-- whether the old value returns to X on (not RED) -/
  returns : Bool
  /-- EXCH, which clears the poison of the location it overwrites (R336) -/
  exch : Bool

/-- The lanes' old values, and the lane stopped by poison. -/
structure AtomRun where
  olds : List (Nat × Nat)
  stopped : Option (Nat × DW)
  poisoned : Bool
deriving DecidableEq, Repr

/-- R165: accesses in an order that the spec leaves open: each next one is drawn from those left by a free value; one
access alone draws nothing. -/
def State.freeOrder {α : Type} (s : State) : Nat → List α → List α × State
  | 0, xs => (xs, s)
  | n + 1, xs =>
    if xs.length ≤ 1 then (xs, s)
    else
      let k := Config.freeNat s.free % xs.length
      let r := State.freeOrder { s with free := s.free + 1 } n (xs.eraseIdx k)
      (xs.take (k + 1) |>.drop k |>.append r.1, r.2)

/-- R334, R143: an atomic on a scratchpad sets its bead full, one that stores nothing included. -/
def State.fillAt (s : State) (t : Target) (n : Nat) : State :=
  match t with
  | .pad k off _ => s.modCrew k (fun c => c.fill (beadsOf off n))
  | _ => s

/-- R334, R336: the lanes' atomics performed one at a time. -/
def State.atomLanes (s : State) (w : Who) (op : AtomOp) (errtrap : Bool) (v : Nat → Nat → W) (run : AtomRun) :
    List (Nat × DW × Target) → AtomRun × State
  | [] => (run, s)
  | x :: r =>
    let s0 := s.toHome w x.2.2
    let bad := s0.targetPoisoned x.2.2 op.bytes
    if bad && errtrap && op.returns then ({ run with stopped := some (x.1, x.2.1) }, s)
    else
      let old := leNat (s0.overEntries x.2.2 (s0.homeReadT x.2.2 op.bytes))
      let s1 :=
        match op.next old (v x.1) with
        | some k =>
          let s1 := s0.homeWriteT x.2.2 (toLE op.bytes k)
          if op.exch then s1.clearGranule x.2.2 else s1
        | none => s0.fillAt x.2.2 op.bytes
      let s2 := s1.sendAtomic w x.2.2 op.bytes ((List.range op.regs).flatMap (fun i => toLE 4 (v x.1 i).toNat))
        (if op.returns then toLE op.bytes old else [])
      let s2 := s2.stray x.2.2 op.bytes
      State.atomLanes s2 w op errtrap v
        { run with olds := (x.1, old) :: run.olds, poisoned := run.poisoned || bad } r

/-- R137: an atomic does not reach the system class. -/
def noMmio (x : LaneAcc) : LaneAcc :=
  match x.res with
  | .ok (.mmio _) => { x with res := .bad Cause.access 0 }
  | _ => x

/-- R334 to R336: the atomics of a word once its accesses are checked. A word whose POISON trap has to wait for its fault record
(R162, R189, R264) waits before any of its lanes performs. -/
def State.atomGo (s : State) (a : Agent) (sd : Side) (c : Cursor) (q : Scope) (op : AtomOp) (v : Nat → Nat → W)
    (put : Agent → (Nat → Nat) → W → Agent) (ts : List (Nat × DW × Target)) : State :=
  let s1 := if q = .system then s.atSystem a else s
  let o := s1.freeOrder ts.length ts
  let r := o.2.atomLanes (s.who a) op a.errtrap v { olds := [], stopped := none, poisoned := false } o.1
  let done := maskOf (r.1.olds.map (fun x => x.1))
  let s2 := if op.returns then
      r.2.modAgent a.id (fun a => put a (fun l => match r.1.olds.find? (fun x => x.1 == l) with
        | some x => x.2
        | none => 0) done)
    else r.2
  match r.1.stopped with
  | some x =>
    let t : Trap := { cause := Cause.poison, data := 0,
                      frec := some { sub := 2, lane := x.1, lanes := laneBit x.1, done := done, addr := x.2, detail := 0 } }
    match if a.isCc || sd.inHandler then none else s2.trapWait a t with
    | some w => s.stall c w
    | none => s2.trap a sd c t
  | none => (s2.orFmt c (if r.1.poisoned && op.returns then spoi else 0)).retire c

/-- R335: an atomic word: a vector form on a group, a scalar form on a control core. -/
def atomWord (s : State) (g : Pred) (q : Scope) (c : SPair) (x : VReg) (o : VOff) (op : AtomOp) :
    Host.Outcome State Fault Refusal :=
  withIssuer s (fun a sd cu =>
    let m := activeMask a sd g
    let k := op.bytes / 4
    if a.isCc then
      match (if x.toNat + op.regs ≤ 64 then VOff.toScalar o else none) with
      | none => s.trap a sd cu (Trap.plain Cause.illegalInstr cu.raw)
      | some so =>
        if m = 0 then s.retire cu
        else
          s.withAccs a sd cu Kind.atomic
            [noMmio (s.laneAcc a sd Kind.atomic op.bytes (0, scalarAddr a c so))] (fun s1 ts =>
              s1.atomGo a sd cu q op (fun _ i => a.sreg (x.toNat + i))
                (fun a f dm => if dm = 0 then a else
                  (List.range k).foldl (fun a i => a.setS (x.toNat + i) (wordAt (f 0) i)) a) ts)
    else
      match vecCheck a cu ((List.range op.regs).map (x.toNat + ·) ++ VOff.regs o) with
      | some t => s.trap a sd cu t
      | none =>
        if m = 0 then s.retire cu
        else
          s.withAccs a sd cu Kind.atomic
            ((lanesOf m).map (fun l => noMmio (s.laneAcc a sd Kind.atomic op.bytes (l, laneAddr a c o l)))) (fun s1 ts =>
              s1.atomGo a sd cu q op (fun l i => a.vreg (x.toNat + i) l)
                (fun a f dm => (List.range k).foldl (fun a i =>
                  a.setV (x.toNat + i) dm (fun l => wordAt (f l) i)) a) ts))

/-! ### The operations (R334) -/

/-- A 32-bit operation on the old value and the operand. -/
def rmw (returns : Bool) (f : W → W → W) : AtomOp :=
  { bytes := 4, regs := 1, next := fun old v => some (f (BitVec.ofNat 32 old) (v 0)).toNat, returns := returns, exch := false }

/-- R334: FADD. -/
def atomFaddW (a b : W) : W := (addRes .fp32 .rne false (Fmt.value .fp32 a.toNat) (Fmt.value .fp32 b.toNat)).w

/-- R334: FMAX and FMIN. -/
def atomExtW (max : Bool) (a b : W) : W :=
  (minmaxRes .fp32 max (Fmt.value .fp32 a.toNat) (Fmt.value .fp32 b.toNat) (a.setWidth 64) (b.setWidth 64)).w

/-- R351: CAS of `n` bytes: the compare value in X on, the new value after it. -/
def casOp (n : Nat) : AtomOp :=
  let k := n / 4
  let val (v : Nat → W) (i : Nat) : Nat := leNat ((List.range k).flatMap (fun j => toLE 4 (v (i + j)).toNat))
  { bytes := n, regs := 2 * k, next := fun old v => if old = val v 0 then some (val v k) else none, returns := true, exch := false }

/-- R400: GTSWAP of `n` bytes: the new value after the result registers. -/
def gtOp (n : Nat) : AtomOp :=
  let k := n / 4
  let val (v : Nat → W) (i : Nat) : Nat := leNat ((List.range k).flatMap (fun j => toLE 4 (v (i + j)).toNat))
  { bytes := n, regs := 2 * k, next := fun old v => if old < val v k then some (val v k) else none, returns := true, exch := false }

/-- R460, R471: the word with its tag one higher and a new pointer. -/
def bumpTag (old new_ : Nat) : Nat := (old / 2 ^ 48 + 1) % 2 ^ 16 * 2 ^ 48 + new_ % 2 ^ 48

/-- R460, R471: TAGSWAP and VSWAP; `same` compares the old value with the compare value. -/
def tagOp (same : Nat → Nat → Bool) : AtomOp :=
  let val (v : Nat → W) (i : Nat) : Nat := (pairVal (v i) (v (i + 1))).toNat
  { bytes := 8, regs := 4, next := fun old v => if same old (val v 0) then some (bumpTag old (val v 2)) else none,
    returns := true, exch := false }

/-! ### The instructions -/

/-- R334: ATOM.ADD. -/
def execAtomAdd (g : Pred) (q : Scope) (c : SPair) (x : VReg) (o : VOff) (s : State) : Host.Outcome State Fault Refusal :=
  atomWord s g q c x o (rmw true (fun x y => x + y))
/-- R334: ATOM.AND. -/
def execAtomAnd (g : Pred) (q : Scope) (c : SPair) (x : VReg) (o : VOff) (s : State) : Host.Outcome State Fault Refusal :=
  atomWord s g q c x o (rmw true (fun x y => x &&& y))
/-- R334: ATOM.OR. -/
def execAtomOr (g : Pred) (q : Scope) (c : SPair) (x : VReg) (o : VOff) (s : State) : Host.Outcome State Fault Refusal :=
  atomWord s g q c x o (rmw true (fun x y => x ||| y))
/-- R334: ATOM.XOR. -/
def execAtomXor (g : Pred) (q : Scope) (c : SPair) (x : VReg) (o : VOff) (s : State) : Host.Outcome State Fault Refusal :=
  atomWord s g q c x o (rmw true (fun x y => x ^^^ y))
/-- R334: ATOM.MIN.I. -/
def execAtomMinI (g : Pred) (q : Scope) (c : SPair) (x : VReg) (o : VOff) (s : State) : Host.Outcome State Fault Refusal :=
  atomWord s g q c x o (rmw true (minI))
/-- R334: ATOM.MIN.N. -/
def execAtomMinN (g : Pred) (q : Scope) (c : SPair) (x : VReg) (o : VOff) (s : State) : Host.Outcome State Fault Refusal :=
  atomWord s g q c x o (rmw true (minN))
/-- R334: ATOM.MAX.I. -/
def execAtomMaxI (g : Pred) (q : Scope) (c : SPair) (x : VReg) (o : VOff) (s : State) : Host.Outcome State Fault Refusal :=
  atomWord s g q c x o (rmw true (maxI))
/-- R334: ATOM.MAX.N. -/
def execAtomMaxN (g : Pred) (q : Scope) (c : SPair) (x : VReg) (o : VOff) (s : State) : Host.Outcome State Fault Refusal :=
  atomWord s g q c x o (rmw true (maxN))
/-- R334: ATOM.EXCH. -/
def execAtomExch (g : Pred) (q : Scope) (c : SPair) (x : VReg) (o : VOff) (s : State) : Host.Outcome State Fault Refusal :=
  atomWord s g q c x o { rmw true (fun _ y => y) with exch := true }
/-- R334: ATOM.FADD. -/
def execAtomFadd (g : Pred) (q : Scope) (c : SPair) (x : VReg) (o : VOff) (s : State) : Host.Outcome State Fault Refusal :=
  atomWord s g q c x o (rmw true (atomFaddW))
/-- R334: ATOM.FMAX. -/
def execAtomFmax (g : Pred) (q : Scope) (c : SPair) (x : VReg) (o : VOff) (s : State) : Host.Outcome State Fault Refusal :=
  atomWord s g q c x o (rmw true (atomExtW true))
/-- R334: ATOM.FMIN. -/
def execAtomFmin (g : Pred) (q : Scope) (c : SPair) (x : VReg) (o : VOff) (s : State) : Host.Outcome State Fault Refusal :=
  atomWord s g q c x o (rmw true (atomExtW false))
/-- R444: RED.ADD. -/
def execRedAdd (g : Pred) (q : Scope) (c : SPair) (x : VReg) (o : VOff) (s : State) : Host.Outcome State Fault Refusal :=
  atomWord s g q c x o (rmw false (fun x y => x + y))
/-- R444: RED.AND. -/
def execRedAnd (g : Pred) (q : Scope) (c : SPair) (x : VReg) (o : VOff) (s : State) : Host.Outcome State Fault Refusal :=
  atomWord s g q c x o (rmw false (fun x y => x &&& y))
/-- R444: RED.OR. -/
def execRedOr (g : Pred) (q : Scope) (c : SPair) (x : VReg) (o : VOff) (s : State) : Host.Outcome State Fault Refusal :=
  atomWord s g q c x o (rmw false (fun x y => x ||| y))
/-- R444: RED.XOR. -/
def execRedXor (g : Pred) (q : Scope) (c : SPair) (x : VReg) (o : VOff) (s : State) : Host.Outcome State Fault Refusal :=
  atomWord s g q c x o (rmw false (fun x y => x ^^^ y))
/-- R444: RED.MIN.I. -/
def execRedMinI (g : Pred) (q : Scope) (c : SPair) (x : VReg) (o : VOff) (s : State) : Host.Outcome State Fault Refusal :=
  atomWord s g q c x o (rmw false (minI))
/-- R444: RED.MIN.N. -/
def execRedMinN (g : Pred) (q : Scope) (c : SPair) (x : VReg) (o : VOff) (s : State) : Host.Outcome State Fault Refusal :=
  atomWord s g q c x o (rmw false (minN))
/-- R444: RED.MAX.I. -/
def execRedMaxI (g : Pred) (q : Scope) (c : SPair) (x : VReg) (o : VOff) (s : State) : Host.Outcome State Fault Refusal :=
  atomWord s g q c x o (rmw false (maxI))
/-- R444: RED.MAX.N. -/
def execRedMaxN (g : Pred) (q : Scope) (c : SPair) (x : VReg) (o : VOff) (s : State) : Host.Outcome State Fault Refusal :=
  atomWord s g q c x o (rmw false (maxN))
/-- R444: RED.EXCH. -/
def execRedExch (g : Pred) (q : Scope) (c : SPair) (x : VReg) (o : VOff) (s : State) : Host.Outcome State Fault Refusal :=
  atomWord s g q c x o { rmw false (fun _ y => y) with exch := true }
/-- R444: RED.FADD. -/
def execRedFadd (g : Pred) (q : Scope) (c : SPair) (x : VReg) (o : VOff) (s : State) : Host.Outcome State Fault Refusal :=
  atomWord s g q c x o (rmw false (atomFaddW))
/-- R444: RED.FMAX. -/
def execRedFmax (g : Pred) (q : Scope) (c : SPair) (x : VReg) (o : VOff) (s : State) : Host.Outcome State Fault Refusal :=
  atomWord s g q c x o (rmw false (atomExtW true))
/-- R444: RED.FMIN. -/
def execRedFmin (g : Pred) (q : Scope) (c : SPair) (x : VReg) (o : VOff) (s : State) : Host.Outcome State Fault Refusal :=
  atomWord s g q c x o (rmw false (atomExtW false))
/-- R351: CAS. -/
def execCas (g : Pred) (q : Scope) (c : SPair) (x : VReg) (o : VOff) (s : State) : Host.Outcome State Fault Refusal :=
  atomWord s g q c x o (casOp 4)
/-- R351: CAS.D. -/
def execCasD (g : Pred) (q : Scope) (c : SPair) (x : VReg) (o : VOff) (s : State) : Host.Outcome State Fault Refusal :=
  atomWord s g q c x o (casOp 8)
/-- R400: GTSWAP. -/
def execGtswap (g : Pred) (q : Scope) (c : SPair) (x : VReg) (o : VOff) (s : State) : Host.Outcome State Fault Refusal :=
  atomWord s g q c x o (gtOp 4)
/-- R400: GTSWAP.D. -/
def execGtswapD (g : Pred) (q : Scope) (c : SPair) (x : VReg) (o : VOff) (s : State) : Host.Outcome State Fault Refusal :=
  atomWord s g q c x o (gtOp 8)
/-- R471: VSWAP. -/
def execVswap (g : Pred) (q : Scope) (c : SPair) (x : VReg) (o : VOff) (s : State) : Host.Outcome State Fault Refusal :=
  atomWord s g q c x o (tagOp (fun x y => x / 2 ^ 48 == y / 2 ^ 48))
/-- R460: TAGSWAP. -/
def execTagswap (g : Pred) (q : Scope) (c : SPair) (x : VReg) (o : VOff) (s : State) : Host.Outcome State Fault Refusal :=
  atomWord s g q c x o (tagOp (fun x y => x == y))

end Sys2Proof.Machine
end

