-- ==== Sys2Proof/Machine/Order.lean ====
section
/-!
DEFINITION. Sys2Proof/Machine/Order.lean: FENCE (R171, R392, R393), CLASP (R176 to R178, R358 to R360), PFETCH (R436,
R437), CFLUSH and CINV (R186, R187, R352, R353) and FEMARK (R146, R391).
-/
namespace Sys2Proof.Machine

/-- R171: cluster scope or wider; on a control core every scope is (R393). -/
def clusterOrWider (a : Agent) (q : Scope) : Bool := a.isCc || 2 ≤ q.code

/-- R171, R392: FENCE. Accesses are performed in issue order (DESIGN CHOICE, notes/assumptions/9.md), so nothing is left to wait
for. -/
def execFence (g : Pred) (q : Scope) (k : FenceKind) (s : State) : Host.Outcome State Fault Refusal :=
  scalarWord s g (fun a _ c =>
    let s1 := if k = .rel then s else s.acquire a (clusterOrWider a q)
    (if q = .system then s1.atSystem a else s1).retire c)

/-- Whether an operation has neither ended nor resolved. -/
def State.isOpen (s : State) (i : Nat) : Bool :=
  s.cmds.any (fun c => c.inst == i && c.phase != .dead) || s.mmas.any (fun m => m.inst == i) ||
  s.agents.any (fun a => a.posts.any (fun x => x.1 == i && a.h.toList.any (fun y => y.boundTo i)))

/-- R176, R178, R359, R360: the set W of a CLASP that issues now: engine commands and MMAs not resolved. A TSEND that has not
fired, still copying its block or armed, is not in it. -/
def State.claspSet (s : State) (a : Agent) (crew : Bool) : List Nat :=
  match a.cc with
  | some cc => cc.subs
  | none =>
    let mine (ag cr : Nat) : Bool := ag == a.id || (crew && cr == a.crew)
    (s.cmds.filter (fun c => mine c.agent c.crew && c.phase != .dead && !(c.kind == .tsend && !c.started))).map
      (fun c => c.inst) ++
    (s.mmas.filter (fun m => mine m.agent m.crew)).map (fun m => m.inst) ++
    (s.agents.filter (fun b => mine b.id b.crew && !b.isCc)).flatMap (fun b =>
      (b.posts.filter (fun x => x.2.2 != .tsend)).map (fun x => x.1))

/-- R176, R182: the operations that came before a CLASP which issues now: those of W, and those that had resolved. -/
def State.claspPast (s : State) (a : Agent) (crew : Bool) : List Nat :=
  s.claspSet a crew ++ s.accRes.flatMap (fun m =>
    if m.slices.isEmpty then (if m.agent == a.id || (crew && m.crew == a.crew) then [m.inst] else [])
    else (m.slices.filter (fun x => x.2 == a.id || (crew && m.crew == a.crew))).map (fun x => x.1))

/-- R360: whether an item of W still holds the CLASP. -/
def State.claspOpen (s : State) (a : Agent) (i : Nat) : Bool :=
  match a.cc with
  | some cc => cc.subs.contains i
  | none => s.isOpen i

/-- R176 to R178, R182, R358 to R360: CLASP: the set is taken when the word first issues; the wait has no timeout, and what came
before the CLASP is ordered before the group's later accesses. -/
def execClasp (g : Pred) (q : Scope) (crew : Bool) (s : State) : Host.Outcome State Fault Refusal :=
  withIssuer s (fun a sd c =>
    if a.isCc && crew then s.trap a sd c (Trap.plain Cause.illegalInstr c.raw)
    else if !scalarGuard a sd g then s.retire c
    else
      let w :=
        match sd.began with
        | some (.clasp l all) => (l, all)
        | _ => (s.claspSet a crew, s.claspPast a crew)
      let left := w.1.filter (s.claspOpen a)
      if left.isEmpty then
        let s1 := (s.acquire a true).learn [a.id] (fun m => w.2.any m.of)
        (if q = .system then s1.atSystem a else s1).retire c
      else s.stall c (.clasp left w.2))

/-- R436, R437: PFETCH changes no value that any agent reads; it raises PRIVILEGED and ACCESS only. -/
def execPfetch (g : Pred) (l1 : Bool) (c : SPair) (o : SOff) (s : State) : Host.Outcome State Fault Refusal :=
  scalarWord s g (fun a sd cu =>
    let va := scalarAddr a c o
    let l := lowLane (activeMask a sd g)
    if vaClass va = 2 then s.trap a sd cu (memTrap cu 0 Cause.access l (laneBit l) va 0)
    else if vaClass va = 3 && !a.isCc then s.trap a sd cu (memTrap cu 0 Cause.privileged l (laneBit l) va 0)
    else
      match l1 with
      | true => s.retire cu
      | false => s.retire cu)

/-- R353: CFLUSH is recorded as a store, CINV as a load; neither needs W = 1. -/
def flushKind (sub : Nat) : Kind := { sub := sub, write := false, fetch := false, remote := false }

/-- R137, R353: the classes that CFLUSH and CINV reach. -/
def flushClass (x : LaneAcc) : LaneAcc :=
  if vaClass x.va = 2 then { x with res := .bad Cause.access 0 }
  else if vaClass x.va = 3 then { x with res := .bad Cause.privileged 0 }
  else x

/-- R162: a dirty SOFT line of a page that a SNAP copy protects is not written home before the copy resolves. -/
def State.flushHeld (s : State) (w : Who) (t : Target) : Option Nat :=
  match t, w.core with
  | .ctl pa 1, some k =>
    match (s.pkg? w.pkg).bind (fun p => p.l1Find k .ctl (pa / 128)) with
    | some x => if x.dirty = 0 then none else s.snapOf .ctl pa
    | none => none
  | _, _ => none

/-- R185, R187: what a core's copy of a PRIVATE line owes goes home; the copy stays clean, or goes. -/
def State.privateLine (s : State) (pkg core line : Nat) (f : HardCopy → Option HardCopy) : State :=
  let it (c : HardCopy) : Bool := c.core == core && c.line == line
  (s.hardHome pkg (((s.pkg? pkg).map (fun p => p.hard.filter it)).getD [])).modPkg pkg (fun p =>
    { p with hard := p.hard.filterMap (fun c => if it c then f c else some c) })

/-- R186, R187: CFLUSH of a line: dirty bytes go home and the copy stays clean. -/
def State.flushLine (s : State) (w : Who) (t : Target) : State :=
  match t, w.core with
  | .ctl pa 0, some k => s.privateLine w.pkg k (pa / 128) (fun c => some { c with st := .e })
  | .ctl pa 1, some k =>
    match (s.pkg? w.pkg).bind (fun p => p.l1Find k .ctl (pa / 128)) with
    | some x => (s.l1Flush w.pkg x).l1Map w.pkg k .ctl (pa / 128) (fun x => { x with dirty := 0 })
    | none => s
  | _, _ => s

/-- R186, R187: CINV of a line: dirty bytes go home and the copy goes. -/
def State.invLine (s : State) (w : Who) (t : Target) : State :=
  match t, w.core with
  | .ctl pa 0, some k => s.privateLine w.pkg k (pa / 128) (fun _ => none)
  | .ctl pa 1, some k => s.l1Evict w.pkg k .ctl (pa / 128)
  | .ten pa, some k => s.l1Remove w.pkg k .ten (pa / 128)
  | _, _ => s

/-- R352: a word on the line that holds an address. -/
def lineWord (s : State) (g : Pred) (sub : Nat) (c : SPair) (o : SOff) (act : State → Who → Target → State) :
    Host.Outcome State Fault Refusal :=
  scalarWord s g (fun a sd cu =>
    let l := lowLane (activeMask a sd g)
    let k := flushKind sub
    s.withAccs a sd cu k [flushClass (s.laneAcc a sd k 1 (l, scalarAddr a c o))] (fun s1 ts =>
      match ts with
      | x :: _ =>
        match s1.flushHeld (s1.who a) x.2.2 with
        | some i => s1.stall cu (.snap i)
        | none => (act s1 (s1.who a) x.2.2).retire cu
      | [] => s1.retire cu))

/-- R352, R353: CFLUSH. -/
def execCflush (g : Pred) (c : SPair) (o : SOff) (s : State) : Host.Outcome State Fault Refusal :=
  lineWord s g 1 c o State.flushLine

/-- R352, R353: CINV. -/
def execCinv (g : Pred) (c : SPair) (o : SOff) (s : State) : Host.Outcome State Fault Refusal :=
  lineWord s g 0 c o State.invLine

/-- R146: the greatest length of FEMARK. -/
def femarkMax : Nat := 458752

/-- R146, R391: FEMARK sets or clears beads and changes no byte. -/
def execFemark (g : Pred) (f : Bool) (c : SPair) (x : SReg) (o : SOff) (s : State) : Host.Outcome State Fault Refusal :=
  scalarWord s g (fun a sd cu =>
    let va := scalarAddr a c o
    let n := (a.sreg x.toNat).toNat
    let l := lowLane (activeMask a sd g)
    let bad (cause : Nat) : State := s.trap a sd cu (memTrap cu 1 cause l (laneBit l) va 0)
    if n = 0 || femarkMax < n then s.trap a sd cu (Trap.plain Cause.illegalInstr cu.raw)
    else if va.toNat % 16 ≠ 0 || n % 16 ≠ 0 then bad Cause.misaligned
    else if a.isCc || vaClass va ≠ 2 then bad Cause.access
    else
      match s.padTarget (s.who a) va n with
      | some (.pad k off _) =>
        (s.modCrew k (fun cr => if f then cr.fill (beadsOf off n) else cr.drain (beadsOf off n))).retire cu
      | _ => bad Cause.access)

end Sys2Proof.Machine
end

