-- ==== Sys2Proof/Machine/Topology.lean ====
section
/-!
DEFINITION. Sys2Proof/Machine/Topology.lean: the clusters, slices and channel groups of a partition and their logical
numbers (R9, R11, R274, R275).
-/
namespace Sys2Proof.Machine

/-- The set bits of a 64-bit mask, ascending. -/
def bits64 (m : BitVec 64) : List Nat := (List.range 64).filter (fun i => m.getLsbD i)

/-- R275: the physical clusters of a partition in logical order. -/
def Pkg.clusters (p : Pkg) (part : Nat) : List Nat := bits64 (p.setRow part).clu

/-- R275: the number of logical cores of a partition. -/
def Pkg.coreCount (p : Pkg) (part : Nat) : Nat := 4 * (p.clusters part).length

/-- R275: the physical core of a logical core. -/
def Pkg.coreOf (p : Pkg) (part n : Nat) : Option Nat := ((p.clusters part)[n / 4]?).map (fun k => 4 * k + n % 4)

/-- R275: the logical cluster of a physical cluster. -/
def Pkg.logicalCluster (p : Pkg) (part k : Nat) : Nat := ((p.clusters part).takeWhile (· != k)).length

/-- R275: the logical core of a physical core. -/
def Pkg.logicalCore (p : Pkg) (part core : Nat) : Nat := 4 * p.logicalCluster part (core / 4) + core % 4

/-- R116: the partition of a VF. -/
def Vf.partNum (v : Vf) : Nat := v.cfg.part.toNat

/-- R118: whether a VF's partition runs it now. -/
def Pkg.running (p : Pkg) (vf : Nat) : Bool :=
  let q := p.part (p.vf vf).partNum
  q.owner == some vf && (q.phase == .run || q.phase == .lead)

/-- R119: whether the engines of a VF's partition serve it now. -/
def Pkg.engines (p : Pkg) (vf : Nat) : Bool := (p.part (p.vf vf).partNum).ce == some vf

/-- R118: whether a VF's engine commands may start now: not in LEAD. -/
def Pkg.enginesStart (p : Pkg) (vf : Nat) : Bool := p.engines vf && (p.part (p.vf vf).partNum).phase != .lead

/-- The partition whose clusters hold a physical cluster. -/
def Pkg.partOfCluster (p : Pkg) (k : Nat) : Option Nat :=
  (List.range 64).find? (fun i => (p.setRow i).en && (p.setRow i).clu.getLsbD k)

/-- R275: the number of channel groups of a partition. -/
def Pkg.channelGroups (p : Pkg) (part : Nat) : Nat := (bits64 (p.setRow part).hbm).length

end Sys2Proof.Machine
end

