-- ==== Sys2Proof/Machine/Coherence.lean ====
section
/-!
DEFINITION. Sys2Proof/Machine/Coherence.lean: COHSET and its transitions (R188 to R190, R362), when a TLBINV is complete (R270),
directory regions (R191), sleeping clusters (R193) and evictions (R186).
-/
namespace Sys2Proof.Machine

/-- R271, R316 step 3: a privileged word outside supervisor state. -/
def notPrivileged (a : Agent) : Bool :=
  match a.cc with
  | some cc => !cc.supervisor
  | none => true

/-- A side whose long-running word has completed goes on after it. -/
def State.sideDone (s : State) (agent : Nat) (slot : Bool) (len : Nat) : State :=
  s.modAgent agent (fun a =>
    match a.side slot with
    | some sd => a.setSide slot (some (sd.retired len))
    | none => a)

/-! ### COHSET -/

/-- R188: the partition over whose cores OWNER counts: that of the address space's VF (DEDUCED, notes/assumptions/24.md). -/
def cohPart (p : Pkg) (asid : Nat) : Nat := if asid < 128 then (p.vf asid).partNum else 0

/-- R188: the operand values that COHSET accepts on a package. -/
def cohOk (p : Pkg) (asid : Nat) (v : W) : Bool :=
  v.extractLsb' 2 6 == 0 && v.extractLsb' 16 16 == 0 &&
  (if v.extractLsb' 0 2 == 0 then decide ((v.extractLsb' 8 8).toNat < p.coreCount (cohPart p asid))
   else v.extractLsb' 8 8 == 0)

/-- R189: every cached copy of a page leaves, dirty bytes written home. -/
def State.recall (s : State) (sp : Space) (page size : Nat) : State :=
  let inPage (line : Nat) : Bool := decide (page ≤ 128 * line) && decide (128 * line < page + size)
  let flushed : State := s.pkgs.foldl (fun s p =>
    p.l1.foldl (fun s x => if decide (x.space = sp) && inPage x.line then s.l1Flush p.num x else s) s) s
  let probed : State := s.pkgs.foldl (fun s p =>
    p.hard.foldl (fun s c => if decide (sp = .ctl) && inPage c.line then (s.probe p.num c.line []).hardHome p.num [c] else s) s) flushed
  let strip (p : Pkg) : Pkg :=
    { p with
      l1 := p.l1.filter (fun x => !(decide (x.space = sp) && inPage x.line))
      hard := p.hard.filter (fun c => !(decide (sp = .ctl) && inPage c.line)) }
  { probed with pkgs := probed.pkgs.map strip }

/-- R189: whether a COHSET of this attribute to a page changes nothing. -/
def State.cohSame (s : State) (leaf : DW) (new : Nat) : Bool :=
  new == leafCoh leaf && (new != 0 || (s.ownerOf (leafPa leaf)).isSome)

/-- R189, R190, R288: a transition starts from the attribute that its leaf holds, or is complete at once. The event of a
host-assisted one has the address that COHSET named, not rounded down to its page (DESIGN CHOICE, notes/assumptions/121.md). -/
def State.cohBegin (s : State) (t : CohTr) : State :=
  let e := toDW (leNat (Memory.readN s.ctl t.leafAt 8))
  if s.cohSame e t.new then
    ({ s with cohTrs := s.cohTrs.filter (fun x => x.id != t.id) }).sideDone t.agent t.slot t.len
  else
    let host : Bool := match s.pkg? t.pkg with
      | some p => p.mp.coh
      | none => false
    let s1 : State := { s with cohTrs := s.cohTrs.map (fun x =>
      if x.id == t.id then { x with queued := false, old := leafCoh e, host := host } else x) }
    if host then
      s1.raiseHa t.pkg 3 0xFF t.va (toDW (leafCoh e + 4 * t.new + 256 * t.asid + 65536 * t.ownerOp)) t.id
    else s1

/-- R190: the oldest transitions that wait for pages which no transition holds start. -/
def State.cohWake (s : State) : State :=
  (s.cohTrs.filter (fun t => t.queued)).foldl
    (fun s t => if (s.transitionOf t.page).isSome then s else s.cohBegin t) s

/-- R189, R190: the flip: the leaf's COH rewritten, the page's translations dropped everywhere, the owner recorded; then
the next transition of the page starts. -/
def State.cohFlip (s : State) (t : CohTr) : State :=
  let s1 := s.recall .ctl t.page t.size
  let e := toDW (leNat (Memory.readN s1.ctl t.leafAt 8))
  let e1 := (e &&& ~~~(0x30 : DW)) ||| toDW (16 * t.new)
  let s2 := (s1.ownWrite t.pkg t.leafAt (toLE 8 e1.toNat)).exchange .ctl t.pkg t.leafAt (toLE 8 e1.toNat) []
  let strip (p : Pkg) : Pkg :=
    { p with
      tlb := p.tlb.filter (fun x => !(decide (vaSpace x.va = .ctl) && leafPa x.leaf == t.page))
      dirOwners := p.dirOwners.filter (fun o => o.page != t.page) }
  let s3 : State := { s2 with
    pkgs := s2.pkgs.map strip
    cohTrs := s2.cohTrs.filter (fun x => x.id != t.id) }
  let s4 := if t.new = 0 then
      s3.modPkg t.pkg (fun p => { p with dirOwners :=
        { page := t.page, size := t.size, pkg := t.pkg, core := t.owner } :: p.dirOwners })
    else s3
  (s4.sideDone t.agent t.slot t.len).cohWake

/-- R188 to R190, R362: COHSET: the side stalls until its transition has flipped the page; one that finds the page in
transition is next in the order in which it reached the directory. -/
def execCohset (g : Pred) (c : SPair) (x : SReg) (o : SOff) (s : State) : Host.Outcome State Fault Refusal :=
  withIssuer s (fun a sd cu =>
    if notPrivileged a then s.trap a sd cu (Trap.plain Cause.privileged cu.raw)
    else if !scalarGuard a sd g then s.retire cu
    else
      match s.pkg? a.pkg with
      | none => s.retire cu
      | some p =>
        let w := s.who a
        let v := a.sreg x.toNat
        let va := scalarAddr a c o
        let fails (s : State) (cause level : Nat) : State := s.trap a sd cu (memTrap cu 0 cause 0 1 va (toDW level))
        if !cohOk p w.asid v then s.trap a sd cu (Trap.plain Cause.illegalInstr cu.raw)
        else if va.extractLsb' 48 16 != 0 then fails s Cause.access 0
        else
          let s := s.readTables a.pkg (s.walkAts (vaBits va) ctlLevels w.croot)
          let bad := fails s
          match s.walkFrom .ctl (vaBits va) ctlLevels w.croot with
          | .bad cause l => bad cause l
          | .invalid l _ =>
            match s.settleWait w sd.stall va (.service l) with
            | .bad cause d => s.trap a sd cu (memTrap cu 0 cause 0 1 va d)
            | _ =>
              let r := s.faultWait w va 0 l
              r.2.stall cu r.1
          | .lost k => s.stall cu (.lost k)
          | .leaf e size at_ =>
            if leafSt e = 2 then
              match s.transitFind a.pkg (leafTidx e) with
              | some t => s.stall cu (.transit t.idx)
              | none => bad Cause.access (sizeLevel size)
            else if !s.ctlPaOk (leafPa e) then bad Cause.access (sizeLevel size)
            else
              let new_ := (v.extractLsb' 0 2).toNat
              let held := (s.transitionOf (leafPa e)).isSome
              if !held && s.cohSame e new_ then s.retire cu
              else
                let r := s.fresh
                let t : CohTr :=
                  { id := r.1, pkg := a.pkg, agent := a.id, slot := cu.slot, len := cu.len, asid := w.asid, va := va,
                    leafAt := at_, page := leafPa e, size := 2 ^ size.log2, old := leafCoh e, new := new_,
                    owner := (p.coreOf (cohPart p w.asid) (v.extractLsb' 8 8).toNat).getD 0,
                    ownerOp := (v.extractLsb' 8 8).toNat, host := p.mp.coh, queued := true }
                let s1 := ({ r.2 with cohTrs := r.2.cohTrs ++ [t] }).stall cu (.coh r.1)
                if held then s1 else s1.cohBegin t)

/-- R189, R190: COH_TRANSITION_FLIP of a transition that hardware carries out. -/
def execCohTransitionFlip (tr : Nat) (s : State) : Host.Outcome State Fault Refusal :=
  .next (match s.cohTrs.find? (fun t => t.id == tr && !t.host && !t.queued) with
    | some t => s.cohFlip t
    | none => s)

/-! ### TLBINV -/

/-- R270: a TLBINV whose engines have all passed a check point completes. -/
def State.tlbInvCheck (s : State) : State :=
  let done := s.tlbInvs.filter (fun t => t.waitFor.isEmpty)
  done.foldl (fun s t => s.sideDone t.agent t.slot t.len)
    { s with tlbInvs := s.tlbInvs.filter (fun t => !t.waitFor.isEmpty) }

/-- R228, R270: a command has passed a check point, or has ended. -/
def State.passCheck (s : State) (inst : Nat) : State :=
  if s.tlbInvs.isEmpty then s
  else
    let passed : List TlbInv := s.tlbInvs.map (fun t => { t with waitFor := t.waitFor.filter (· != inst) })
    ({ s with tlbInvs := passed }).tlbInvCheck

/-! ### Directory regions, sleep and eviction -/

/-- R191: whether a unit is quiet and its buddy is whole. -/
def Pkg.dirQuiet (p : Pkg) (now : Nat) (u : DirUnit) : Bool :=
  decide (u.quietFrom + 2 ^ p.mp.log2q.toNat ≤ now) &&
  p.dirUnits.any (fun x => x.size == u.size && x.base != u.base && x.base / (2 * u.size) == u.base / (2 * u.size))

/-- R191: DIR_REGION_MERGE: a unit that has seen no conflict for 2^LOG2Q aclk merges with its buddy. -/
def execDirRegionMerge (pkg base size : Nat) (s : State) : Host.Outcome State Fault Refusal :=
  .next (s.modPkg pkg (fun p =>
    let mine (u : DirUnit) : Bool := u.base / (2 * size) == base / (2 * size) && u.size == size
    if p.dirUnits.any (fun u => u.base == base && u.size == size && p.dirQuiet s.aclk u) then
      { p with dirUnits :=
          (if 2 * size < 65536 then [{ base := base / (2 * size) * (2 * size), size := 2 * size, quietFrom := s.aclk }]
           else []) ++ p.dirUnits.filter (fun u => !mine u) }
    else p))

/-- R193: CLUSTER_SLEEP: the cluster's M and O lines go home; its copies leave the directory. -/
def execClusterSleep (pkg cluster : Nat) (s : State) : Host.Outcome State Fault Refusal :=
  .next (
    let inCl (core : Nat) : Bool := core / 4 == cluster
    if s.agents.any (fun a => a.pkg == pkg && !a.isCc && inCl a.core) then s
    else
      let s1 := ((s.pkg? pkg).map (fun p => p.l1.filter (fun x => inCl x.core))).getD [] |>.foldl (fun s x => s.l1Flush pkg x) s
      (s1.hardDrop pkg (fun c => inCl c.core)).modPkg pkg (fun p =>
        { p with asleep := setInsert cluster p.asleep, l1 := p.l1.filter (fun x => !inCl x.core) }))

/-- R193: CLUSTER_WAKE: the cluster starts with empty L1s. -/
def execClusterWake (pkg cluster : Nat) (s : State) : Host.Outcome State Fault Refusal :=
  .next (s.modPkg pkg (fun p => { p with asleep := p.asleep.filter (· != cluster) }))

/-- R162: whether a copy's dirty bytes may not go home now. -/
def State.evictHeld (s : State) (pkg core : Nat) (sp : Space) (line : Nat) : Bool :=
  match (s.pkg? pkg).bind (fun p => p.l1Find core sp line) with
  | some x => x.dirty != 0 && (s.snapOf sp (128 * line)).isSome
  | none => false

/-- R169, R186: LINE_EVICTION: a core's copy leaves its L1; dirty bytes of a SOFT line go home, which a SNAP copy of their
page makes wait (R162). -/
def execLineEviction (pkg core : Nat) (ten : Bool) (line : Nat) (s : State) : Host.Outcome State Fault Refusal :=
  .next (
    if ten then s.l1Remove pkg core .ten line
    else if s.evictHeld pkg core .ctl line then s
    else
      (s.l1Evict pkg core .ctl line).hardDrop pkg (fun c => c.core == core && c.line == line))

end Sys2Proof.Machine
end

