-- ==== Sys2Proof/Machine/Scoreboard.lean ====
section
/-!
DEFINITION. Sys2Proof/Machine/Scoreboard.lean: what the scoreboard sees of a word (R84, R112, R355): the scalar registers that it
reads or writes, and the handle that it waits for.
-/
namespace Sys2Proof

/-- `n` scalar registers from one on. -/
def scalarRegs {k : Nat} (r : BitVec k) (n : Nat) : List Nat := (List.range n).map (r.toNat + ·)

/-- R307: the two registers of a scalar pair field. -/
def scalarPair (c : SPair) : List Nat := [2 * c.toNat, 2 * c.toNat + 1]

def VSrc.scalars (b : VSrc) (n : Nat) : List Nat :=
  match b with
  | .s r => scalarRegs r n
  | .v _ => []
  | .lit _ => []

def SSrc.scalars (b : SSrc) (n : Nat) : List Nat :=
  match b with
  | .s r => scalarRegs r n
  | .lit _ => []

def SOff.scalars (o : SOff) : List Nat :=
  match o with
  | .reg r => scalarRegs r 1
  | .ext _ r => r.toList.flatMap (fun r => scalarRegs r 1)

def SDst.scalars (d : SDst) : List Nat :=
  match d with
  | .s r => scalarRegs r 1
  | .v _ => []

/-- R234: the pairs that the extension word of an MMA names. -/
def mmaPairs (ext : W) : List Nat :=
  (if ext.getLsbD 1 then scalarPair (ext.extractLsb' 2 5) else []) ++ (if ext.getLsbD 7 then scalarPair (ext.extractLsb' 8 5) else [])

/-- The scalar registers that a word reads or writes, CALL's link pair included (R349). -/
def Instr.scalars (i : Instr) : List Nat :=
  match i with
  | .iaddV _ _ _ b | .isubV _ _ _ b | .imulV _ _ _ b | .imulhIV _ _ _ b | .imulhNV _ _ _ b | .imadV _ _ _ b
  | .iminIV _ _ _ b | .iminNV _ _ _ b | .imaxIV _ _ _ b | .imaxNV _ _ _ b | .iabsV _ _ b | .andV _ _ _ b
  | .orV _ _ _ b | .xorV _ _ _ b | .notV _ _ b | .shlV _ _ _ b | .shrV _ _ _ b | .sarV _ _ _ b | .rotV _ _ _ b
  | .popcV _ _ b | .clzV _ _ b | .brevV _ _ b | .bfeNV _ _ _ b | .bfeIV _ _ _ b | .bfiV _ _ _ b | .selV _ _ _ b
  | .movV _ _ b | .icmpV _ _ _ _ b | .fcmpF32 _ _ _ _ b | .faddF32V _ _ _ b | .faddH2 _ _ _ b | .faddB2 _ _ _ b
  | .fsubF32 _ _ _ b | .fmulF32V _ _ _ b | .fmulH2 _ _ _ b | .fmulB2 _ _ _ b | .ffmaF32V _ _ _ b | .ffmaH2 _ _ _ b
  | .ffmaB2 _ _ _ b | .fminF32 _ _ _ b | .fmaxF32 _ _ _ b | .fdot2 _ _ _ b | .frcp _ _ b | .frsq _ _ b | .fsqrt _ _ b
  | .fex2 _ _ b | .flg2 _ _ b | .fsin _ _ b | .fcos _ _ b | .qnt _ _ _ b | .unpk _ _ _ b | .pack _ _ _ b
  | .shflIdx _ _ _ b | .shflXor _ _ _ b | .shflUp _ _ _ b | .shflDown _ _ _ b | .pmovPut _ b | .pmovNz _ _ b
  | .pmovMask _ _ b =>
    b.scalars 1
  | .iaddS _ d a b | .isubS _ d a b | .imulS _ d a b | .imulhIS _ d a b | .imulhNS _ d a b | .imadS _ d a b
  | .iminIS _ d a b | .iminNS _ d a b | .imaxIS _ d a b | .imaxNS _ d a b | .andS _ d a b | .orS _ d a b
  | .xorS _ d a b | .shlS _ d a b | .shrS _ d a b | .sarS _ d a b | .rotS _ d a b | .bfeNS _ d a b | .bfeIS _ d a b
  | .bfiS _ d a b | .selS _ d a b | .faddF32S _ d a b | .fmulF32S _ d a b | .ffmaF32S _ d a b =>
    scalarRegs d 1 ++ scalarRegs a 1 ++ b.scalars 1
  | .iaddDV _ _ _ b | .isubDV _ _ _ b | .fcmpF64 _ _ _ _ b | .faddF64 _ _ _ b | .fsubF64 _ _ _ b | .fmulF64 _ _ _ b
  | .ffmaF64 _ _ _ b | .fminF64 _ _ _ b | .fmaxF64 _ _ _ b =>
    b.scalars 2
  | .iaddDS _ d a b | .isubDS _ d a b =>
    scalarRegs d 2 ++ scalarRegs a 2 ++ b.scalars 2
  | .iabsS _ d b | .notS _ d b | .popcS _ d b | .clzS _ d b | .brevS _ d b | .movS _ d b =>
    scalarRegs d 1 ++ b.scalars 1
  | .icmpS _ _ _ a b =>
    scalarRegs a 1 ++ b.scalars 1
  | .ballot _ d _ | .vred _ d _ _ | .htest _ _ d | .getfmt _ d =>
    scalarRegs d 1
  | .vminxN _ d _ b | .vminxI _ d _ b | .vminxF _ d _ b | .vmaxxN _ d _ b | .vmaxxI _ d _ b | .vmaxxF _ d _ b =>
    scalarRegs d 2 ++ b.scalars 1
  | .ldB8 _ _ _ c _ _ | .ldX8 _ _ _ c _ _ | .ldB16 _ _ _ c _ _ | .ldX16 _ _ _ c _ _ | .ldB32 _ _ _ c _ _
  | .ldB64 _ _ _ c _ _ | .ldB128 _ _ _ c _ _ | .stB8 _ _ _ c _ _ | .stB16 _ _ _ c _ _ | .stB32 _ _ _ c _ _
  | .stB64 _ _ _ c _ _ | .stB128 _ _ _ c _ _ | .atomAdd _ _ c _ _ | .atomAnd _ _ c _ _ | .atomOr _ _ c _ _
  | .atomXor _ _ c _ _ | .atomMinI _ _ c _ _ | .atomMinN _ _ c _ _ | .atomMaxI _ _ c _ _ | .atomMaxN _ _ c _ _
  | .atomExch _ _ c _ _ | .atomFadd _ _ c _ _ | .atomFmax _ _ c _ _ | .atomFmin _ _ c _ _ | .redAdd _ _ c _ _
  | .redAnd _ _ c _ _ | .redOr _ _ c _ _ | .redXor _ _ c _ _ | .redMinI _ _ c _ _ | .redMinN _ _ c _ _
  | .redMaxI _ _ c _ _ | .redMaxN _ _ c _ _ | .redExch _ _ c _ _ | .redFadd _ _ c _ _ | .redFmax _ _ c _ _
  | .redFmin _ _ c _ _ | .cas _ _ c _ _ | .casD _ _ c _ _ | .gtswap _ _ c _ _ | .gtswapD _ _ c _ _ | .vswap _ _ c _ _
  | .tagswap _ _ c _ _ | .copy _ c _ | .gather _ c _ | .scatter _ c _ | .mgt _ c _ | .coll _ c _ | .tsend _ c _
  | .ctrset _ c _ | .ctradd _ c _ | .ctrrd _ c _ | .chsend _ c _ | .chrecv _ c _ | .hsave _ c _ | .hload _ c _ =>
    scalarPair c
  | .ldB32Scalar _ _ _ c x o | .stB32Scalar _ _ _ c x o | .femark _ _ c x o | .cohset _ c x o | .binit _ c x o =>
    scalarPair c ++ scalarRegs x 1 ++ o.scalars
  | .ldB64Scalar _ _ _ c x o | .stB64Scalar _ _ _ c x o =>
    scalarPair c ++ scalarRegs x 2 ++ o.scalars
  | .pfetch _ _ c o | .cflush _ c o | .cinv _ c o | .bar _ c o =>
    scalarPair c ++ o.scalars
  | .lkread _ _ a | .lkrst _ a | .brx _ a | .setfmt _ a | .swrite _ _ a =>
    scalarRegs a 1
  | .lkbind _ d a =>
    scalarRegs d 1 ++ scalarRegs a 1
  | .mma da db _ _ _ =>
    scalarPair da ++ scalarPair db
  | .mmaX da db _ _ _ ext =>
    scalarPair da ++ scalarPair db ++ mmaPairs ext
  | .mkdesc _ d a b =>
    scalarRegs d 1 ++ scalarRegs a 2 ++ b.scalars 1
  | .hwait _ _ d =>
    (d.toList.flatMap (fun r => scalarRegs r 1))
  | .call _ _ =>
    [62, 63]
  | .ret _ =>
    [62]
  | .sread _ _ d =>
    d.scalars
  | .tlbinv _ _ d a =>
    scalarRegs d 1 ++ scalarRegs a 2
  | _ => []

/-- R84, R402: the handle that a word waits for while it is PENDING, with the word's guard; MMA has none. -/
def Instr.handle (i : Instr) : Option (Pred × Hnd) :=
  match i with
  | .mma _ _ _ h _ | .mmaX _ _ _ h _ _ => some (0, h)
  | .copy g _ h | .gather g _ h | .scatter g _ h | .mgt g _ h | .coll g _ h | .tsend g _ h => some (g, h)
  | .hwait g h _ | .hload g _ h | .hmov g h _ => some (g, h)
  | _ => none

end Sys2Proof
end

