-- ==== Sys2Proof/Machine/Eligible.lean ====
section
/-!
DEFINITION. Sys2Proof/Machine/Eligible.lean: when a side's wait is over (R84, R92, R94, R144, R196, R302) and which sides
are eligible to issue (R77, R100, R112).
-/
namespace Sys2Proof.Machine

/-! ### Channels (R91 to R95) -/

/-- R92: whether a slot is free. -/
def Slot.isFree (x : Slot) : Bool :=
  match x with
  | .free _ => true
  | _ => false

/-- The free slots of a ring. -/
def Ring.freeSlots (r : Ring) : Nat := (r.slots.filter Slot.isFree).length

/-- The ring of a crew for a channel. -/
def Crew.ring? (c : Crew) (ch : Nat) : Option Ring := c.rings.find? (fun r => r.chan == ch)

/-- R92: the crews of a channel's consumer stage in a launch. -/
def State.consumers (s : State) (launch dst : Nat) : List Crew :=
  s.crews.filter (fun c => c.launch == launch && c.stage == dst)

/-- R92: whether a consumer ring of a channel has a free slot. -/
def State.ringRoom (s : State) (launch dst ch : Nat) : Bool :=
  (s.consumers launch dst).any (fun c =>
    match c.ring? ch with
    | some r => r.freeSlots != 0
    | none => false)

/-- R94: whether a slot holds a complete message. -/
def Slot.isMsg (x : Slot) : Bool :=
  match x with
  | .msg _ _ => true
  | _ => false

/-- R95: a channel is closed when every group of its producer stage has ended. -/
def State.chanClosed (s : State) (launch src : Nat) : Bool :=
  match s.launch? launch with
  | none => true
  | some l =>
    !(s.agents.any (fun a => !a.isCc && a.launch == launch && a.stage == src)) &&
    (match l.stages[src]? with
     | some st => decide (st.total ≤ st.next)
     | none => true)

/-- The declared channel of a launch. -/
def State.chan? (s : State) (launch ch : Nat) : Option Chan := (s.launch? launch).bind (fun l => l.chans[ch]?)

/-! ### Engine queues (R196) -/

/-- R196, R122: the commands that occupy an engine's queue: a COPY set counts once; those of a VF that the engines do
not serve are in its saved context. -/
def State.queued (s : State) (pkg eng : Nat) : Nat :=
  let here (vf : Nat) : Bool := 128 ≤ vf || (match s.pkg? pkg with
    | some p => p.engines vf
    | none => false)
  let mine := s.cmds.filter (fun c => c.pkg == pkg && c.eng == eng && here c.vf &&
    (c.phase == .joining || c.phase == .queued || c.phase == .running))
  (mine.map (fun c => if c.kind == .copy then c.set else c.inst)).eraseDups.length

/-- `n` bytes of a command block from an offset, as an unsigned number (R2). -/
def blkU (b : List Byte) (o n : Nat) : Nat := leNat ((b.drop o).take n)

/-- R199: NSLICE. -/
def blkNslice (b : List Byte) : Nat := blkU b 3 1

/-- R205: the open set that a slice joins. -/
def State.openSet (s : State) (crew h n : Nat) : List Cmd :=
  s.cmds.filter (fun c => c.kind == .copy && c.phase == .joining && c.crew == crew && c.hnum == h && blkNslice c.blk == n)

/-- R196, R205: whether a set with this handle and NSLICE is open, so that a slice of an agent takes no entry of its own. -/
def State.mayJoin (s : State) (a : Agent) (set : Option (Nat × Nat)) : Bool :=
  set.any (fun x => !(s.openSet a.crew x.1 x.2).isEmpty)

/-- R196: the entries of a queue. -/
def queueRoom (eng : Nat) : Nat := if eng < 64 then 32 else 256

/-- R113: the entries of a reservation table. -/
def tableRoom : Nat := 16

/-- R113: requests that occupy a cluster's reservation table. -/
def State.posted (s : State) (pkg cluster : Nat) : Nat :=
  (s.mmas.filter (fun m => m.pkg == pkg && m.cluster == cluster && !m.saved)).length

/-! ### Teams (R232, R244, R431) -/

/-- R244, R431: whether the eight ready bits of a team are set; a position without a group, or whose group has ended,
counts as set. -/
def Crew.teamReady (c : Crew) (team : Nat) : Bool :=
  (List.range 8).all (fun i =>
    let g := 8 * team + i
    c.ready.getLsbD g || c.ended.getLsbD g || decide (c.ngroups ≤ g))

/-! ### Waits -/

/-- R93: a side whose CHSEND has issued and is not accepted. -/
def Side.sending (sd : Side) : Bool :=
  match sd.began with
  | some (.chsend _ _ _) => true
  | _ => false

/-- R94: whether a side has an earlier send to this channel, issued and not yet accepted. -/
def Side.sendsBefore (ch seq : Nat) (sd : Side) : Bool :=
  match sd.began with
  | some (.chsend c n _) => c == ch && decide (n < seq)
  | _ => false

/-- R94: whether an earlier send of a group to this channel is still to be accepted. -/
def Agent.sendsBefore (a : Agent) (ch seq : Nat) : Bool := a.prim.any (Side.sendsBefore ch seq) || a.sec.any (Side.sendsBefore ch seq)

/-- R355: whether a side waits in a CHRECV that will write this scalar pair. -/
def Side.receives (n : Nat) (sd : Side) : Bool :=
  match sd.began with
  | some (.chrecv _ k) => k == n
  | _ => false

/-- R93, R302: whether the waits of a header hold; CHN waits for a send that the sibling side has not had accepted. Stores are
performed and sends accepted when they issue (DESIGN CHOICE, notes/assumptions/9.md). -/
def State.waitsMet (s : State) (a : Agent) (hdr : W) : Bool :=
  (List.range 8).all (fun n => !(hdr.getLsbD (8 + n) && (a.handle n).isPending)) &&
  (!hdr.getLsbD 16 ||
    (match s.crew? a.crew with
     | some c => c.teamReady (a.grp / 8)
     | none => true)) &&
  (!hdr.getLsbD 18 || !(a.prim.any Side.sending || a.sec.any Side.sending))

/-- Whether what a stalled side waits for has come, so that its word may issue again. -/
def State.stallCleared (s : State) (a : Agent) (w : Stall) : Bool :=
  match w with
  | .waits hdr => s.waitsMet a hdr
  | .handle h => !(a.handle h).isPending
  | .hwait h => !(a.handle h).isPending
  | .beads k bs =>
    match s.crew? k with
    | some c => bs.all (fun b => c.full.contains b)
    | none => true
  | .queue e set => decide (s.queued a.pkg e < queueRoom e) || s.mayJoin a set
  | .chsend ch seq _ =>
    !a.sendsBefore ch seq &&
    (match s.chan? a.launch ch with
     | some c => s.ringRoom a.launch c.dst ch
     | none => true)
  | .pair n => !(a.prim.any (Side.receives n) || a.sec.any (Side.receives n))
  | .told _ _ => true
  | .chrecv ch _ =>
    match s.chan? a.launch ch, (s.crew? a.crew).bind (fun c => c.ring? ch) with
    | some c, some r => r.slots.any Slot.isMsg || s.chanClosed a.launch c.src
    | _, _ => true
  | .clasp l _ => l.all (fun i => !s.claspOpen a i)
  | .service r =>
    match s.pkg? a.pkg with
    | some p => p.faults.all (fun f => f.id != r || f.failed)
    | none => true
  | .room =>
    match s.pkg? a.pkg with
    | some p => decide ((p.faults.filter (fun f => !f.failed)).length < faultRoom)
    | none => true
  | .transit i => (s.transitFind a.pkg i).isNone
  | .snap c => !(s.cmds.any (fun x => x.inst == c))
  | .table k => decide (s.posted a.pkg k < tableRoom)
  | .coh t => s.cohTrs.all (fun x => x.id != t)
  | .tlbinv _ => false
  | .barrier _ _ _ => false
  | .woken _ => false
  | .lost p => !s.promoting.contains p
  | .route n =>
    match s.pkg? a.pkg with
    | some p => !(p.unreach.any (fun x => x.1 == n))
    | none => true
  | .ingress n i =>
    match s.pkg? n with
    | some p => !p.moves i
    | none => true
  | .posting _ _ _ _ _ => true

/-! ### Headers that have not been tried -/

/-- R136, R303, R306: the check of a fetch of one word; code lies in the two translated classes, and the system class is reached from
supervisor state only. -/
def State.fetchCheck (s : State) (w : Who) (va : DW) : Checked :=
  if vaClass va = 3 ∧ !w.supervisor then .bad Cause.privileged 0
  else if 2 ≤ vaClass va then .bad Cause.access 0
  else s.checkAddr w Kind.fetchCode va 4

/-- The space and physical address of a fetch's target. -/
def Target.code (t : Target) : Option (Space × Nat) :=
  match t with
  | .ctl pa _ => some (.ctl, pa)
  | .ten pa => some (.ten, pa)
  | .pad _ _ _ => none
  | .mmio _ => none

/-- R133: the physical page that an address translates to: its base and its size. -/
def State.pageAt (s : State) (w : Who) (va : DW) : Nat × Nat :=
  match s.lookup w va with
  | .leaf e size _ => (leafPa e, 2 ^ size.log2)
  | _ => (0, 0)

/-- The word at a code address where it can be read, without effect on the state. -/
def State.peekWord (s : State) (w : Who) (va : DW) : Option W :=
  match s.fetchCheck w va with
  | .ok t => (t.code).map (fun x => BitVec.ofNat 32 (leNat (s.overEntries t (s.homeRead x.1 x.2 4))))
  | _ => none

/-- R306: the page of an address as a code page from a length of the log of writes on. Before a page-fault service (R266) or a
return copy (R159) mapped it, what was written to it was no write of a code page (DEDUCED, notes/assumptions/102.md). -/
def State.codePage (s : State) (mark : Nat) (w : Who) (va : DW) : CodePage :=
  let sp := vaSpace va
  let ats := s.walkAts (vaBits va) (if sp = .ten then tenLevels else ctlLevels) (if sp = .ten then w.troot else w.croot)
  let page := s.pageAt w va
  { place := sp.place, base := page.1, size := page.2, leaf := (ats.getLast?).getD 0,
    since := ((s.served.filter (fun x => ats.contains x.1)).map (fun x => x.2)).foldl max mark }

/-- R306: whether a page of code has been written while the launch that fetches, or another that has fetched from the page, ran; of
one that has completed, `State.spoiled` keeps it. A control core fetches for no launch. -/
def State.codeLate (s : State) (launch : Nat) (w : Who) (va : DW) : Bool :=
  let own : Bool :=
    match s.launch? launch with
    | some l =>
      let q := s.codePage l.mark w va
      s.wroteSince q.since q.place q.base q.size || s.wroteMapped l.mark q
    | none => false
  let q := s.codePage 0 w va
  own || s.spoiled.any q.meets || s.launches.any (fun m => (s.spoils m).any q.meets)

/-- R306: a launch has fetched from the page of an address. What it found written of a page that its leaf mapped before stays
spoiled. -/
def State.noteCode (s : State) (launch : Nat) (w : Who) (va : DW) : State :=
  match s.launch? launch with
  | some l =>
    let q := s.codePage l.mark w va
    if l.codePages.contains q then s
    else
      { s.modLaunch launch (fun l => { l with codePages := q :: l.codePages.filter (fun x => x.leaf != q.leaf) }) with
        spoiled := (s.spoils l).filter (fun x => x.leaf == q.leaf) ++ s.spoiled }
  | none => s

/-- R112, R302: whether a side stands at a header whose waits are not met: the group is not eligible. A header that
cannot be read, or whose words are unpredictable (R306), is tried. -/
def State.headerHeld (s : State) (a : Agent) (sd : Side) : Bool :=
  let w := s.who a
  sd.pt.pos == 0 && !s.codeLate a.launch w sd.pt.hdr &&
  (match s.peekWord w sd.pt.hdr with
   | some h => (decodeHeader h).isSome && !s.waitsMet a h
   | none => false)

/-- R77: the side whose trap handler runs. -/
def Agent.handling (a : Agent) (slot : Bool) : Bool :=
  match a.side slot with
  | some sd => sd.inHandler
  | none => false

/-- R112, R118: whether an agent's VF runs in its partition; a control core that is not halted always runs. -/
def State.runs (s : State) (a : Agent) : Bool :=
  match a.cc with
  | some cc => !cc.halted
  | none =>
    !a.saved &&
    (match s.pkg? a.pkg with
     | some p => p.running a.vf
     | none => false)

/-- R305: the next word of a side that is not stalled, as far as it can be known without effect on the state. -/
def State.nextInstr (s : State) (a : Agent) (sd : Side) : Option Instr :=
  let w := s.who a
  let known (va : DW) : Option W :=
    if s.codeLate a.launch w va then none else s.peekWord w va
  let from_ (cls : Cls) (left : Nat) (va : DW) : Option Instr :=
    (known va).bind (fun x =>
      match decode cls x (if 1 < left then known (va + 4) else none) with
      | .ok i _ => some i
      | _ => none)
  if sd.pt.pos = 0 then ((known sd.pt.hdr).bind decodeHeader).bind (fun h => from_ h.cls h.count (sd.pt.hdr + 4))
  else from_ sd.pt.cls (sd.pt.count + 1 - sd.pt.pos) sd.pt.addr

/-- R112, R355: the scalar pair that a word touches and that a CHRECV of the sibling side still has to write. -/
def Agent.pairHeld (a : Agent) (slot : Bool) (i : Instr) : Option Nat :=
  (a.side (!slot)).bind (fun sd =>
    match sd.began with
    | some (.chrecv _ n) => if i.scalars.any (fun r => r / 2 == n) then some n else none
    | _ => none)

/-- R364, R366: the instance that an engine word which names this handle goes on with: one bound by this word itself, or by an
engine word of the group that a trap has taken away before its block was copied. -/
def State.postOf (s : State) (a : Agent) (sd : Side) (h : Nat) : Option (Nat × Option DW) :=
  match sd.began, a.handle h with
  | some (.posting k i _ _ va), _ => if k = h then some (i, some va) else none
  | _, .pending i false =>
    if (s.cmd? i).isNone && (s.mma? i).isNone && !(a.posts.any (fun x => x.1 == i)) then some (i, none) else none
  | _, _ => none

/-- R84, R223: whether the engine word that a side waits in has been cancelled. -/
def Agent.postOver (a : Agent) (sd : Side) : Bool :=
  match sd.began with
  | some (.posting h i _ _ _) => !(a.handle h).boundTo i
  | _ => false

/-- R84, R112: whether the operands of the word that a side has still to try are not free: it names a PENDING handle under a true
guard, or a scalar pair that the sibling's CHRECV covers. -/
def State.wordHeld (s : State) (a : Agent) (slot : Bool) (sd : Side) : Bool :=
  sd.began.isNone &&
  (match s.nextInstr a sd with
   | some i => i.handle.any (fun x => scalarGuard a sd x.1 && (a.handle x.2.toNat).isPending &&
      (s.postOf a sd x.2.toNat).isNone) || (a.pairHeld slot i).isSome
   | none => false)

/-- R77, R100, R112: whether a side may be tried now: its word issues, or stalls without having issued. While the sibling's
handler runs, a word that had issued before may still complete (DEDUCED, notes/assumptions/96.md). -/
def State.ready (s : State) (a : Agent) (slot : Bool) : Bool :=
  match a.side slot with
  | none => false
  | some sd =>
    s.runs a && sd.hold.isNone && (!(a.handling (!slot)) || sd.began.isSome) &&
    (sd.stall.all (s.stallCleared a) || a.postOver sd) &&
    !s.headerHeld a sd

/-- R100, R112: whether a side is eligible. -/
def State.eligible (s : State) (a : Agent) (slot : Bool) : Bool :=
  s.ready a slot && !((a.side slot).any (s.wordHeld a slot))

/-- R100: the sides, other than the yielding one, that share its scheduler and are eligible now. -/
def State.eligibleMates (s : State) (a : Agent) (slot : Bool) : List (Nat × Bool) :=
  (s.agents.filter (fun x => x.pkg == a.pkg && x.isCc == a.isCc && x.core == a.core && x.sched == a.sched)).flatMap
    (fun x => [false, true].filterMap (fun k =>
      if (x.id == a.id && k == slot) || !s.eligible x k then none else some (x.id, k)))

end Sys2Proof.Machine
end

