-- ==== Sys2Proof/Machine/Sides.lean ====
section
/-!
DEFINITION. Sys2Proof/Machine/Sides.lean: how the slots of a group are refilled and its sides merge (R72, R73, R80), the
end of a side (R74), and the arrival at a barrier word (R81 to R83, R340).
-/
namespace Sys2Proof.Machine

/-! ### Regang and refill -/

/-- R72: the side that two sides which regang become. Neither's hold under YIELD stays (DESIGN CHOICE,
notes/assumptions/71.md: the spec does not say what becomes of it). -/
def Side.merge (p q : Side) : Side :=
  { p with mask := p.mask ||| q.mask, pt := ClausePt.at p.pt.hdr, fmt := p.fmt ||| (q.fmt &&& 0xF0000), stall := none,
           began := none, ahead := false, hold := none, waited := 0, starved := false }

/-- R72: whether a side stands at a clause header before issuing its first word. A first word that has stalled is still to issue,
but for one that waits once it has issued: HWAIT, CHSEND, CHRECV, CLASP and engine words (DEDUCED, notes/assumptions/93.md). -/
def Side.atHeader (sd : Side) : Bool := sd.pt.pos == 0 || (sd.ahead && sd.began.isNone)

/-- R72: two live sides stand at one header before its first word, and neither is in handler. -/
def Agent.canRegang (a : Agent) : Bool :=
  match a.prim, a.sec with
  | some p, some q => p.atHeader && q.atHeader && p.pt.hdr == q.pt.hdr && !p.inHandler && !q.inHandler
  | _, _ => false

/-- R72: the regang of the two live sides. -/
def Agent.regang (a : Agent) : Agent :=
  match a.prim, a.sec with
  | some p, some q => { a with prim := some (p.merge q), sec := none }
  | _, _ => a

/-- R71: the side that a popped entry gives. -/
def Entry.side (e : Entry) : Side := { Side.at e.mask e.pt.hdr e.fmt with pt := e.pt }

/-- R73: the most recently pushed entry that is not parked, taken from the stack. -/
def popUnparked : List Entry → Option (Entry × List Entry)
  | [] => none
  | e :: r =>
    if e.park.isNone then some (e, r)
    else
      match popUnparked r with
      | some x => some (x.1, e :: x.2)
      | none => none

/-- R73 rule 1: a live secondary side moves to an empty primary slot. -/
def Agent.promote (a : Agent) : Agent :=
  match a.prim with
  | none => { a with prim := a.sec, sec := none }
  | some _ => a

/-- R73 rule 2, R72: one pop into the first empty slot, with the regang that follows at once. -/
def Agent.popOne (a : Agent) : Agent :=
  match popUnparked a.stack with
  | none => a
  | some x =>
    if a.prim.isNone then { a with prim := some x.1.side, stack := x.2 }
    else if a.sec.isNone then
      let b := { a with sec := some x.1.side, stack := x.2 }
      if b.canRegang then b.regang else b
    else a

/-- R73 rules 1 and 2. -/
def Agent.refill (a : Agent) : Agent := (List.range a.stack.length).foldl (fun a _ => a.promote.popOne) a.promote

/-! ### The arrival at a barrier word -/

/-- R81, R339: the barrier word that an address names, or the cause that it raises. -/
def State.barCheck (s : State) (w : Who) (va : DW) : Checked :=
  if va.toNat % 8 ≠ 0 then .bad Cause.misaligned 0
  else if w.cc || vaClass va ≠ 2 then .bad Cause.access 0
  else
    match s.padTarget w va 8 with
    | some t => .ok t
    | none => .bad Cause.access 0

/-- R82: the agents with a side that waits at a barrier word. -/
def State.waitersAt (s : State) (crew off : Nat) : List Nat :=
  let at_ (x : Option Side) : Bool := x.any (fun sd =>
    match sd.stall with
    | some (.barrier k o _) => k == crew && o == off
    | _ => false)
  (s.agents.filter (fun a => at_ a.prim || at_ a.sec)).map (fun a => a.id)

/-- R82: every side that waits at a barrier word is woken. -/
def State.wake (s : State) (crew off : Nat) : State :=
  let up (x : Option Side) : Option Side :=
    x.map (fun sd =>
      match sd.stall with
      | some (.barrier k o gang) => if k = crew ∧ o = off then { sd with stall := some (.woken gang) } else sd
      | _ => sd)
  let each (a : Agent) : Agent := { a with prim := up a.prim, sec := up a.sec }
  { s with agents := s.agents.map each }

/-- R82: the barrier word after an arrival that it allows, with whether the phase is complete. -/
def arriveWord (w : DW) : Option (DW × Bool) :=
  let e := (w.extractLsb' 0 16).toNat
  let n := (w.extractLsb' 16 16).toNat
  if e = 0 || e < n + 1 || w.extractLsb' 48 16 != 0 then none
  else if n + 1 = e then some (toDW (e + 2 ^ 32 * (((w.extractLsb' 32 16).toNat + 1) % 2 ^ 16)), true)
  else some (w + 0x10000, false)

/-- R82, R83, R340: a group arrives at the word of its BAR; `c` names its one side, which stands at the BAR. -/
def State.arrive (s : State) (a : Agent) (sd : Side) (c : Cursor) (m : W) (base : SPair) (off : SOff) : State :=
  let va := scalarAddr a base off
  let l := lowLane m
  match s.barCheck (s.who a) va with
  | .bad cause _ => s.trap a sd c (memTrap c 4 cause l (laneBit l) va 0)
  | .ok (.pad k o gang) =>
    if s.targetPoisoned (.pad k o gang) 8 && a.errtrap then
      s.trap a sd c (memTrap c 4 Cause.poison l (laneBit l) va 0)
    else
      match arriveWord (toDW (leNat (s.homeReadT (.pad k o gang) 8))) with
      | none => s.trap a sd c (Trap.plain Cause.barrier (BitVec.ofNat 32 o))
      | some (w, done) =>
        let s1 := (s.homeWriteT (.pad k o gang) (toLE 8 w.toNat)).barTell a.id k o
        if done then (((s1.wake k o).acquire a gang).barLearn (a.id :: s1.waitersAt k o) k o).retire c
        else s1.stall c (.barrier k o gang)
  | _ => s

/-! ### A group whose sides are all parked, and the end of a group -/

/-- R80: parked at the same word of one kind. -/
def Entry.sameAs (e f : Entry) : Bool :=
  e.pt.hdr == f.pt.hdr && e.pt.pos == f.pt.pos && e.park == f.park

/-- R80: the union side, still at the word at which its entries are parked; fmt [11:0] is that of the side with the
lowest lane. -/
def mergeParked (e : Entry) (es : List Entry) : Side :=
  let m := es.foldl (fun m x => m ||| x.mask) e.mask
  let l := lowLane m
  let low := ((e :: es).find? (fun x => x.mask.getLsbD l)).getD e
  let flags := es.foldl (fun f x => f ||| (x.fmt &&& 0xF0000)) (e.fmt &&& 0xF0000)
  { Side.at m e.pt.hdr ((low.fmt &&& 0xFFF) ||| flags) with pt := e.pt }

/-- R80: a group all of whose sides are parked resolves. -/
def State.resolveParked (s : State) (a : Agent) (e : Entry) (es : List Entry) : State :=
  if es.all (fun x => x.sameAs e) then
    let sd := mergeParked e es
    let b := { a with prim := some sd, sec := none, stack := [] }
    let c : Cursor := { agent := a.id, slot := false, raw := 0, len := e.len, left := false }
    match e.park with
    | some (.bar base off) => (s.setAgent b).arrive b sd c sd.mask base off
    | _ => (s.setAgent b).retire c
  else
    let b := { a with prim := some e.side, sec := none, stack := es }
    (s.setAgent b).takeTrap a.id false e.pt e.len (Trap.plain Cause.barrier 0xFFFFFFFF)

/-- R100: the sides of an agent that holds have noted, renamed; one that is gone is noted no longer. -/
def Hold.renote (h : Hold) (id : Nat) (f : Bool → Option Bool) : Hold :=
  { h with noted := (h.noted.filterMap (fun x => if x.1 = id then (f x.2).map (fun k => (id, k)) else some x)).eraseDups }

/-- R100: the holds of every side after an agent's sides have changed slots. -/
def State.renote (s : State) (id : Nat) (f : Bool → Option Bool) : State :=
  let up (x : Option Side) : Option Side := x.map (fun sd => { sd with hold := sd.hold.map (fun h => h.renote id f) })
  let each (a : Agent) : Agent :=
    if [a.prim, a.sec].any (fun x => x.any (fun sd => sd.hold.any (fun h => h.noted.any (fun y => y.1 == id)))) then
      { a with prim := up a.prim, sec := up a.sec }
    else a
  { s with agents := s.agents.map each }

/-- R73: where a side of an agent with these slots stands after the refill; a side that has left stands nowhere. -/
def Agent.slotAfter (a : Agent) (k : Bool) : Option Bool :=
  if k then (if a.sec.isNone then none else some a.prim.isSome) else (if a.prim.isNone then none else some false)

/-- R73: the side that issues, if it is an agent's, has left its slot. -/
def State.leaveSlot (s : State) (id : Nat) : State :=
  { s with cur := s.cur.map (fun c => if c.agent = id then { c with left := true } else c) }

/-- R73: the slots of a group after one has freed: refilled, resolved (R80), or the group ends (R61). -/
def State.settle (s : State) (a : Agent) : State :=
  let b := a.refill
  ((match b.prim, b.stack with
    | some _, _ => s.setAgent b
    | none, e :: es => s.resolveParked b e es
    | none, [] => (s.setAgent b).endGroup a.id).renote a.id a.slotAfter).leaveSlot a.id

/-- R78, R79: a side parks at its REJOIN or BAR. -/
def State.park (s : State) (a : Agent) (sd : Side) (c : Cursor) (p : Park) : State :=
  let e : Entry := { pt := sd.pt, len := c.len, park := some p, mask := sd.mask, fmt := sd.fmt }
  s.settle { (a.setSide c.slot none) with stack := e :: a.stack }

/-- R74: the sticky flags of a side that loses its last lane go to every side and entry that remains. -/
def Agent.spread (a : Agent) (fmt : W) : Agent :=
  let f := fmt &&& 0xF0000
  let up (x : Option Side) : Option Side := x.map (fun sd => { sd with fmt := sd.fmt ||| f })
  { a with prim := up a.prim, sec := up a.sec, stack := a.stack.map (fun e => { e with fmt := e.fmt ||| f }) }

/-- R377: lanes leave a side and the group. -/
def State.leave (s : State) (a : Agent) (sd : Side) (c : Cursor) (m : W) : State :=
  let left := sd.mask &&& ~~~m
  if left = 0 then s.settle ((a.setSide c.slot none).spread sd.fmt)
  else (s.setAgent (a.setSide c.slot (some { sd with mask := left }))).retire c

/-- R69, R78: whether a side is its group's only one, with nothing on the stack. -/
def Agent.alone (a : Agent) (slot : Bool) : Bool := (a.side (!slot)).isNone && a.stack.isEmpty

/-! ### The events of issue -/

/-- R82: whether a side has been woken, with the form of the address it waited at. -/
def Side.wokenBy (sd : Side) : Option Bool :=
  match sd.stall with
  | some (.woken gang) => some gang
  | _ => none

/-- R82: a woken side at the next clause. -/
def Side.awake (sd : Side) : Side :=
  match sd.wokenBy with
  | some _ => { sd with stall := none, pt := ClausePt.at sd.pt.nextClause }
  | none => sd

/-- R82, R83, R99, R340: BARRIER_WAKE: woken sides of a group go on at the next clause. Waking is an acquire at crew scope
for a word of the own scratchpad reached by a scratchpad address, at package scope for a cluster-local address. -/
def execBarrierWake (agent : Nat) (s : State) : Host.Outcome State Fault Refusal :=
  .next (
    match s.agent? agent with
    | none => s
    | some a =>
      match [a.prim, a.sec].filterMap (fun x => x.bind Side.wokenBy) with
      | [] => s
      | gs => (s.setAgent { a with prim := a.prim.map Side.awake, sec := a.sec.map Side.awake }).acquire a (gs.any id))

/-- R72: REGANG. A side that a YIELD waits for stays noted after the merge, until the merged side issues (DESIGN CHOICE,
notes/assumptions/71.md). -/
def execRegang (agent : Nat) (s : State) : Host.Outcome State Fault Refusal :=
  .next (
    match s.agent? agent with
    | none => s
    | some a =>
      if a.canRegang then (s.renote agent (fun _ => some false)).settle a.regang else s)

/-- R100: the noted sides of a hold that are still eligible. -/
def State.stillNoted (s : State) (h : Hold) : List (Nat × Bool) :=
  h.noted.filter (fun x =>
    match s.agent? x.1 with
    | some a => s.eligible a x.2
    | none => false)

/-- R100: whether a hold is over: every noted side has issued or has stopped being eligible, or its time has passed. -/
def State.holdOver (s : State) (h : Hold) : Bool := decide (h.until_ ≤ s.aclk) || (s.stillNoted h).isEmpty

/-- R100: a noted side that has stopped being eligible is waited for no longer, even if it is eligible again later. -/
def State.pruneHolds (s : State) : State :=
  let up (x : Option Side) : Option Side :=
    x.map (fun sd => { sd with hold := sd.hold.map (fun h => { h with noted := s.stillNoted h }) })
  let each (a : Agent) : Agent :=
    if [a.prim, a.sec].any (fun x => x.any (fun sd => sd.hold.isSome)) then { a with prim := up a.prim, sec := up a.sec }
    else a
  { s with agents := s.agents.map each }

/-- R100: YIELD_HOLD_EXPIRE. -/
def execYieldHoldExpire (agent : Nat) (slot : Bool) (s : State) : Host.Outcome State Fault Refusal :=
  .next (
    match s.agent? agent with
    | none => s
    | some a =>
      match a.side slot with
      | none => s
      | some sd =>
        match sd.hold with
        | none => s
        | some h => if s.holdOver h then s.setAgent (a.setSide slot (some { sd with hold := none })) else s)

/-- R75: the aclk for which an eligible side may go without issuing before it is next. -/
def starveAfter : Nat := 64

/-- R75: SIDE_STARVATION_ISSUE: a side that has been eligible for 64 aclk without issuing is issued next. -/
def execSideStarvationIssue (agent : Nat) (slot : Bool) (s : State) : Host.Outcome State Fault Refusal :=
  .next (
    match s.agent? agent with
    | none => s
    | some a =>
      match a.side slot with
      | none => s
      | some sd =>
        if starveAfter ≤ sd.waited then s.setAgent (a.setSide slot (some { sd with starved := true })) else s)

/-- R112: the aclk for which an eligible group may go without issuing before it is marked. -/
def markAfter : Nat := 512

/-- R112: GROUP_MARK. -/
def execGroupMark (agent : Nat) (s : State) : Host.Outcome State Fault Refusal :=
  .next (
    match s.agent? agent with
    | none => s
    | some a => if markAfter ≤ a.waited then s.setAgent { a with marked := true } else s)

end Sys2Proof.Machine
end

