-- ==== Sys2Proof/Machine/Fetch.lean ====
section
/-!
DEFINITION. Sys2Proof/Machine/Fetch.lean: the check and the bytes of an instruction fetch (R266, R278, R303, R306).
-/
namespace Sys2Proof.Machine

/-- R71, R306: the word at an address of a page, entries of a divergence stack included; when the page was written while a launch
that fetches from it ran it is a free value. -/
def State.codeWord (s : State) (launch : Nat) (w : Who) (va : DW) (t : Target) (sp : Space) (pa : Nat) : W × State :=
  if s.codeLate launch w va then s.freeW else (BitVec.ofNat 32 (leNat (s.overEntries t (s.homeRead sp pa 4))), s)

/-- The length of a word of a class, a literal or extension word included. -/
def wordLen (cls : Cls) (w : W) : Nat :=
  match decode cls w (some 0) with
  | .ok _ n => n
  | .needExt => 2
  | .illegal => 1
  | .illegalMma => 1

end Sys2Proof.Machine
end

