-- ==== Sys2Proof/Machine/Control.lean ====
section
/-!
DEFINITION. Sys2Proof/Machine/Control.lean: class CTL (R321): branches, CALL and RET, EXIT, YIELD, REJOIN, BAR, BINIT,
fmt, the special registers (R67, R68, R271, R295), TRAP and ERET.
-/
namespace Sys2Proof.Machine

/-! ### Branches -/

/-- R314: the target of a branch. -/
def branchTarget (sd : Side) (o : BitVec 22) : DW := sd.pt.hdr + (o.signExtend 64) * 4

/-- A branch that a condition of the issuing side decides. -/
def branchIf (s : State) (o : BitVec 22) (taken : Agent → Side → Bool) : Host.Outcome State Fault Refusal :=
  withIssuer s (fun a sd c => if taken a sd then s.jump c (branchTarget sd o) else s.retire c)

/-- R346: BRA. -/
def execBra (o : BitVec 22) (s : State) : Host.Outcome State Fault Refusal := branchIf s o (fun _ _ => true)

/-- R337: BANY. -/
def execBany (p : Pred) (o : BitVec 22) (s : State) : Host.Outcome State Fault Refusal :=
  branchIf s o (fun a sd => sd.mask &&& a.pred p.toNat != 0)

/-- R337: BALL. -/
def execBall (p : Pred) (o : BitVec 22) (s : State) : Host.Outcome State Fault Refusal :=
  branchIf s o (fun a sd => sd.mask &&& ~~~(a.pred p.toNat) == 0)

/-- R337: BNONE. -/
def execBnone (p : Pred) (o : BitVec 22) (s : State) : Host.Outcome State Fault Refusal :=
  branchIf s o (fun a sd => sd.mask &&& a.pred p.toNat == 0)

/-- R71: the entries that spills may occupy. -/
def Agent.spillRoom (a : Agent) : Nat := if a.divmax = 0 then 64 else a.divmax

/-- R70: the side splits: the taken lanes go to the empty slot or to the stack. -/
def State.split (s : State) (a : Agent) (sd : Side) (c : Cursor) (t : W) (dest : DW) : State :=
  let keep := some { sd with mask := sd.mask &&& ~~~t }
  if (a.side (!c.slot)).isNone then
    (s.setAgent ((a.setSide c.slot keep).setSide (!c.slot) (some (Side.at t dest sd.fmt)))).retire c
  else if a.spillRoom ≤ a.spilled then s.trap a sd c (Trap.plain Cause.divOverflow (BitVec.ofNat 32 a.sdepth))
  else
    let e : Entry := { pt := ClausePt.at dest, len := 1, park := none, mask := t, fmt := sd.fmt }
    (s.setAgent { (a.setSide c.slot keep) with stack := e :: a.stack }).retire c

/-- R70, R263, R342: BDIV. -/
def execBdiv (p : Pred) (o : BitVec 22) (s : State) : Host.Outcome State Fault Refusal :=
  withIssuer s (fun a sd c =>
    let t := sd.mask &&& a.pred p.toNat
    if t = sd.mask then s.jump c (branchTarget sd o)
    else if t = 0 then s.retire c
    else if sd.inHandler then s.terminate a.id Cause.illegalInstr
    else s.split a sd c t (branchTarget sd o))

/-- R78, R316 order 2: whether the issuing word is the last of its clause. -/
def lastWord (sd : Side) (c : Cursor) : Bool := sd.pt.pos + c.len == sd.pt.count + 1

/-- A word that must be the last of its clause. -/
def lastOnly (s : State) (k : Agent → Side → Cursor → State) : Host.Outcome State Fault Refusal :=
  withIssuer s (fun a sd c =>
    if lastWord sd c then k a sd c else s.trap a sd c (Trap.plain Cause.illegalInstr c.raw))

/-- R349: CALL. -/
def execCall (g : Pred) (o : BitVec 22) (s : State) : Host.Outcome State Fault Refusal :=
  lastOnly s (fun a sd c =>
    if scalarGuard a sd g then
      (s.setAgent ((a.setS 62 (loW (sd.pt.nextClause - a.code))).setS 63 0)).jump c (branchTarget sd o)
    else s.retire c)

/-- R348: the side goes to the header at a byte offset from the code base. -/
def State.jumpOffset (s : State) (a : Agent) (sd : Side) (c : Cursor) (g : Pred) (off : W) : State :=
  let dest := a.code + off.setWidth 64
  let l := lowLane (activeMask a sd g)
  if off.extractLsb' 0 2 != 0 then s.trap a sd c (memTrap c 3 Cause.misaligned l (laneBit l) dest 0)
  else s.jump c dest

/-- R446: RET. -/
def execRet (g : Pred) (s : State) : Host.Outcome State Fault Refusal :=
  scalarWord s g (fun a sd c => s.jumpOffset a sd c g (a.sreg 62))

/-- R348: BRX. -/
def execBrx (g : Pred) (r : SReg) (s : State) : Host.Outcome State Fault Refusal :=
  scalarWord s g (fun a sd c => s.jumpOffset a sd c g (a.sreg r.toNat))

/-! ### Rejoining, ending, yielding -/

/-- R78, R80, R263, R445: REJOIN; on a control core it has no effect. -/
def execRejoin (g : Pred) (s : State) : Host.Outcome State Fault Refusal :=
  lastOnly s (fun a sd c =>
    if a.isCc || !scalarGuard a sd g then s.retire c
    else if sd.inHandler then s.terminate a.id Cause.illegalInstr
    else if a.alone c.slot then s.retire c
    else s.park a sd c .rejoin)

/-- R315, R377, R378: EXIT; a control core in supervisor state halts, and in user state it raises PRIVILEGED. Its guard comes
before that (DEDUCED, notes/assumptions/27.md). -/
def execExit (g : Pred) (s : State) : Host.Outcome State Fault Refusal :=
  withIssuer s (fun a sd c =>
    match a.cc with
    | some cc =>
      if !scalarGuard a sd g then s.retire c
      else if !cc.supervisor then s.trap a sd c (Trap.plain Cause.privileged c.raw)
      else (s.setAgent { a with cc := some { cc with halted := true } }).retire c
    | none =>
      let m := activeMask a sd g
      if m = 0 then s.retire c else s.leave a sd c m)

/-- R100: the longest hold of a YIELD. -/
def yieldTime : Nat := 32

/-- R100, R473: YIELD; on a control core it has no effect. -/
def execYield (g : Pred) (s : State) : Host.Outcome State Fault Refusal :=
  scalarWord s g (fun a _ c =>
    let mates := s.eligibleMates a c.slot
    let s1 := s.retire c
    if a.isCc || mates.isEmpty then s1
    else
      s1.modAgent a.id (fun b =>
        match b.side c.slot with
        | some sd => b.setSide c.slot (some { sd with hold := some { until_ := s.aclk + yieldTime, noted := mates } })
        | none => b))

/-! ### Barriers -/

/-- R78 to R82, R263, R339, R340: BAR. -/
def execBar (g : Pred) (base : SPair) (off : SOff) (s : State) : Host.Outcome State Fault Refusal :=
  lastOnly s (fun a sd c =>
    if !scalarGuard a sd g then s.retire c
    else if sd.inHandler then s.terminate a.id Cause.illegalInstr
    else if a.alone c.slot then s.arrive a sd c (activeMask a sd g) base off
    else s.park a sd c (.bar base off))

/-- R82, R345: BINIT. -/
def execBinit (g : Pred) (base : SPair) (x : SReg) (off : SOff) (s : State) : Host.Outcome State Fault Refusal :=
  scalarWord s g (fun a sd c =>
    let va := scalarAddr a base off
    let l := lowLane (activeMask a sd g)
    let e := a.sreg x.toNat
    match s.barCheck (s.who a) va with
    | .bad cause _ => s.trap a sd c (memTrap c 2 cause l (laneBit l) va 0)
    | .ok (.pad k o gang) =>
      if e.extractLsb' 16 16 != 0 then s.trap a sd c (Trap.plain Cause.barrier (BitVec.ofNat 32 o))
      else if s.targetPoisoned (.pad k o gang) 8 && a.errtrap then
        s.trap a sd c (memTrap c 2 Cause.poison l (laneBit l) va 0)
      else
        let w := toDW (leNat (s.homeReadT (.pad k o gang) 8))
        if w.extractLsb' 16 16 != 0 then s.trap a sd c (Trap.plain Cause.barrier (BitVec.ofNat 32 o))
        else
          (s.homeWriteT (.pad k o gang) (toLE 8 ((w &&& ~~~(0xFFFFFFFF : DW)) ||| e.setWidth 64).toNat)).retire c
    | _ => s)

/-! ### fmt -/

/-- R51, R452: SETFMT. -/
def execSetfmt (g : Pred) (r : SReg) (s : State) : Host.Outcome State Fault Refusal :=
  scalarWord s g (fun a sd c =>
    let v := a.sreg r.toNat
    if fmtOk v then (s.setAgent (a.setSide c.slot (some { sd with fmt := v }))).retire c
    else s.trap a sd c (Trap.plain Cause.illegalInstr c.raw))

/-- R398: GETFMT. -/
def execGetfmt (g : Pred) (d : SReg) (s : State) : Host.Outcome State Fault Refusal :=
  scalarWord s g (fun a sd c => (s.setAgent (a.setS d.toNat sd.fmt)).retire c)

/-! ### Special registers -/

/-- R67: the SEL values below 0x80 that name a register. -/
def selAssigned (n : Nat) : Bool :=
  n ≤ 0x14 || (0x18 ≤ n && n ≤ 0x1C) || (0x20 ≤ n && n ≤ 0x22) || (0x28 ≤ n && n ≤ 0x2B)

/-- R62: WF0 of a lane. -/
def Agent.wf0 (a : Agent) (l : Nat) : Nat := 32 * a.grp + l

/-- R62: the work identifier of a lane. -/
def Agent.wid (a : Agent) (l : Nat) : DW :=
  let v (i : Nat) : Nat := if i = 0 then a.wf0 l else (a.wf[i]?.getD 0).toNat
  toDW ((List.range 6).foldr (fun i acc => v i % 2 ^ a.widths.getD i 0 + 2 ^ a.widths.getD i 0 * acc) 0)

/-- R68: GSTAT as a side reads it. -/
def Agent.gstat (a : Agent) (slot : Bool) : W :=
  BitVec.ofNat 32 ((if a.errtrap then 1 else 0) + (if slot then 2 else 0) +
    (if a.prim.isSome && a.sec.isSome then 4 else 0) + 65536 * (a.sdepth % 2048))

/-- R67: the aclk of a package since its reset. -/
def State.clk (s : State) (pkg : Nat) : DW :=
  match s.pkg? pkg with
  | some p => toDW (s.aclk - p.clk0)
  | none => toDW s.aclk

/-- R275: the logical core of a group in its partition. -/
def State.logical (s : State) (a : Agent) : Nat :=
  match s.pkg? a.pkg with
  | some p => p.logicalCore (p.vf a.vf).partNum a.core
  | none => a.core

/-- R67: a special register below 0x80 as a group's lane reads it. -/
def State.sreg (s : State) (a : Agent) (slot : Bool) (sel l : Nat) : W :=
  match sel with
  | 0x00 => BitVec.ofNat 32 l
  | 0x01 => BitVec.ofNat 32 a.grp
  | 0x02 => loW (a.wid l)
  | 0x03 => hiW (a.wid l)
  | 0x04 => BitVec.ofNat 32 (a.wf0 l)
  | 0x05 => a.wf[1]
  | 0x06 => a.wf[2]
  | 0x07 => a.wf[3]
  | 0x08 => a.wf[4]
  | 0x09 => a.wf[5]
  | 0x0A => a.we[0]
  | 0x0B => a.we[1]
  | 0x0C => a.we[2]
  | 0x0D => a.we[3]
  | 0x0E => a.we[4]
  | 0x0F => a.we[5]
  | 0x10 => a.shape[0]
  | 0x11 => a.shape[1]
  | 0x12 => a.shape[2]
  | 0x13 => a.shape[3]
  | 0x14 => BitVec.ofNat 32 a.bucket
  | 0x18 => BitVec.ofNat 32 (s.logical a)
  | 0x19 => BitVec.ofNat 32 (s.logical a / 4)
  | 0x1A => BitVec.ofNat 32 a.pkg
  | 0x1B => BitVec.ofNat 32 a.vf
  | 0x1C => BitVec.ofNat 32 a.stage
  | 0x20 => a.lksel.setWidth 32
  | 0x21 => loW (s.clk a.pkg)
  | 0x22 => a.clkhi
  | 0x28 => a.tcause.setWidth 32
  | 0x29 => a.tpc
  | 0x2A => a.tdata
  | 0x2B => a.gstat slot
  | _ => 0

/-- R271, R295: a privileged register as supervisor code reads it; none where SEL names no register. -/
def Cc.priv (c : Cc) (sel : Nat) : Option W :=
  match sel with
  | 0x80 => some (c.croot.extractLsb' 16 16 ++ (0 : BitVec 16))
  | 0x81 => some ((c.croot.extractLsb' 32 18).setWidth 32)
  | 0x82 => some (c.troot.extractLsb' 11 21 ++ (0 : BitVec 11))
  | 0x83 => some ((c.troot.extractLsb' 32 18).setWidth 32)
  | 0x84 => some (c.asid.setWidth 32)
  | 0x90 => some c.evec
  | 0x91 => some c.epc
  | 0x92 => some (BitVec.ofNat 32 (c.ecause.toNat + (if c.prev then 256 else 0)))
  | 0x93 => some c.edata
  | 0x94 => some (BitVec.ofNat 32 c.num)
  | _ => none

/-- R5, R271, R295: a privileged register written; a read-only one ignores it. -/
def Cc.setPriv (c : Cc) (sel : Nat) (v : W) : Cc :=
  match sel with
  | 0x80 => { c with croot := c.croot.extractLsb' 32 18 ++ v.extractLsb' 16 16 ++ (0 : BitVec 16) }
  | 0x81 => { c with croot := v.extractLsb' 0 18 ++ c.croot.extractLsb' 0 32 }
  | 0x82 => { c with troot := c.troot.extractLsb' 32 18 ++ v.extractLsb' 11 21 ++ (0 : BitVec 11) }
  | 0x83 => { c with troot := v.extractLsb' 0 18 ++ c.troot.extractLsb' 0 32 }
  | 0x90 => { c with evec := v }
  | 0x91 => { c with epc := v }
  | _ => c

/-- R455: what a control core reads below 0x80. -/
def State.ccSreg (s : State) (a : Agent) (sel : Nat) : W :=
  match sel with
  | 0x1A => BitVec.ofNat 32 a.pkg
  | 0x21 => loW (s.clk a.pkg)
  | 0x22 => a.clkhi
  | _ => 0

/-- R67: a read of CLK latches the high half. -/
def State.latched (s : State) (a : Agent) (sel : Nat) : Agent :=
  if sel = 0x21 then { a with clkhi := hiW (s.clk a.pkg) } else a

/-- R316 orders 2 to 4 for SREAD and SWRITE: the trap that the SEL, or a vector destination, raises. -/
def selCheck (a : Agent) (c : Cursor) (sel : Nat) (ok : Bool) (vd : Option Nat) : Option Trap :=
  if a.isCc && vd.isSome then some (Trap.plain Cause.illegalInstr c.raw)
  else if 0x80 ≤ sel then
    match a.cc with
    | none => some (Trap.plain Cause.privileged c.raw)
    | some cc =>
      if !cc.supervisor then some (Trap.plain Cause.privileged c.raw)
      else if (cc.priv sel).isNone then some (Trap.plain Cause.illegalInstr c.raw)
      else none
  else if !ok then some (Trap.plain Cause.illegalInstr c.raw)
  else
    match vd with
    | some r => if a.nregs ≤ r then some (Trap.plain Cause.regRange (BitVec.ofNat 32 r)) else none
    | none => none

/-- The vector register of an SREAD's destination. -/
def sdstVreg (d : SDst) : Option Nat :=
  match d with
  | .s _ => none
  | .v r => some r.toNat

/-- R455: the value of a scalar SREAD: of the lowest active lane, or of the control core's register. -/
def State.sreadVal (s : State) (a : Agent) (slot : Bool) (sel l : Nat) : W :=
  match a.cc with
  | some cc => if 0x80 ≤ sel then (cc.priv sel).getD 0 else s.ccSreg a sel
  | none => s.sreg a slot sel l

/-- R67, R271, R295, R454, R455: SREAD. -/
def execSread (g : Pred) (sel : BitVec 8) (d : SDst) (s : State) : Host.Outcome State Fault Refusal :=
  withIssuer s (fun a sd c =>
    let n := sel.toNat
    match selCheck a c n (selAssigned n) (sdstVreg d) with
    | some t => s.trap a sd c t
    | none =>
      let m := activeMask a sd g
      if m = 0 then s.retire c
      else
        let b := s.latched a n
        match d with
        | .s r => (s.setAgent (b.setS r.toNat (s.sreadVal a c.slot n (lowLane m)))).retire c
        | .v r => (s.setAgent (b.setV r.toNat m (fun l => s.sreg a c.slot n l))).retire c)

/-- R456: the group-wide registers that SWRITE writes. -/
def Agent.swrite (a : Agent) (sel : Nat) (v : W) : Agent :=
  match a.cc with
  | some cc =>
    if 0x80 ≤ sel then { a with cc := some (cc.setPriv sel v) }
    else if sel = 0x20 then { a with lksel := v.extractLsb' 0 20 }
    else { a with errtrap := v.getLsbD 0 }
  | none => if sel = 0x20 then { a with lksel := v.extractLsb' 0 20 } else { a with errtrap := v.getLsbD 0 }

/-- R67, R271, R295, R454, R456: SWRITE. -/
def execSwrite (g : Pred) (sel : BitVec 8) (r : SReg) (s : State) : Host.Outcome State Fault Refusal :=
  withIssuer s (fun a sd c =>
    let n := sel.toNat
    match selCheck a c n (n == 0x20 || n == 0x2B) none with
    | some t => s.trap a sd c t
    | none => if scalarGuard a sd g then (s.setAgent (a.swrite n (a.sreg r.toNat))).retire c else s.retire c)

/-! ### TRAP and ERET -/

/-- R463: TRAP. -/
def execTrap (g : Pred) (code : BitVec 8) (s : State) : Host.Outcome State Fault Refusal :=
  scalarWord s g (fun a sd c => s.trap a sd c (Trap.plain Cause.trapInstr (code.setWidth 32)))

/-- R376: the words that ERET.NEXT passes over on a control core. -/
def State.ccSkip (s : State) (a : Agent) (sd : Side) (cc : Cc) : Nat :=
  let at_ := a.code + cc.epc.setWidth 64
  if at_ = sd.ret.addr then sd.retLen
  else
    match s.peekWord (s.who a) at_ with
    | some w => wordLen sd.ret.cls w
    | none => 1

/-- R263, R304, R375, R376: the two forms of ERET. -/
def State.eret (s : State) (g : Pred) (next : Bool) : Host.Outcome State Fault Refusal :=
  withIssuer s (fun a sd c =>
    match a.cc with
    | some cc =>
      if !scalarGuard a sd g then s.retire c
      else if !cc.supervisor then s.trap a sd c (Trap.plain Cause.privileged c.raw)
      else s.setAgent (a.ccReturn c.slot (if next then s.ccSkip a sd cc else 0))
    | none =>
      if !scalarGuard a sd g then s.retire c
      else if !sd.inHandler then s.trap a sd c (Trap.plain Cause.illegalInstr c.raw)
      else if a.tcause.toNat = Cause.illegalClause then s.terminate a.id Cause.illegalClause
      else s.returnFrom a c next)

/-- R374 to R376: ERET. -/
def execEret (g : Pred) (s : State) : Host.Outcome State Fault Refusal := s.eret g false

/-- R374 to R376: ERET.NEXT. -/
def execEretNext (g : Pred) (s : State) : Host.Outcome State Fault Refusal := s.eret g true

end Sys2Proof.Machine
end

