-- ==== Sys2Proof/Machine/Channels.lean ====
section
/-!
DEFINITION. Sys2Proof/Machine/Channels.lean: CHSEND and CHRECV (R91 to R95, R354 to R357).
-/
namespace Sys2Proof.Machine

/-- The indices of a ring's slots with their contents. -/
def Ring.indexed (r : Ring) : List (Nat × Slot) := (List.range r.slots.length).zip r.slots

/-- R92: the oldest free slot of a ring, the lowest one of those that freed in one aclk. -/
def Ring.oldestFree (r : Ring) : Option Nat :=
  (r.indexed.foldl (fun (best : Option (Nat × Nat)) x =>
    match x.2, best with
    | .free t, none => some (x.1, t)
    | .free t, some b => if t < b.2 then some (x.1, t) else some b
    | _, b => b) none).map (fun x => x.1)

/-- R94: the complete message whose send was accepted first: its slot and its length. -/
def Ring.oldestMsg (r : Ring) : Option (Nat × Nat) :=
  (r.indexed.foldl (fun (best : Option (Nat × Nat × Nat)) x =>
    match x.2, best with
    | .msg q n, none => some (x.1, n, q)
    | .msg q n, some b => if q < b.2.2 then some (x.1, n, q) else some b
    | _, b => b) none).map (fun x => (x.1, x.2.1))

/-- A slot of a crew's ring for a channel changed. -/
def Crew.setSlot (c : Crew) (ch i : Nat) (x : Slot) : Crew :=
  { c with rings := List.modFirst (fun r => r.chan == ch) (fun r => { r with slots := r.slots.set i x }) c.rings }

/-- R92: the consumer crew with the most free slots, the lowest-numbered on a tie. -/
def State.bestConsumer (s : State) (launch dst ch : Nat) : Option (Crew × Ring) :=
  (s.consumers launch dst).foldl (fun best c =>
    match c.ring? ch, best with
    | some r, none => if r.freeSlots = 0 then none else some (c, r)
    | some r, some b =>
      if b.2.freeSlots < r.freeSlots || (r.freeSlots == b.2.freeSlots && decide (c.id < b.1.id)) then some (c, r) else some b
    | none, b => b) none

/-- R92: the number of the message in a slot of a ring. -/
def Ring.seqAt (r : Ring) (i : Nat) : Nat :=
  match r.slots[i]? with
  | some (.msg q _) => q
  | _ => 0

/-- R92, R143, R355, R357: a message placed in a slot of `size` bytes: the slot's beads emptied, the bytes copied, the
slot's beads set full, and unpoisoned (DESIGN CHOICE, notes/assumptions/109.md). -/
def Crew.deliver (c : Crew) (ch i at_ size : Nat) (bs : List Byte) (seq : Nat) : Crew :=
  let c1 := ((c.drain (beadsOf at_ size)).store at_ bs).fill (beadsOf at_ size)
  ({ c1 with poison := c1.poison.filter (fun g => !(beadsOf at_ bs.length).contains (g / 4)) }).setSlot ch i
    (.msg seq bs.length)

/-- R93: the source of a send as it stood when the send first issued. -/
def Side.sendOld (sd : Side) (now : List Byte) : List Byte :=
  match sd.began with
  | some (.chsend _ _ old) => if old.length = now.length then old else now
  | _ => now

/-- R94: the place of a send in the order of issue, given the next number of all. -/
def Side.sendSeq (sd : Side) (next : Nat) : Nat :=
  match sd.began with
  | some (.chsend _ n _) => n
  | _ => next

/-- R92, R94: a send that has issued waits to be accepted. -/
def State.sendWait (s : State) (sd : Side) (c : Cursor) (ch : Nat) (now : List Byte) : State :=
  let n := sd.sendSeq s.nextId
  ({ s with nextId := max s.nextId (n + 1) }).stall c (.chsend ch n (sd.sendOld now))

/-- R259, R264: the trap of a send whose source range is not allowed. -/
def sendTrap (c : Cursor) (cause lane : Nat) (off : W) : Trap :=
  memTrap c 0 cause lane (laneBit lane) (0x8000000000000000 + off.setWidth 64) 0

/-- R92 to R94, R357: CHSEND. Poison of its source beads does not trap, sets no flag and is not carried (DESIGN CHOICE,
notes/assumptions/109.md). -/
def execChsend (g : Pred) (p : SPair) (n : BitVec 6) (s : State) : Host.Outcome State Fault Refusal :=
  scalarWord s g (fun a sd c =>
    let ch := n.toNat
    let bad := Trap.plain Cause.channel (BitVec.ofNat 32 ch)
    let off := a.sreg (2 * p.toNat)
    let len := (a.sreg (2 * p.toNat + 1)).toNat
    let l := lowLane (activeMask a sd g)
    match s.chan? a.launch ch with
    | none => s.trap a sd c bad
    | some x =>
      if x.src ≠ a.stage || len % 16 ≠ 0 || len < 16 || x.size < len then s.trap a sd c bad
      else if off.toNat % 16 ≠ 0 then s.trap a sd c (sendTrap c Cause.misaligned l off)
      else
        match s.crew? a.crew with
        | none => s.trap a sd c (sendTrap c Cause.access l off)
        | some src =>
          if src.size < off.toNat + len then s.trap a sd c (sendTrap c Cause.access l off)
          else
            let now := src.bytes off.toNat len
            match if a.sendsBefore ch (sd.sendSeq s.nextId) then none else s.bestConsumer a.launch x.dst ch with
            | none => s.sendWait sd c ch now
            | some (d, r) =>
              match r.oldestFree with
              | none => s.sendWait sd c ch now
              | some i =>
                let q := s.fresh
                let m := q.2.mixBeads (sd.sendOld now) now
                (((m.2.note (.pad d.id) (r.base + i * x.size) m.1.length).modCrew d.id (fun k =>
                  k.deliver ch i (r.base + i * x.size) x.size m.1 q.1)).msgTell a.id q.1).retire c)

/-- R94: the slot that a group holds on a channel frees. -/
def Crew.release (c : Crew) (ch agent now : Nat) : Crew :=
  let up (x : Slot) : Slot := if x = .held agent then .free now else x
  { c with rings := List.modFirst (fun r => r.chan == ch) (fun r => { r with slots := r.slots.map up }) c.rings }

/-- R94, R95, R355: CHRECV. -/
def execChrecv (g : Pred) (p : SPair) (n : BitVec 6) (s : State) : Host.Outcome State Fault Refusal :=
  scalarWord s g (fun a sd c =>
    let ch := n.toNat
    let bad := Trap.plain Cause.channel (BitVec.ofNat 32 ch)
    match s.chan? a.launch ch with
    | none => s.trap a sd c bad
    | some x =>
      if x.dst ≠ a.stage then s.trap a sd c bad
      else
        let s1 := s.modCrew a.crew (fun k => k.release ch a.id s.aclk)
        match (s1.crew? a.crew).bind (fun k => k.ring? ch) with
        | none => s.trap a sd c bad
        | some r =>
          match r.oldestMsg with
          | some (i, len) =>
            let s2 := s1.modCrew a.crew (fun k => k.setSlot ch i (.held a.id))
            (((s2.setAgent ((a.setS (2 * p.toNat) (BitVec.ofNat 32 (r.base + i * x.size))).setS (2 * p.toNat + 1)
              (BitVec.ofNat 32 len))).acquire a true).learn [a.id] (fun m => m.msgs.contains (r.seqAt i))).retire c
          | none =>
            if s1.chanClosed a.launch x.src then
              ((s1.setAgent ((a.setS (2 * p.toNat) 0xFFFFFFFF).setS (2 * p.toNat + 1) 0)).acquire a true).retire c
            else s1.stall c (.chrecv ch p.toNat))

end Sys2Proof.Machine
end

