-- ==== Sys2Proof/Machine/EngineBlk.lean ====
section
/-!
DEFINITION. Sys2Proof/Machine/EngineBlk.lean: command blocks (R199 to R203, R208, R211, R215, R221): their fields and the
checks made at acceptance (R202, R227, R396, R419, R448, R464).
-/
namespace Sys2Proof.Machine

/-! ### Fields -/

/-- A signed 32-bit field. -/
def blkI (b : List Byte) (o : Nat) : Int := (BitVec.ofNat 32 (blkU b o 4)).toInt

/-- A 64-bit address field. -/
def blkA (b : List Byte) (o : Nat) : DW := toDW (blkU b o 8)

/-- R200: a flag. -/
def blkFlag (b : List Byte) (i : Nat) : Bool := (b.getD 1 0).getLsbD i

/-- Whether `n` bytes from an offset are zero. -/
def blkZero (b : List Byte) (o n : Nat) : Bool := blkU b o n == 0

/-- R199: KIND of a command. -/
def CmdKind.code (k : CmdKind) : Nat :=
  match k with
  | .copy => 1 | .gather => 2 | .scatter => 3 | .mgt => 4 | .coll => 5 | .tsend => 6

/-- R200: the FLAGS bits that may be set. -/
def CmdKind.flags (k : CmdKind) : Byte :=
  match k with
  | .copy => 0x87 | .gather => 0x80 | .scatter => 0xA0 | .mgt => 0x80 | .coll => 0x08 | .tsend => 0x80

/-- R200: EXP, SNAP, ORD, SHEXP, COMBINE and RESUME. -/
def isExp (b : List Byte) : Bool := blkFlag b 0
def isSnap (b : List Byte) : Bool := blkFlag b 1
def isOrd (b : List Byte) : Bool := blkFlag b 2
def isShexp (b : List Byte) : Bool := blkFlag b 3
def isCombine (b : List Byte) : Bool := blkFlag b 5
def isResume (b : List Byte) : Bool := blkFlag b 7

def blkSlice (b : List Byte) : Nat := blkU b 2 1
/-- R199: the Locket index where merging is enabled. -/
def blkLk (b : List Byte) : Option Nat := if 2 ^ 31 ≤ blkU b 4 4 then some (blkU b 4 4 % 2 ^ 20) else none
def blkRpidx (b : List Byte) : Nat := blkU b 0x7E 2
def blkSrc (b : List Byte) : DW := blkA b 8
def blkDst (b : List Byte) : DW := blkA b 0x10
def blkElem (b : List Byte) : Nat := blkU b 0x18 2
/-- R203: the source and destination formats, or none. -/
def blkCvt (b : List Byte) : Option (Option Fmt × Option Fmt) :=
  let v := blkU b 0x1A 1
  if v = 0xFF then none else some (Fmt.ofCode (v % 16), Fmt.ofCode (v / 16))
/-- R201: the rounding mode and overflow policy of a rounding byte. -/
def rndRm (v : Nat) : Rm := Rm.ofCode (v % 4)
def rndOv (v : Nat) : Ov := Ov.ofCode (v / 4 % 4)

/-! ### Checks -/

/-- R204: the formats that a conversion accepts. -/
def cvtFmt (f : Fmt) : Bool :=
  f == .fp64 || f == .fp32 || f == .bf16 || f == .fp16 || f == .e4m3 || f == .e5m2 || f == .i8 || f == .i32 || f == .n32

/-- R202: the formats of a destination that can merge. -/
def mergeFmt (f : Fmt) : Bool :=
  f == .fp64 || f == .fp32 || f == .bf16 || f == .fp16 || f == .e4m3 || f == .e5m2

/-- R249: the format in which a plain copy's elements merge. -/
def elemFmt (n : Nat) : Option Fmt :=
  match n with
  | 1 => some .e4m3
  | 2 => some .bf16
  | 4 => some .fp32
  | 8 => some .fp64
  | _ => none

/-- R249: the format in which a command's destination elements merge, where they can. -/
def destFmt (k : CmdKind) (b : List Byte) : Option Fmt :=
  (match k with
   | .mgt => Fmt.ofCode (blkU b 0x2E 1)
   | .coll => Fmt.ofCode (blkU b 0x1C 1)
   | .tsend => none
   | _ =>
     match blkCvt b with
     | none => elemFmt (blkElem b)
     | some c => c.2).filter mergeFmt

/-- R132, R135, R136: the addresses that a command block may hold. -/
def State.blkAddrOk (s : State) (w : Who) (va : DW) : Bool :=
  match vaClass va with
  | 0 => va.extractLsb' 48 14 == 0
  | 1 => va.extractLsb' 56 6 == 0
  | 2 => !w.cc && va.getLsbD 61 && (s.padTarget w va 1).isSome
  | _ => false

/-- R201, R203, R208: the checks of ELEM, CVT and the rounding byte of COPY, GATHER and SCATTER. Bits 7:4 of the byte are
reserved; that it is zero without a conversion is asked of COPY only. -/
def elemOk (b : List Byte) : Bool :=
  decide (1 ≤ blkElem b) && decide (blkElem b ≤ 4096) && decide (blkU b 0x1B 1 < 16) &&
  (match blkCvt b with
   | none => true
   | some (some f, some g) => cvtFmt f && cvtFmt g && blkElem b == f.bits / 8
   | some _ => false)

/-- R203: one loop level: a level at or above DIMS is wholly zero. -/
def levelOk (b : List Byte) (l : Nat) : Bool :=
  if l < blkU b 0x1C 1 then blkZero b (0x2C + 16 * l) 4 else blkZero b (0x20 + 16 * l) 16

/-- R203, R206: COPY's own checks. -/
def State.copyOk (s : State) (w : Who) (b : List Byte) : Bool :=
  let dims := blkU b 0x1C 1
  elemOk b && ((blkCvt b).isSome || blkZero b 0x1B 1) && decide (1 ≤ dims) && decide (dims ≤ 5) && blkZero b 0x1D 3 && (List.range 5).all (levelOk b) &&
  blkZero b 0x78 6 && s.blkAddrOk w (blkSrc b) && s.blkAddrOk w (blkDst b) &&
  (if isExp b then
     blkElem b == 2368 && (blkCvt b).isNone && (blkLk b).isNone && decide ((blkSrc b).toNat < (blkA b 0x70).toNat) &&
     (blkA b 0x70).toNat % 16 == 0 && s.blkAddrOk w (blkA b 0x70)
   else blkZero b 0x70 8)

/-- R208: the width of an index. -/
def idxBytes (b : List Byte) : Nat := if blkU b 0x1D 1 = 0 then 4 else 8

/-- R208, R396, R448: the checks that GATHER and SCATTER share. -/
def State.indexedOk (s : State) (w : Who) (b : List Byte) : Bool :=
  elemOk b && decide (blkU b 0x1D 1 ≤ 1) && blkZero b 0x1E 2 && (blkA b 0x20).toNat % idxBytes b == 0 &&
  decide (1 ≤ blkU b 0x28 4) && decide (blkU b 0x28 4 ≤ 2 ^ 28) && blkZero b 0x2C 82 &&
  s.blkAddrOk w (blkSrc b) && s.blkAddrOk w (blkDst b) && s.blkAddrOk w (blkA b 0x20)

/-- R210: the destinations of COMBINE. -/
def combineFmt (f : Fmt) : Bool :=
  f == .fp64 || f == .fp32 || f == .bf16 || f == .fp16 || f == .i32 || f == .n32

/-- R448: SCATTER's own checks. -/
def scatterOk (b : List Byte) : Bool :=
  if isCombine b then
    decide (blkU b 0x1C 1 ≤ 2) &&
    (match blkCvt b with
     | some (_, some g) => combineFmt g
     | _ => false)
  else blkZero b 0x1C 1

/-- R211: the formats of a grid. -/
def gridFmt (v : Nat) : Option Fmt :=
  match Fmt.ofCode v with
  | some f => if f == .fp64 || f == .fp32 || f == .bf16 || f == .fp16 then some f else none
  | none => none

/-- R211: a grid's extents from its base offset in the block. -/
def gridDims (b : List Byte) (o : Nat) : List Nat := [blkU b o 2, blkU b (o + 2) 2, blkU b (o + 4) 2]

/-- R212: the extents agree. -/
def extentsOk (restrict : Bool) (s d : List Nat) : Bool :=
  (s.zip d).all (fun x => decide (1 ≤ x.1) && decide (1 ≤ x.2) &&
    (if restrict then x.2 == (x.1 + 1) / 2 else x.1 == (x.2 + 1) / 2))

/-- R419: MGT's own checks. -/
def State.mgtOk (s : State) (w : Who) (b : List Byte) : Bool :=
  (gridFmt (blkU b 0x16 1)).isSome && (gridFmt (blkU b 0x2E 1)).isSome && blkZero b 0x17 1 && blkZero b 0x2F 1 &&
  extentsOk (blkU b 0x40 1 == 0) (gridDims b 0x10) (gridDims b 0x28) &&
  decide (blkU b 0x40 1 ≤ 1) && decide (blkU b 0x41 1 ≤ 2) && decide (blkU b 0x42 1 < 16) && blkZero b 0x43 59 &&
  (blkA b 0x38).toNat % (if blkU b 0x16 1 = 8 then 8 else 4) == 0 &&
  s.blkAddrOk w (blkSrc b) && s.blkAddrOk w (blkA b 0x20) && s.blkAddrOk w (blkA b 0x38)

/-- R215: the types that a collective accepts. -/
def collTypeOk (b : List Byte) : Bool :=
  match Fmt.ofCode (blkU b 0x1C 1) with
  | none => false
  | some f =>
    let reduce := blkU b 0x1D 1 % 16 < 2
    (if reduce then combineFmt f else decide (8 ≤ f.bits)) &&
    (!isShexp b || (reduce && blkU b 0x1D 1 / 16 == 0 && Fmt.isFloat f))

/-- R215: COLL's own checks. -/
def State.collOk (s : State) (w : Who) (b : List Byte) : Bool :=
  let op := blkU b 0x1D 1 % 16
  let np := blkU b 0x1E 2
  decide (1 ≤ blkU b 0x18 4) && decide (op ≤ 3) && decide (blkU b 0x1D 1 / 16 ≤ 2) && collTypeOk b &&
  decide (1 ≤ np) && decide (np ≤ 512) && decide (blkU b 0x28 2 < np) &&
  (if op = 3 then decide (blkU b 0x2A 2 < np) else blkZero b 0x2A 2) &&
  (op != 1 || blkU b 0x18 4 % np == 0) && blkZero b 0x30 78 &&
  s.blkAddrOk w (blkSrc b) && s.blkAddrOk w (blkDst b) && s.blkAddrOk w (blkA b 0x20)

/-- R464: TSEND's own checks. -/
def State.tsendOk (s : State) (w : Who) (b : List Byte) : Bool :=
  let ctr (v : Nat) : Bool := decide (v ≤ 4095) || v == 0xFFFF
  blkU b 0x18 4 % 16 == 0 && decide (16 ≤ blkU b 0x18 4) && decide (blkU b 0x18 4 ≤ 2 ^ 28) &&
  ctr (blkU b 0x1C 2) && ctr (blkU b 0x1E 2) && vaClass (blkDst b) == 1 && (blkLk b).isNone && blkZero b 0x30 78 &&
  s.blkAddrOk w (blkSrc b) && s.blkAddrOk w (blkDst b)

/-- R224: the bytes of a record of a VF; none where its page is not mapped (DEDUCED, notes/assumptions/32.md). -/
def State.rpRead (s : State) (pkg vf k : Nat) : List Byte :=
  match s.recordPa pkg vf k with
  | some pa => Memory.readN s.ctl pa 64
  | none => []

/-- R199, R227: the resume fields. -/
def State.resumeOk (s : State) (pkg vf : Nat) (kind : CmdKind) (b : List Byte) : Bool :=
  if isResume b then
    let k := blkRpidx b + blkSlice b
    let r := s.rpRead pkg vf k
    (s.vf pkg vf).rpUsed.contains k && blkU r 0 1 == kind.code && blkU r 3 1 == blkSlice b
  else blkRpidx b == 0

/-- R199, R202: the header's checks. -/
def State.headOk (s : State) (pkg vf : Nat) (kind : CmdKind) (b : List Byte) : Bool :=
  blkU b 0 1 == kind.code && (b.getD 1 0 &&& ~~~kind.flags) == 0 && decide (blkSlice b < blkNslice b) &&
  (if kind == .copy then decide (blkNslice b ≤ 32) else blkNslice b == 1) &&
  blkU b 4 4 / 2 ^ 20 % 2 ^ 11 == 0 &&
  (match blkLk b with
   | none => true
   | some i => decide (i < s.lkNrec pkg vf) && (destFmt kind b).isSome) &&
  s.resumeOk pkg vf kind b

/-- R202: the checks of a block at acceptance. -/
def State.blkOk (s : State) (w : Who) (kind : CmdKind) (b : List Byte) : Bool :=
  s.headOk w.pkg w.vf kind b &&
  (match kind with
   | .copy => s.copyOk w b
   | .gather => s.indexedOk w b && blkZero b 0x1C 1
   | .scatter => s.indexedOk w b && scatterOk b
   | .mgt => s.mgtOk w b
   | .coll => s.collOk w b
   | .tsend => s.tsendOk w b)

end Sys2Proof.Machine
end

