-- ==== Sys2Proof/Machine/EngineData.lean ====
section
/-!
DEFINITION. Sys2Proof/Machine/EngineData.lean: an engine's accesses (R137, R228), the beads and poison of its writes (R143,
R156, R278), and its iteration nests (R204, R209, R214).
-/
namespace Sys2Proof.Machine

/-! ### Accesses -/

/-- R135, R136, R228: the check of an engine's access to bytes that lie in one page. One that strides or indices bring to
the system class or a local form gives ACCESS (DESIGN CHOICE, notes/assumptions/80.md). -/
def State.engCheck (s : State) (w : Who) (k : Kind) (va : DW) (n : Nat) : Checked :=
  match vaClass va with
  | 0 => if va.extractLsb' 48 14 != 0 then .bad Cause.access 0 else s.checkMapped w k va
  | 1 => if va.extractLsb' 56 6 != 0 then .bad Cause.access 0 else s.checkMapped w k va
  | 2 =>
    if w.cc || !va.getLsbD 61 then .bad Cause.access 0
    else
      match s.padTarget w va n with
      | some t => .ok t
      | none => .bad Cause.access 0
  | _ => .bad Cause.access 0

/-- R228: a range cut at 64 KiB boundaries. -/
def pagesOf (va : DW) (n : Nat) : List (DW × Nat) :=
  let k := 65536 - va.toNat % 65536
  if vaClass va = 2 || n ≤ k then [(va, n)] else [(va, k), (va + toDW k, n - k)]

/-- A range cut at 128 B boundaries. -/
def lineParts (va : DW) (n : Nat) : List (DW × Nat) :=
  let r := va.toNat % 128
  (List.range ((r + n + 127) / 128)).map (fun i =>
    if i = 0 then (va, min n (128 - r)) else (va + toDW (128 * i - r), min 128 (n + r - 128 * i)))

/-- R185, R191, R192, R228: the parts of an engine's access: each line of control space, which is probed and checked by itself, or
each page of tensor space. -/
def accParts (va : DW) (n : Nat) : List (DW × Nat) := if vaClass va = 0 then lineParts va n else pagesOf va n

/-- The checks of an engine's access to a range. -/
def State.engAccs (s : State) (w : Who) (wait : Option Stall) (k : Kind) (va : DW) (n : Nat) : List LaneAcc :=
  (accParts va n).map (fun x =>
    { lane := x.2, va := x.1, res := s.settleWait w wait x.1 (s.engCheck w k x.1 x.2) })

/-- The ranges of accesses that all passed: their targets and lengths. -/
def accTargets (l : List LaneAcc) : List (Target × Nat) :=
  l.filterMap (fun x =>
    match x.res with
    | .ok t => some (t, x.lane)
    | _ => none)

/-- The bytes of targets, whether any is poisoned, and the copies the reads leave. -/
def State.engRead (s : State) (w : Who) (ts : List (Target × Nat)) : (List Byte × Bool) × State :=
  ts.foldl (fun acc x =>
    let r := acc.2.readT w x.1 x.2 false
    ((acc.1.1 ++ r.1, acc.1.2 || s.targetPoisoned x.1 x.2), r.2)) (([], false), s)

/-- R289: what an access for reading `n` bytes sends to other packages, the walks to them first. -/
def State.readSent (s : State) (w : Who) (k : Kind) (va : DW) (n : Nat) : State :=
  let accs := s.engAccs w none k va n
  { s with traffic := ((accs.foldl (fun s x => s.walkSent w x.va) s).engRead w (accTargets accs)).2.traffic }

/-- R161, R198: whether a byte of these targets has been written since the log of writes was `mark` long. -/
def State.changedSince (s : State) (mark : Nat) (ts : List (Target × Nat)) : Bool :=
  ts.any (fun x => (x.1.stands).any (fun p => s.wroteSince mark p.1 p.2 x.2))

/-- R7: unpredictable bytes, each a free value, in the places that a test names. -/
def State.freeWhere (s : State) (p : Nat → Bool) (bs : List Byte) : List Byte × State :=
  let k := ((List.range bs.length).filter p).length
  ((List.range bs.length).map (fun i =>
      if p i then Config.freeByte (s.free + ((List.range i).filter p).length) else bs.getD i 0),
    if k = 0 then s else { s with free := s.free + k })

/-- R71: a read that a program has asked for meets the divergence-stack areas of some groups. -/
def State.strayBy (s : State) (w : Who) (k : Kind) (va : DW) (n : Nat) : State :=
  if n = 0 then s else (accTargets (s.engAccs w none k va n)).foldl (fun s x => s.stray x.1 x.2) s

/-- R71, R289: what a read that a program has asked for sends, and the groups into whose stack areas it reaches. -/
def State.readBy (s : State) (w : Who) (k : Kind) (va : DW) (n : Nat) : State :=
  { s.readSent w k va n with strayed := (s.strayBy w k va n).strayed }

/-- R198: the value that a command reads from a table entry of `n` bytes: a free value once the entry has been written
since the command's acceptance. -/
def State.tableNat (s : State) (c : Cmd) (ts : List (Target × Nat)) (n : Nat) (bs : List Byte) : Nat × State :=
  if s.changedSince c.mark ts then (Config.freeNat s.free % 256 ^ n, { s with free := s.free + 1 }) else (leNat bs, s)

/-- R205: the number under which a command's writes are noted: that of a COPY's set, else of the command. -/
def Cmd.opNum (c : Cmd) : Nat := if c.kind = .copy then c.set else c.inst

/-- R143: bytes of an engine written at a target; a scratchpad's beads are filled apart. -/
def State.engWriteT (s : State) (c : Cmd) (w : Who) (t : Target) (bs : List Byte) : State :=
  match t with
  | .pad k off _ =>
    let x : Wrote :=
      { agent := none, cmd := some c.opNum, place := .pad k, lo := off, hi := off + bs.length,
        old := s.standing (.pad k) off bs.length }
    let s1 := s.modCrew k (fun c => { c with pad := Memory.writeN c.pad off bs })
    { s1 with wlog := x :: s1.wlog }
  | _ => s.writeT w t bs false

/-- R278: the units that a write of poisoned data touches become poisoned. -/
def State.engPoison (s : State) (t : Target) (n : Nat) : State :=
  let add (pa : Nat) (l : List (Nat × Nat)) : List (Nat × Nat) :=
    rangesAdd (32 * (pa / 128)) (32 * ((pa + n - 1) / 128 + 1)) l
  match t with
  | .ctl pa _ => s.setPoison .ctl (add pa (s.poison .ctl))
  | .ten pa => s.setPoison .ten (add pa (s.poison .ten))
  | .pad k off _ => s.modCrew k (fun c => c.poisonBeads off n)
  | .mmio _ => s

/-- Bytes written over consecutive targets, with their poison. -/
def State.engWrite (s : State) (c : Cmd) (w : Who) (ts : List (Target × Nat)) (bs : List Byte) (poisoned : Bool) : State :=
  let r := ts.foldl (fun acc x =>
    let s1 := acc.1.engWriteT c w x.1 (acc.2.take x.2)
    (if poisoned then s1.engPoison x.1 x.2 else s1, acc.2.drop x.2)) (s, bs)
  if poisoned then r.1 else r.1.clearPoison ts

/-- R143: beads of a crew that no command of a set will touch again. -/
def State.beadsShut (s : State) (set k : Nat) (bs : List Nat) : State :=
  let shut (d : Cmd) : Cmd :=
    if d.set == set && d.open_.any (fun x => x.1 == k && bs.contains x.2) then
      { d with open_ := d.open_.filter (fun x => !(x.1 == k && bs.contains x.2)) }
    else d
  { s with cmds := s.cmds.map shut }

/-- R143: beads of a crew that a command has written and that a further write of it touches. -/
def State.beadsOpen (s : State) (inst k : Nat) (bs : List Nat) : State :=
  if bs.isEmpty then s
  else s.modCmd inst (fun d => { d with open_ := d.open_ ++ (bs.map (fun b => (k, b))).filter (fun x => !d.open_.contains x) })

/-- R156: whether a bead of a crew holds data of a failed tile of a set. -/
def State.spoiltBead (s : State) (set k b : Nat) : Bool :=
  s.cmds.any (fun d => d.set == set && d.spoilt.contains (k, b))

/-- R143, R156: the beads of a write of a command: set full where no later write of it touches the bead, as `later` says, else
noted; a bead of a failed tile stays empty. Iterations that have come about once already (R123) leave the beads alone. -/
def State.engFill (s : State) (c : Cmd) (ts : List (Target × Nat)) (later : Nat → Nat → Bool) : State :=
  if c.redo ≠ 0 then s
  else
    ts.foldl (fun s x =>
      match x.1 with
      | .pad k off _ =>
        let bs := (beadsOf off x.2).filter (fun b => !(s.spoiltBead c.set k b))
        let now := bs.filter (fun b => !later k b)
        let s1 := s.beadsOpen c.inst k (bs.filter (later k))
        if now.isEmpty then s1 else (s1.modCrew k (fun c => c.fill now)).beadsShut c.set k now
      | _ => s) s

/-- R143: the beads noted for a command set full: nothing of the set touches them again, as `later` says. -/
def State.closeBeads (s : State) (c : Cmd) (later : Nat → Nat → Bool) : State :=
  (c.open_.filter (fun x => !later x.1 x.2)).foldl (fun s x =>
    (s.modCrew x.1 (fun k => k.fill [x.2])).beadsShut c.set x.1 [x.2]) s

/-- R155, R156: the beads of a range left empty by a command. -/
def State.engDrain (s : State) (c : Cmd) (ts : List (Target × Nat)) : State :=
  if c.redo ≠ 0 then s
  else
  ts.foldl (fun s x =>
    match x.1 with
    | .pad k off _ =>
      let bs := beadsOf off x.2
      let s1 := s.modCmd c.inst (fun d => { d with spoilt := bs.map (fun b => (k, b)) ++ d.spoilt })
      (s1.modCrew k (fun c => c.drain bs)).beadsShut c.set k bs
    | _ => s) s

/-! ### Iteration -/

/-- The counts of a command's nest, level 0 first (R204, R209, R214, R222). -/
def nestCounts (k : CmdKind) (b : List Byte) : List Nat :=
  match k with
  | .copy => (List.range 5).map (fun l => if l < blkU b 0x1C 1 then blkU b (0x20 + 16 * l) 4 else 1)
  | .gather => [blkU b 0x28 4, 1, 1, 1, 1]
  | .scatter => [blkU b 0x28 4, 1, 1, 1, 1]
  | .mgt => gridDims b 0x28 ++ [1, 1]
  | .coll => [1, 1, 1, 1, 1]
  | .tsend => [blkU b 0x18 4 / 16, 1, 1, 1, 1]

/-- The vector after an iteration vector, or none at the end of the nest. -/
def nestNext : List Nat → List Nat → Option (List Nat)
  | c :: cs, i :: is =>
    if i + 1 < c then some ((i + 1) :: is) else (nestNext cs is).map (fun r => 0 :: r)
  | _, _ => none

/-- The iterations of a nest that precede a vector. -/
def nestIndex : List Nat → List Nat → Nat
  | c :: cs, i :: is => i + c * nestIndex cs is
  | _, _ => 0

/-- The product of the counts. -/
def nestTotal (cs : List Nat) : Nat := cs.foldl (· * ·) 1

/-- The sum of the indices times the strides. -/
def strideSum (is : List Nat) (ss : List Int) : Int := ((is.zip ss).map (fun x => (x.1 : Int) * x.2)).foldl (· + ·) 0

/-- An address moved by a signed number of bytes, modulo 2^64. -/
def addrAdd (a : DW) (i : Int) : DW := a + BitVec.ofInt 64 i

/-- R203: the source and destination strides of COPY. -/
def copyStrides (b : List Byte) (o : Nat) : List Int := (List.range 5).map (fun l => blkI b (o + 16 * l))

/-- The width of a destination element. -/
def destWidth (k : CmdKind) (b : List Byte) : Nat :=
  match k with
  | .mgt => ((Fmt.ofCode (blkU b 0x2E 1)).map Fmt.bits).getD 0 / 8
  | .tsend => 16
  | .coll => 1
  | _ =>
    match blkCvt b with
    | some (_, some g) => g.bits / 8
    | _ => blkElem b

/-- R204, R209, R214, R465: where an iteration writes, for the kinds whose destination no index table names. -/
def nestDest (k : CmdKind) (b : List Byte) (iv : List Nat) : DW :=
  let w : Int := destWidth k b
  match k with
  | .copy => addrAdd (blkDst b) (strideSum iv (copyStrides b 0x28))
  | .mgt => addrAdd (blkA b 0x20) (strideSum iv [w, blkI b 0x30 * w, blkI b 0x34 * w])
  | _ => addrAdd (blkDst b) (strideSum iv [w])

/-- Iterations after a vector, at most `n` of them. -/
def nestAfter (cs : List Nat) : Nat → List Nat → List (List Nat)
  | 0, _ => []
  | n + 1, iv =>
    match nestNext cs iv with
    | none => []
    | some j => j :: nestAfter cs n j

/-- The iteration vectors of a nest. -/
def nestAll (cs : List Nat) : List (List Nat) :=
  if nestTotal cs = 0 then [] else [0, 0, 0, 0, 0] :: nestAfter cs (nestTotal cs) [0, 0, 0, 0, 0]

/-- Whether a gang-form write of `n` bytes at an address touches bead `bd` of crew number `idx` of the gang. -/
def touches (va : DW) (n idx bd : Nat) : Bool :=
  vaClass va == 2 && (va.extractLsb' 58 3).toNat == idx &&
  decide ((va.extractLsb' 0 19).toNat < 16 * (bd + 1)) && decide (16 * bd < (va.extractLsb' 0 19).toNat + n)

/-- R143: whether any of these iteration vectors' writes touches a bead. -/
def anyTouches (k : CmdKind) (b : List Byte) (ivs : List (List Nat)) (idx bd : Nat) : Bool :=
  ivs.any (fun iv => touches (nestDest k b iv) (destWidth k b) idx bd)

/-- R450: whether a command is in the read phase of a SCATTER with COMBINE. -/
def Cmd.reading (c : Cmd) : Bool := c.kind == .scatter && isCombine c.blk && c.ivec.getD 1 0 == 0

/-- R450: whether a command is in the write phase of a SCATTER with COMBINE. -/
def Cmd.combining (c : Cmd) : Bool := c.kind == .scatter && isCombine c.blk && c.ivec.getD 1 0 == 1

/-- R450: the distinct indices of a buffer, ascending. -/
def bufIndices (buf : List (Nat × List Byte × Bool)) : List Nat := buf.foldl (fun l x => setInsert x.1 l) []

/-- The width of an element of a collective in bytes. -/
def collElemWidth (b : List Byte) : Nat := ((Fmt.ofCode (blkU b 0x1C 1)).getD .fp32).bits / 8

/-- R223: destination bytes of a command, and those already written, some of which it may be about to write again (R123); with
COMBINE the distinct indices count, and the read phase writes nothing (R450). -/
def Cmd.bytesTotal (c : Cmd) : Nat :=
  if c.kind = .coll then c.result.length
  else if c.combining then (bufIndices c.buf).length * destWidth c.kind c.blk
  else nestTotal (nestCounts c.kind c.blk) * destWidth c.kind c.blk
def Cmd.bytesDone (c : Cmd) : Nat :=
  if c.kind = .coll then c.ivec.getD 0 0 + c.redo * collElemWidth c.blk
  else if c.phase = .ended then c.bytesTotal
  else if c.reading then 0
  else if c.combining then (c.ivec.getD 0 0 + c.redo) * destWidth c.kind c.blk
  else (nestIndex (nestCounts c.kind c.blk) c.ivec + c.redo) * destWidth c.kind c.blk

/-- R123, R228: the books of an iteration that touched these 64 KiB pages. -/
def Cmd.paged (c : Cmd) (pages : List Nat) : Cmd :=
  if c.pages = pages then { c with sincePage := c.sincePage + 1, redo := c.redo - 1 }
  else { c with pages := pages, pageIv := c.ivec, sincePage := 1, redo := c.redo - 1 }

/-- R123, R462: a command back at its last page boundary, with what it did since then to do again. -/
def Cmd.rewind (c : Cmd) : Cmd :=
  if c.sincePage = 0 then c
  else { c with ivec := c.pageIv, sent := false, redo := c.redo + c.sincePage, sincePage := 0, pages := [],
                buf := if c.reading then c.buf.take (c.pageIv.getD 0 0) else c.buf }

/-! ### Converted elements -/

/-- R204, R278: the destination bytes of one element, its merged value, and whether it overflowed under TRAP. -/
structure Elem where
  bytes : List Byte
  val : DW
  trap : Bool
deriving DecidableEq, Repr

/-- R201, R204: an exact value converted to a format. -/
def elemOf (g : Fmt) (rnd : Nat) (v : FVal) : Elem :=
  let k := convertTo g (rndRm rnd) (rndOv rnd) false v
  { bytes := toLE (g.bits / 8) k.bits, val := toDW k.bits, trap := k.trap }

/-- R204, R278: one element copied or converted. -/
def elemCopy (b : List Byte) (bs : List Byte) (poisoned : Bool) : Elem :=
  match blkCvt b with
  | some (some f, some g) => elemOf g (blkU b 0x1B 1) (if poisoned then .nan false else Fmt.value f (leNat bs))
  | _ => { bytes := bs, val := toDW (leNat bs), trap := false }

/-! ### Weight tiles (R150 to R155) -/

/-- R152: CRC-32C, one bit at a time. -/
def crcBits : Nat → BitVec 32 → BitVec 32
  | 0, c => c
  | n + 1, c => crcBits n (if c.getLsbD 0 then (c >>> 1) ^^^ 0x82F63B78 else c >>> 1)

/-- R152: CRC-32C of bytes. -/
def crc32c (bs : List Byte) : BitVec 32 :=
  ~~~(bs.foldl (fun c b => crcBits 8 (c ^^^ b.setWidth 32)) (BitVec.allOnes 32))

/-- R153: the codeword of each nibble value: (symbol, length, code), lengths ascending. -/
def codeTable (clen : List Nat) : List (Nat × Nat × Nat) :=
  ((List.range 15).foldl (fun (acc : List (Nat × Nat × Nat) × Nat) l =>
    let r := (List.range 16).foldl (fun (acc : List (Nat × Nat × Nat) × Nat) v =>
      if clen.getD v 0 = l + 1 then (acc.1 ++ [(v, l + 1, acc.2)], acc.2 + 1) else acc) acc
    (r.1, 2 * r.2)) ([], 0)).1

/-- R153: one symbol from a bit string, with the bits that follow. -/
def readSymbol (tbl : List (Nat × Nat × Nat)) : Nat → Nat → Nat → List Bool → Option (Nat × List Bool)
  | 0, _, _, _ => none
  | _ + 1, _, _, [] => none
  | n + 1, len, code, x :: bs =>
    let c := 2 * code + (if x then 1 else 0)
    match tbl.find? (fun t => t.2.1 == len + 1 && t.2.2 == c) with
    | some t => some (t.1, bs)
    | none => readSymbol tbl n (len + 1) c bs

/-- R153: `n` nibbles decoded, with the bits left over. -/
def readNibbles (tbl : List (Nat × Nat × Nat)) : Nat → List Bool → Option (List Nat × List Bool)
  | 0, bs => some ([], bs)
  | n + 1, bs =>
    match readSymbol tbl 15 0 0 bs with
    | none => none
    | some (v, r) => (readNibbles tbl n r).map (fun x => (v :: x.1, x.2))

/-- R153: the bits of a payload, most significant first. -/
def bitsMsb (bs : List Byte) : List Bool := bs.flatMap (fun b => (List.range 8).map (fun i => b.getLsbD (7 - i)))

/-- Nibbles in bytes, the lower one first. -/
def packNibbles : List Nat → List Byte
  | a :: b :: r => BitVec.ofNat 8 (a + 16 * b) :: packNibbles r
  | _ => []

/-- R151 to R154: a stored tile expanded, or the sub-code of the first check it fails; `below` is the room in bytes from
its start to the index table. -/
def expandTile (t : List Byte) (below : Nat) : List Byte ⊕ Nat :=
  let len := blkU t 0 2
  let raw := (t.getD 2 0).getLsbD 0
  let round := (len + 15) / 16 * 16
  let clen := (List.range 16).map (fun v => blkU t 4 8 / 2 ^ (4 * v) % 16)
  let present := (clen.filter (· != 0)).length
  let kraft := (clen.filter (· != 0)).foldl (fun acc l => acc + 2 ^ (15 - l)) 0
  let payload := (t.drop 16).take len
  let tail := (t.drop (16 + round)).take 320
  let check (img : List Byte) : List Byte ⊕ Nat :=
    if (crc32c img).toNat = blkU t 12 4 then .inl img else .inr 6
  if below < 16 || below < 16 + round + 320 then .inr 7
  else if blkU t 2 1 / 2 ≠ 0 || blkU t 3 1 ≠ 0 then .inr 8
  else if !raw && 2048 < len then .inr 5
  else if raw then (if len ≠ 2048 then .inr 3 else check (payload ++ tail))
  else if 2 ^ 15 < kraft then .inr 1
  else if present = 0 || (kraft < 2 ^ 15 && present ≠ 1) then .inr 2
  else
    match readNibbles (codeTable clen) 4096 (bitsMsb payload) with
    | none => .inr 3
    | some (ns, rest) => if 8 ≤ rest.length then .inr 4 else check (packNibbles ns ++ tail)

end Sys2Proof.Machine
end

