-- ==== Sys2Proof/Machine/EngineRun.lean ====
section
/-!
DEFINITION. Sys2Proof/Machine/EngineRun.lean: one iteration of each engine command (R204, R206, R209, R210, R212 to R214,
R450, R465) and the chunks in which an engine moves its data (R204, R228, R250).
-/
namespace Sys2Proof.Machine

/-- What one iteration does. -/
inductive Iter where
  /-- written; the destination's package and merged value, and a best-effort fault: cause, sub-code and DETAIL -/
  | ok (s : State) (val : Option (Nat × DW)) (note : Option (Nat × Nat × DW))
  /-- stopped before this iteration by a cause, with its address -/
  | stop (s : State) (cause : Nat) (faddr : DW)
  /-- it waits; the state holds the request for page-fault service that `ask` names: address, sub-code, level -/
  | wait (s : State) (w : Stall) (ask : Option (DW × Nat × Nat))

/-- R228, R266: what the accesses of an iteration that do not all pass make of it. -/
def State.engBlocked (s : State) (w : Who) (sub : Nat) (accs : List LaneAcc) : Option Iter :=
  match accs.find? LaneAcc.isBad with
  | some x =>
    match x.res with
    | .bad cause _ => some (.stop (s.failSent w accs) cause x.va)
    | _ => none
  | none =>
    match accs.find? (fun x => !x.isOk) with
    | some x =>
      match x.res with
      | .service l =>
        let r := s.faultWait w x.va sub l
        some (.wait r.2 r.1 (some (x.va, sub, l)))
      | .wait st => some (.wait s st none)
      | _ => none
    | none => none

/-- R249, R293: the package that holds a target: of a control line, its home. -/
def State.packageOf (s : State) (t : Target) (own : Nat) : Nat :=
  match t with
  | .ctl pa _ => s.homeAt .ctl pa
  | .ten pa => s.homeAt .ten pa
  | .pad _ _ _ => own
  | .mmio _ => own

/-- R163, R221: the VF of a tenant on another package: that of the same number if it belongs to the tenant, else the
lowest-numbered one that does. -/
def State.tenantVf (s : State) (pkg vf target : Nat) : Nat :=
  if s.domain pkg vf = s.domain target vf then vf
  else ((List.range 128).find? (fun v => decide (s.domain pkg vf = s.domain target v))).getD vf

/-- R212, R420: whether an access of a command reads its stencil table, of 27 weights for a restriction and 64 for a prolongation. -/
def Cmd.inTable (c : Cmd) (x : LaneAcc) : Bool :=
  c.kind == .mgt && decide (blkA c.blk 0x38 ≤ x.va) &&
    decide ((x.va - blkA c.blk 0x38).toNat <
      (if blkU c.blk 0x40 1 = 0 then 27 else 64) * (if gridFmt (blkU c.blk 0x16 1) == some .fp64 then 8 else 4))

/-- R161, R421: whether an access of a COPY, a GATHER, a SCATTER or an MGT reads source bytes written since the command started. -/
def State.hotSource (s : State) (c : Cmd) (x : LaneAcc) : Bool :=
  c.kind != .tsend && c.kind != .coll && !c.inTable x && s.changedSince c.ran (accTargets [x])

/-- R161, R421: the moment, as a length of the log of writes, of which a command reads a source point for a destination bead:
before or after each write to the source, as a free value says; the points of an MGT each of their own (DEDUCED,
notes/assumptions/87.md). -/
def State.sourceTime (s : State) (c : Cmd) (bead : Nat) (va : DW) : Nat :=
  min s.wlog.length (c.ran + Config.readTime c.opNum bead (if c.kind = .mgt then va.toNat else 0))

/-- R161: bytes already read by accesses, with those of a hot source as they stood at the moment of a destination bead. -/
def State.seenBytes (s : State) (c : Cmd) (w : Who) (bead : Nat) : List LaneAcc → List Byte → List Byte
  | [], _ => []
  | x :: r, bs =>
    (if s.hotSource c x then ((s.asOf (s.sourceTime c bead x.va)).engRead w (accTargets [x])).1.1 else bs.take x.lane) ++
      s.seenBytes c w bead r (bs.drop x.lane)

/-- R161: the element of `n` bytes that an iteration writes at an address, formed from what it reads, each destination bead from its
own reading. -/
def State.seenElem (s : State) (c : Cmd) (w : Who) (srcs : List LaneAcc) (bs : List Byte) (dst : DW) (n : Nat)
    (form : List Byte → Elem) : Elem :=
  if srcs.any (s.hotSource c) then
    let o := dst.toNat % 16
    let es := (List.range ((o + n + 15) / 16)).map (fun k => form (s.seenBytes c w (dst.toNat / 16 + k) srcs bs))
    let out := (List.range n).map (fun i => ((es[(o + i) / 16]?).map (fun e => e.bytes.getD i 0)).getD 0)
    { bytes := out, val := toDW (leNat out), trap := es.any Elem.trap }
  else form bs

/-- R161, R206, R450: what a command reads at targets for a weight tile or a contribution, with the poison and the copies the reads
leave: of a source written since it started, the bytes of one moment (DEDUCED, notes/assumptions/87.md). -/
def State.momentRead (s : State) (c : Cmd) (w : Who) (dst : DW) (ts : List (Target × Nat)) : (List Byte × Bool) × State :=
  let r := s.engRead w ts
  let at_ := s.sourceTime c (dst.toNat / 16) 0
  ((if s.changedSince c.ran ts then ((s.asOf at_).engRead w ts).1.1 else r.1.1, r.1.2), r.2)

/-- R198, R421: the bytes read by accesses as MGT takes them: a stencil weight written since the command's acceptance gives
free values. -/
def State.hotBytes (s : State) (c : Cmd) (accs : List LaneAcc) (bs : List Byte) : List Byte × State :=
  let r := accs.foldl (fun (acc : (List Byte × State) × List Byte) x =>
    let v := acc.1.2.freeWhere (fun _ => c.inTable x && s.changedSince c.mark (accTargets [x])) (acc.2.take x.lane)
    ((acc.1.1 ++ v.1, v.2), acc.2.drop x.lane)) (([], s), bs)
  r.1

/-- Whether byte `i` of a write to targets lies among other targets. -/
def hitsByte (own : List (Target × Nat)) : List (Target × Nat) → Nat → Bool
  | [], _ => false
  | x :: r, i =>
    if i < x.2 then
      (x.1.stands).any (fun p => own.any (fun y => (y.1.stands).any (fun q =>
        p.1 == q.1 && decide (q.2 ≤ p.2 + i) && decide (p.2 + i < q.2 + y.2))))
    else hitsByte own r (i - x.2)

/-- R204, R214: the unpredictable bytes of an element: a slice's bytes where its destination overlaps its own source, and
the whole of an MGT output that overlaps. -/
def Cmd.overlap (c : Cmd) (own : List (Target × Nat)) (n : Nat) (ts : List (Target × Nat)) (i : Nat) : Bool :=
  if c.kind = .mgt then (List.range n).any (hitsByte own ts) else hitsByte own ts i

/-- R209, R397, R449: the unpredictable bytes of an element of a GATHER or a SCATTER: those read where the command itself
writes, since its positions come about in any order (DEDUCED, notes/assumptions/86.md); a converted element is
unpredictable whole. -/
def Cmd.ownWrites (c : Cmd) (dests : List (Target × Nat)) (srcs : List LaneAcc) (i : Nat) : Bool :=
  if (blkCvt c.blk).isNone then hitsByte dests (accTargets srcs) i
  else (List.range (blkElem c.blk)).any (hitsByte dests (accTargets srcs))

/-- The end of an iteration that reads `src` bytes, forms an element from them, and writes it; `free` says which bytes of the
element are unpredictable, given its targets, `bad` that something already read was poisoned. -/
def State.iterWrite (s : State) (c : Cmd) (w : Who) (srcs : List LaneAcc) (dst : DW) (dw : Nat) (bad : Bool)
    (free : List (Target × Nat) → Nat → Bool) (later : Nat → Nat → Bool) (form : List Byte → Bool → Elem) : Iter :=
  let dsts := s.engAccs w c.wait Kind.engineWrite dst dw
  match s.engBlocked w 0 srcs with
  | some r => r
  | none =>
    match s.engBlocked w 1 dsts with
    | some r => r
    | none =>
      let r := s.engRead w (accTargets srcs)
      let poisoned := r.1.2 || bad
      let h := r.2.hotBytes c srcs r.1.1
      let e := s.seenElem c w srcs h.1 dst dw (fun bs => form bs poisoned)
      if e.trap then .stop h.2 Cause.cvtOverflow 0
      else
        let ts := accTargets dsts
        let o := h.2.freeWhere (free ts) e.bytes
        let s1 := (srcs ++ dsts).foldl (fun s x => s.tlbFill w x.va) o.2
        let s2 := (s1.engWrite c w ts o.1 poisoned).engFill c ts later
        .ok s2 (some (((ts.head?).map (fun x => s.packageOf x.1 c.pkg)).getD c.pkg,
            if o.1 = e.bytes then e.val else toDW (leNat o.1)))
          (if poisoned then some (Cause.poison, 0, 0) else none)

/-! ### Beads still to be written -/

/-- The number of a crew in its gang. -/
def State.crewIdx (s : State) (k : Nat) : Nat := ((s.crew? k).map (fun c => c.idx)).getD 8

/-- R143: whether a later iteration of the command, in this slice or in another slice of its set, writes a bead. -/
def State.laterNest (s : State) (c : Cmd) (crew bd : Nat) : Bool :=
  let idx := s.crewIdx crew
  let rest (d : Cmd) (own : Bool) : Bool :=
    let cs := nestCounts d.kind d.blk
    let tail := nestAfter cs (nestTotal cs) d.ivec
    anyTouches d.kind d.blk (if own then tail else d.ivec :: tail) idx bd
  rest c true || s.cmds.any (fun d => d.set == c.set && d.inst != c.inst && d.phase != .ended && rest d false)

/-- R208: entry `i` of the index array, where it can be read. -/
def State.idxPeek (s : State) (w : Who) (b : List Byte) (i : Nat) : Option Nat :=
  let accs := s.engAccs w none Kind.engineRead (blkA b 0x20 + toDW (i * idxBytes b)) (idxBytes b)
  if accs.all LaneAcc.isOk then some (leNat (s.engRead w (accTargets accs)).1.1) else none

/-- R209: the destination of an index. -/
def idxDest (b : List Byte) (j : Nat) : DW := blkDst b + BitVec.ofNat 64 (j * destWidth .scatter b)

/-- R143: whether a later position of a SCATTER writes a bead. -/
def State.laterScatter (s : State) (w : Who) (c : Cmd) (crew bd : Nat) : Bool :=
  let idx := s.crewIdx crew
  let i := c.ivec.getD 0 0
  (List.range (blkU c.blk 0x28 4 - (i + 1))).any (fun k =>
    match s.idxPeek w c.blk (i + 1 + k) with
    | some j => touches (idxDest c.blk j) (destWidth .scatter c.blk) idx bd
    | none => true)

/-! ### COPY -/

/-- R206, R278: the element that an expanded tile gives; a poisoned one gives the value of R277. -/
def tileElem (img : List Byte) (poisoned : Bool) : Elem :=
  { bytes := if poisoned then (List.range 2368).map poisonByte else img, val := 0, trap := false }

/-- R155: a malformed tile: its image written as zeros, its beads left empty, and the note of its record. -/
def State.badTile (s : State) (c : Cmd) (w : Who) (ts : List (Target × Nat)) (sub : Nat) (tile : Int) : Iter :=
  let s1 := s.engWrite c w ts (List.replicate 2368 0) false
  .ok (s1.engDrain c ts) none (some (Cause.weightBlock, sub, BitVec.ofInt 64 tile))

/-- R204: the targets of the source of a COPY slice, of which those that can be read now are listed; with EXP, of its
weight region. -/
def State.copySource (s : State) (c : Cmd) (w : Who) : List (Target × Nat) :=
  let b := c.blk
  if isExp b then
    let n := (blkA b 0x70).toNat - (blkSrc b).toNat
    (List.range (n / 65536 + 1)).flatMap (fun i =>
      accTargets (s.engAccs w none Kind.engineRead (blkSrc b + toDW (65536 * i)) (min 65536 (n - 65536 * i))))
  else
    (nestAll (nestCounts .copy b)).flatMap (fun iv =>
      accTargets (s.engAccs w none Kind.engineRead (addrAdd (blkSrc b) (strideSum iv (copyStrides b 0x24))) (blkElem b)))

/-- R206, R151 to R155, R278: one weight tile; a poisoned entry, header or tile gives a poisoned image. -/
def State.iterTile (s : State) (c : Cmd) (w : Who) : Iter :=
  let b := c.blk
  let n := strideSum c.ivec (copyStrides b 0x24)
  let dst := nestDest .copy b c.ivec
  let dsts := s.engAccs w c.wait Kind.engineWrite dst 2368
  let tidx := blkA b 0x70
  let ents := s.engAccs w c.wait Kind.engineRead (addrAdd tidx (4 * n)) 4
  let bad (s : State) (sub : Nat) : Iter :=
    match s.engBlocked w 1 dsts with
    | some r => r
    | none => s.badTile c w (accTargets dsts) sub n
  if n < 0 then bad s 7
  else
    match s.engBlocked w 0 ents with
    | some r => r
    | none =>
      let r0 := (ents.foldl (fun s x => s.tlbFill w x.va) s).engRead w (accTargets ents)
      let ruined (s : State) : Iter := s.iterWrite c w [] dst 2368 true (fun _ _ => false) (s.laterNest c) (fun _ _ => tileElem [] true)
      if r0.1.2 then ruined r0.2
      else
        let v := r0.2.tableNat c (accTargets ents) 4 r0.1.1
        let src := blkSrc b + toDW (v.1 / 16 * 16)
        let below := tidx.toNat - src.toNat
        if v.1 % 16 ≠ 0 || below < 16 then bad v.2 7
        else
          let heads := v.2.engAccs w c.wait Kind.engineRead src 16
          match v.2.engBlocked w 0 heads with
          | some r => r
          | none =>
            let r1 := (heads.foldl (fun s x => s.tlbFill w x.va) v.2).momentRead c w dst (accTargets heads)
            let size := 16 + (blkU r1.1.1 0 2 + 15) / 16 * 16 + 320
            if r1.1.2 then ruined r1.2
            else if below < size then bad r1.2 7
            else
              let alls := r1.2.engAccs w c.wait Kind.engineRead src size
              match r1.2.engBlocked w 0 alls with
              | some r => r
              | none =>
                let r2 := (alls.foldl (fun s x => s.tlbFill w x.va) r1.2).momentRead c w dst (accTargets alls)
                if r2.1.2 then ruined r2.2
                else
                  match expandTile r2.1.1 below with
                  | .inr sub => bad r2.2 sub
                  | .inl img =>
                    r2.2.iterWrite c w alls dst 2368 false (c.overlap (s.copySource c w) 2368) (r2.2.laterNest c) (fun _ p => tileElem img p)

/-- R204: one iteration of COPY. -/
def State.iterCopy (s : State) (c : Cmd) (w : Who) : Iter :=
  if isExp c.blk then s.iterTile c w
  else
    let src := addrAdd (blkSrc c.blk) (strideSum c.ivec (copyStrides c.blk 0x24))
    let srcs := s.engAccs w c.wait Kind.engineRead src (blkElem c.blk)
    s.iterWrite c w srcs (nestDest .copy c.blk c.ivec) (destWidth .copy c.blk) false
      (c.overlap (s.copySource c w) (destWidth .copy c.blk)) (s.laterNest c) (elemCopy c.blk)

/-! ### GATHER and SCATTER -/

/-- R198, R397, R449: the index entry of a position: an iteration that stops or waits, or the index and the state. -/
def State.idxRead (s : State) (c : Cmd) (w : Who) (i : Nat) : Iter ⊕ (Nat × State) :=
  let accs := s.engAccs w c.wait Kind.engineRead (blkA c.blk 0x20 + toDW (i * idxBytes c.blk)) (idxBytes c.blk)
  match s.engBlocked w 0 accs with
  | some r => .inl r
  | none =>
    let r := (accs.foldl (fun s x => s.tlbFill w x.va) s).engRead w (accTargets accs)
    if r.1.2 then .inl (.stop r.2 Cause.poison (blkA c.blk 0x20 + toDW (i * idxBytes c.blk)))
    else .inr (r.2.tableNat c (accTargets accs) (idxBytes c.blk) r.1.1)

/-- R397: the targets of a GATHER's destination, of which those that can be written now are listed. -/
def State.gatherDests (s : State) (c : Cmd) (w : Who) : List (Target × Nat) :=
  (List.range (blkU c.blk 0x28 4)).flatMap (fun i =>
    accTargets (s.engAccs w none Kind.engineWrite (nestDest .gather c.blk [i]) (destWidth .gather c.blk)))

/-- R449: the targets of a SCATTER's destinations, of which those that can be written now are listed. -/
def State.scatterDests (s : State) (c : Cmd) (w : Who) : List (Target × Nat) :=
  ((List.range (blkU c.blk 0x28 4)).filterMap (s.idxPeek w c.blk)).flatMap (fun j =>
    accTargets (s.engAccs w none Kind.engineWrite (idxDest c.blk j) (destWidth .scatter c.blk)))

/-- R397: one position of GATHER. -/
def State.iterGather (s : State) (c : Cmd) (w : Who) : Iter :=
  match s.idxRead c w (c.ivec.getD 0 0) with
  | .inl r => r
  | .inr (j, s1) =>
    let src := blkSrc c.blk + BitVec.ofNat 64 (j * blkElem c.blk)
    let srcs := s1.engAccs w c.wait Kind.engineRead src (blkElem c.blk)
    s1.iterWrite c w srcs (nestDest .gather c.blk c.ivec) (destWidth .gather c.blk) false
      (fun _ => c.ownWrites (s.gatherDests c w) srcs) (s1.laterNest c) (elemCopy c.blk)

/-- R449: one position of SCATTER without COMBINE. -/
def State.iterScatter (s : State) (c : Cmd) (w : Who) : Iter :=
  let i := c.ivec.getD 0 0
  match s.idxRead c w i with
  | .inl r => r
  | .inr (j, s1) =>
    let srcs := s1.engAccs w c.wait Kind.engineRead (blkSrc c.blk + toDW (i * blkElem c.blk)) (blkElem c.blk)
    s1.iterWrite c w srcs (idxDest c.blk j) (destWidth .scatter c.blk) false
      (fun _ => c.ownWrites (s.scatterDests c w) srcs) (s1.laterScatter w c) (elemCopy c.blk)

/-- R210, R450: the combination of the source values of one index. -/
def combine (b : List Byte) (vals : List (List Byte × Bool)) : Elem :=
  match blkCvt b with
  | some (some f, some g) =>
    let op := blkU b 0x1C 1
    let rnd := blkU b 0x1B 1
    let vs := vals.map (fun x => if x.2 then FVal.nan false else Fmt.value f (leNat x.1))
    let pick (less : FVal → FVal → Bool) : FVal :=
      match vs with
      | [] => .fin false 0 0
      | v :: r => if vs.any FVal.isNan then .nan false else r.foldl (fun m x => if less x m then x else m) v
    let ints := !Fmt.isFloat f && !Fmt.isFloat g
    if op = 1 then elemOf g rnd (pick (fun x y => x.ltz y))
    else if op = 2 then elemOf g rnd (pick (fun x y => y.ltz x))
    else if ints && !(vs.any FVal.isNan) then
      let t := (vs.map (FVal.toIntAt 0)).foldl (· + ·) 0
      { bytes := toLE (g.bits / 8) (t % 2 ^ 32).toNat, val := toDW (t % 2 ^ 32).toNat, trap := false }
    else elemOf g rnd (sumExact false vs)
  | _ => { bytes := [], val := 0, trap := false }

/-- R450: the contributions of one index, in position order. -/
def bufOf (buf : List (Nat × List Byte × Bool)) (j : Nat) : List (List Byte × Bool) :=
  (buf.filter (fun x => x.1 == j)).map (fun x => (x.2.1, x.2.2))

/-- R450: one position of the read phase. -/
def State.iterRead (s : State) (c : Cmd) (w : Who) : Iter :=
  let i := c.ivec.getD 0 0
  match s.idxRead c w i with
  | .inl r => r
  | .inr (j, s1) =>
    let srcs := s1.engAccs w c.wait Kind.engineRead (blkSrc c.blk + toDW (i * blkElem c.blk)) (blkElem c.blk)
    match s1.engBlocked w 0 srcs with
    | some r => r
    | none =>
      let r := (srcs.foldl (fun s x => s.tlbFill w x.va) s1).engRead w (accTargets srcs)
      .ok (r.2.modCmd c.inst (fun c => { c with buf := c.buf ++ [(j, r.1.1, r.1.2)] })) none
        (if r.1.2 then some (Cause.poison, 0, 0) else none)

/-- R161, R450: a contribution of the read phase as it stood at the moment of its destination bead, so that each bead is of its
sources' bytes of one time (DEDUCED, notes/assumptions/87.md); one that the command itself writes, or that cannot be read any
longer, as it was read. -/
def State.freshPart (s : State) (c : Cmd) (w : Who) (i : Nat) (x : Nat × List Byte × Bool) : Nat × List Byte × Bool :=
  let srcs := s.engAccs w none Kind.engineRead (blkSrc c.blk + toDW (i * blkElem c.blk)) (blkElem c.blk)
  if srcs.all LaneAcc.isOk && !(List.range (blkElem c.blk)).any (hitsByte (s.scatterDests c w) (accTargets srcs)) then
    (x.1, (s.momentRead c w (idxDest c.blk x.1) (accTargets srcs)).1)
  else x

/-- R450: one index of the write phase. -/
def State.iterCombined (s : State) (c : Cmd) (w : Who) : Iter :=
  let js := bufIndices c.buf
  match js[c.ivec.getD 0 0]? with
  | none => .ok s none none
  | some j =>
    let parts := ((List.range c.buf.length).zip c.buf).filter (fun x => x.2.1 == j)
    let vals := bufOf (parts.map (fun x => s.freshPart c w x.1 x.2)) j
    let e := combine c.blk vals
    let dst := idxDest c.blk j
    let dw := destWidth .scatter c.blk
    let dsts := s.engAccs w c.wait Kind.engineWrite dst dw
    match s.engBlocked w 1 dsts with
    | some r => r
    | none =>
      if e.trap then .stop s Cause.cvtOverflow 0
      else
        let ts := accTargets dsts
        let bad := vals.any (fun x => x.2)
        let later (crew bd : Nat) : Bool :=
          (js.drop (c.ivec.getD 0 0 + 1)).any (fun k => touches (idxDest c.blk k) dw (s.crewIdx crew) bd)
        .ok ((s.engWrite c w ts e.bytes bad).engFill c ts later)
          (some (((ts.head?).map (fun x => s.packageOf x.1 c.pkg)).getD c.pkg, e.val))
          (if bad then some (Cause.poison, 0, 0) else none)

/-! ### MGT -/

/-- R213: a source index taken by the boundary rule; none where the tap is skipped. -/
def bndIndex (bnd n : Nat) (j : Int) : Option Nat :=
  if 0 ≤ j && j < n then some j.toNat
  else if bnd = 0 then none
  else if bnd = 1 then some (if j < 0 then 0 else n - 1)
  else some (j % n).toNat

/-- R212: the offsets of one dimension. -/
def tapOffsets (restrict flat : Bool) : List Int := if flat then [0] else if restrict then [-1, 0, 1] else [0, 1]

/-- R212, R213: the taps of an output point: weight number and source point. -/
def mgtTaps (b : List Byte) (x y z : Nat) : List (Nat × Nat × Nat × Nat) :=
  let restrict := blkU b 0x40 1 == 0
  let bnd := blkU b 0x41 1
  let sn := gridDims b 0x10
  let dn := gridDims b 0x28
  let flat (d : Nat) : Bool := sn.getD d 1 == 1 && dn.getD d 1 == 1
  let base (v : Nat) : Int := if restrict then 2 * (v : Int) else (v / 2 : Nat)
  let p := x % 2 + 2 * (y % 2) + 4 * (z % 2)
  (tapOffsets restrict (flat 2)).flatMap (fun oz =>
    (tapOffsets restrict (flat 1)).flatMap (fun oy =>
      (tapOffsets restrict (flat 0)).filterMap (fun ox =>
        let w := if restrict then 9 * (oz + 1) + 3 * (oy + 1) + (ox + 1) else 8 * (p : Int) + ox + 2 * oy + 4 * oz
        match bndIndex bnd (sn.getD 0 1) (base x + ox), bndIndex bnd (sn.getD 1 1) (base y + oy),
              bndIndex bnd (sn.getD 2 1) (base z + oz) with
        | some i, some j, some k => some (w.toNat, i, j, k)
        | _, _, _ => none)))

/-- R56, R212: the value of an output point from each tap's source and weight bytes, in pairs. -/
def mgtValue (sf wf : Fmt) : List (List Byte × List Byte) → FVal
  | l => sumExact false ((.fin false 0 0) :: l.map (fun x => (Fmt.value wf (leNat x.2)).mul (Fmt.value sf (leNat x.1))))

/-- Bytes cut into (source, weight) pairs. -/
def mgtPairs (n k : Nat) : Nat → List Byte → List (List Byte × List Byte)
  | 0, _ => []
  | f + 1, bs => if bs.isEmpty then [] else (bs.take n, (bs.drop n).take k) :: mgtPairs n k f (bs.drop (n + k))

/-- R214: the targets of the source points of an MGT, of which those that can be read now are listed. -/
def State.gridSource (s : State) (c : Cmd) (w : Who) : List (Target × Nat) :=
  let b := c.blk
  let n := ((gridFmt (blkU b 0x16 1)).map Fmt.bits).getD 0 / 8
  (nestAll (gridDims b 0x10 ++ [1, 1])).flatMap (fun iv =>
    accTargets (s.engAccs w none Kind.engineRead
      (addrAdd (blkSrc b) (strideSum iv [n, blkI b 0x18 * n, blkI b 0x1C * n])) n))

/-- R420: one output point of MGT. -/
def State.iterMgt (s : State) (c : Cmd) (w : Who) : Iter :=
  let b := c.blk
  let x := c.ivec.getD 0 0
  let y := c.ivec.getD 1 0
  let z := c.ivec.getD 2 0
  match gridFmt (blkU b 0x16 1), gridFmt (blkU b 0x2E 1) with
  | some sf, some df =>
    let wf : Fmt := if sf == .fp64 then .fp64 else .fp32
    let sw : Int := (sf.bits / 8 : Nat)
    let taps := mgtTaps b x y z
    let srcs := taps.flatMap (fun t =>
      s.engAccs w c.wait Kind.engineRead
        (addrAdd (blkSrc b) (((t.2.1 : Int) + t.2.2.1 * blkI b 0x18 + t.2.2.2 * blkI b 0x1C) * sw)) (sf.bits / 8) ++
      s.engAccs w c.wait Kind.engineRead (blkA b 0x38 + toDW (t.1 * (wf.bits / 8))) (wf.bits / 8))
    s.iterWrite c w srcs (nestDest .mgt b c.ivec) (df.bits / 8) false (c.overlap (s.gridSource c w) (df.bits / 8)) (s.laterNest c) (fun bs p =>
      elemOf df (blkU b 0x42 1)
        (if p then .nan false else mgtValue sf wf (mgtPairs (sf.bits / 8) (wf.bits / 8) taps.length bs)))
  | _, _ => .ok s none none

/-! ### TSEND -/

/-- R465: one 16-byte step of a send. -/
def State.iterTsend (s : State) (c : Cmd) (w : Who) : Iter :=
  let srcs := s.engAccs w c.wait Kind.engineRead (blkSrc c.blk + toDW (16 * c.ivec.getD 0 0)) 16
  s.iterWrite c w srcs (nestDest .tsend c.blk c.ivec) 16 false (fun _ _ => false) (fun _ _ => false)
    (fun bs _ => { bytes := bs, val := 0, trap := false })

/-! ### Chunks -/

/-- One iteration of a running command. -/
def State.iterate (s : State) (c : Cmd) : Iter :=
  let w := s.whoCmd c
  match c.kind with
  | .copy => s.iterCopy c w
  | .gather => s.iterGather c w
  | .scatter => if c.reading then s.iterRead c w else if c.combining then s.iterCombined c w else s.iterScatter c w
  | .mgt => s.iterMgt c w
  | .coll => .ok s none none
  | .tsend => s.iterTsend c w

/-- R450: where a resumed SCATTER with COMBINE starts its write phase. -/
def State.combineStart (s : State) (c : Cmd) : Nat :=
  if isResume c.blk then
    let r := s.rpRead c.pkg c.vf (blkRpidx c.blk + blkSlice c.blk)
    if blkU r 0x14 4 = 1 then blkU r 0x10 4 else 0
  else 0

/-- The command after an iteration: its next vector, or its end; the write phase of a SCATTER with COMBINE goes back to none
of the positions read (R228, R450). -/
def State.advance (s : State) (c : Cmd) : Cmd :=
  if c.reading then
    if c.ivec.getD 0 0 + 1 < blkU c.blk 0x28 4 then { c with ivec := [c.ivec.getD 0 0 + 1, 0, 0, 0, 0] }
    else
      { c with ivec := [s.combineStart c, 1, 0, 0, 0], pages := [], redo := 0, sincePage := 0,
               pageIv := [s.combineStart c, 1, 0, 0, 0] }
  else if c.combining then
    if c.ivec.getD 0 0 + 1 < (bufIndices c.buf).length then { c with ivec := [c.ivec.getD 0 0 + 1, 1, 0, 0, 0] }
    else { c with phase := .ended }
  else
    match nestNext (nestCounts c.kind c.blk) c.ivec with
    | some iv => { c with ivec := iv }
    | none => { c with phase := .ended }

/-- R450: the vector that a stop records. -/
def Cmd.stopVec (c : Cmd) : List Nat := if c.reading then [0, 0, 0, 0, 0] else c.ivec

/-- R225: a best-effort fault noted, if it is the slice's first. -/
def Cmd.note (c : Cmd) (seq : Nat) (iv : List Nat) (n : Option (Nat × Nat × DW)) : Cmd :=
  match n, c.fault with
  | some x, none =>
    { c with fault := some { seq := seq, cause := BitVec.ofNat 8 x.1, sub := BitVec.ofNat 8 x.2.1, complete := true,
                             ivec := iv, faddr := 0, detail := x.2.2 } }
  | _, _ => c

/-- R225, R226: a command stopped at its vector by a cause; the first cause found stays the one reported. -/
def Cmd.stopped (c : Cmd) (seq cause : Nat) (faddr : DW) : Cmd :=
  let f : CmdFault :=
    { seq := seq, cause := BitVec.ofNat 8 cause, sub := 0, complete := false, ivec := c.stopVec, faddr := faddr, detail := 0 }
  { c with phase := .ended, wait := none,
           fault := some (match c.fault with
             | some g => { f with seq := g.seq, cause := g.cause, sub := g.sub, detail := g.detail }
             | none => f) }

/-- R250: the destination bytes that one chunk may hold. -/
def chunkBytes : Nat := 4096

/-! ### Whole beads (R161, R229) -/

/-- The beads of a gang-form range: the crew's number in its gang, and the first and last bead. -/
def gangBeads (x : DW × Nat) : Option (Nat × Nat × Nat) :=
  if vaClass x.1 = 2 then
    let o := (x.1.extractLsb' 0 19).toNat
    some ((x.1.extractLsb' 58 3).toNat, o / 16, (o + x.2 - 1) / 16)
  else none

/-- Whether two ranges share a scratchpad bead. -/
def shareBead (x y : DW × Nat) : Bool :=
  match gangBeads x, gangBeads y with
  | some a, some b => a.1 == b.1 && decide (a.2.1 ≤ b.2.2) && decide (b.2.1 ≤ a.2.2)
  | _, _ => false

/-- Where an iteration of a command writes; none where that is not known yet. -/
def State.writesAt (s : State) (c : Cmd) (iv : List Nat) : Option (DW × Nat) :=
  let n := destWidth c.kind c.blk
  if c.kind = .scatter then
    if c.combining then ((bufIndices c.buf)[iv.getD 0 0]?).map (fun j => (idxDest c.blk j, n))
    else (s.idxPeek (s.whoCmd c) c.blk (iv.getD 0 0)).map (fun j => (idxDest c.blk j, n))
  else some (nestDest c.kind c.blk iv, n)

/-- Where an iteration of a COPY, a GATHER or a SCATTER reads its source; none where that is not known yet. -/
def State.readsAt (s : State) (c : Cmd) (iv : List Nat) : Option (DW × Nat) :=
  let n := blkElem c.blk
  match c.kind with
  | .copy => some (addrAdd (blkSrc c.blk) (strideSum iv (copyStrides c.blk 0x24)), n)
  | .gather =>
    (s.idxPeek (s.whoCmd c) c.blk (iv.getD 0 0)).map (fun j => (blkSrc c.blk + BitVec.ofNat 64 (j * n), n))
  | _ => some (blkSrc c.blk + toDW (iv.getD 0 0 * n), n)

/-- The iteration vectors that a command has still to run in its phase. -/
def Cmd.vectors (c : Cmd) : List (List Nat) :=
  if c.combining then (List.range ((bufIndices c.buf).length - c.ivec.getD 0 0)).map (fun k => [c.ivec.getD 0 0 + k, 1])
  else c.ivec :: nestAfter (nestCounts c.kind c.blk) (nestTotal (nestCounts c.kind c.blk)) c.ivec

/-- R161, R229: whether a running command has written a scratchpad bead in part, or read one in part, and will go on with
it: `wr` and `rd` are the scratchpad ranges that it wrote and read since no bead was in part. -/
def State.midBead (s : State) (c : Cmd) (wr rd : List (DW × Nat)) : Bool :=
  c.phase == .running &&
  ((!c.reading && !wr.isEmpty && c.vectors.any (fun iv =>
      match s.writesAt c iv with
      | some x => wr.any (shareBead x)
      | none => true)) ||
   (!c.combining && !rd.isEmpty && c.vectors.any (fun iv =>
      match s.readsAt c iv with
      | some x => !rd.contains x && rd.any (shareBead x)
      | none => true)))

/-- R228: the 64 KiB pages of an iteration, of its destination and of a source that its vector names. -/
def State.pagesAt (s : State) (c : Cmd) : List Nat :=
  let src := if (c.kind == .copy && !isExp c.blk) || c.kind == .gather || c.kind == .scatter then (s.readsAt c c.ivec).toList else []
  ((s.writesAt c c.ivec).toList ++ src).map (fun x => x.1.toNat / 65536)

/-- R204: the vectors of the iterations that a COPY slice has carried out. -/
def Cmd.carried (c : Cmd) : List (List Nat) :=
  let cs := nestCounts c.kind c.blk
  let all := c.from_ :: nestAfter cs (nestTotal cs) c.from_
  if c.phase == .ended && c.fault.all (fun f => f.complete) then all else all.takeWhile (fun iv => iv != c.ivec)

/-- R161: before a COPY slice writes into beads that other slices of its set have written in part, those slices' shares of
the beads are read and written again, so that each bead holds its sources' bytes of one time (DEDUCED,
notes/assumptions/87.md). -/
def State.freshBeads (s : State) (c : Cmd) : State :=
  match if c.kind == .copy then (s.writesAt c c.ivec).bind gangBeads else none with
  | none => s
  | some (idx, lo, hi) =>
    (s.cmds.filter (fun d => d.set == c.set && d.inst != c.inst)).foldl (fun s d =>
      let bs := d.open_.filter (fun y => s.crewIdx y.1 == idx && decide (lo ≤ y.2) && decide (y.2 ≤ hi))
      let mine (iv : List Nat) : Bool := bs.any (fun y => touches (nestDest .copy d.blk iv) (destWidth .copy d.blk) idx y.2)
      (if bs.isEmpty then [] else d.carried.filter mine).foldl (fun s iv =>
        match s.iterCopy { d with ivec := iv, redo := 1 } (s.whoCmd d) with
        | .ok s1 _ _ => s1
        | _ => s) s) s

/-! ### Groups of iterations and chunks -/

/-- What a group of iterations comes to. -/
inductive Ran where
  /-- carried out, with the elements to merge, or stopped -/
  | on (vals : List (Nat × DW)) (s : State)
  /-- it cannot go on yet; none of it has come about -/
  | blocked (s : State)

/-- R161, R229: iterations from `base` on until no scratchpad bead is written or read in part. -/
def State.runGroup (inst : Nat) (base : State) : Nat → State → List (Nat × DW) → List (DW × Nat) → List (DW × Nat) → Ran
  | 0, s, vals, _, _ => .on vals s
  | n + 1, s, vals, wr, rd =>
    match s.cmd? inst with
    | none => .on vals s
    | some c =>
      match (s.freshBeads c).iterate c with
      | .stop s1 cause fa =>
        let r := s1.fresh
        .on vals (r.2.modCmd inst (fun c => c.stopped r.1 cause fa))
      | .wait s1 st ask =>
        let base : State := { base with strayed := s1.strayed }
        let r := match ask with
          | some x => base.faultWait (base.whoCmd c) x.1 x.2.1 x.2.2
          | none => (st, base)
        .blocked (r.2.modCmd inst (fun c => { c with wait := some r.1 }))
      | .ok s1 v note =>
        let dw := if c.reading then blkElem c.blk else destWidth c.kind c.blk
        let gang (x : Option (DW × Nat)) : List (DW × Nat) := x.toList.filter (fun y => (gangBeads y).isSome)
        let wr1 := if c.reading then wr else gang (s.writesAt c c.ivec) ++ wr
        let rd1 := if c.combining || c.kind == .mgt || c.kind == .tsend || isExp c.blk then rd
          else gang (s.readsAt c c.ivec) ++ rd
        let vals1 := vals ++ (match v, blkLk c.blk with
          | some x, some _ => if c.redo = 0 then [x] else []
          | _, _ => [])
        let r := s1.fresh
        let s2 := r.2.modCmd inst (fun d =>
          r.2.advance { ((d.note r.1 d.ivec note).paged (s.pagesAt c)) with since := d.since + dw })
        if ((s2.cmd? inst).map (fun d => s2.midBead d wr1 rd1)).getD false then
          State.runGroup inst base n s2 vals1 wr1 rd1
        else .on vals1 (s2.modCmd inst (fun d => { d with wait := none }))

/-- The most iterations that a group may hold. -/
def Cmd.groupMax (c : Cmd) : Nat := nestTotal (nestCounts c.kind c.blk) + 1

/-- R204, R228, R250: at most `n` groups of iterations of a running command, of at most 4 KiB unless one group is longer;
the answer lists the elements to merge. -/
def State.runChunk (inst : Nat) : Nat → State → List (Nat × DW) × State
  | 0, s => ([], s)
  | n + 1, s =>
    match s.cmd? inst with
    | none => ([], s)
    | some c =>
      if c.phase ≠ .running then ([], s)
      else
        match State.runGroup inst s c.groupMax s [] [] [] with
        | .blocked s1 => ([], s1)
        | .on vals s1 =>
          if c.since ≠ 0 && decide (chunkBytes < ((s1.cmd? inst).map (fun d => d.since)).getD 0) then ([], s)
          else
            let rest := State.runChunk inst n s1
            (vals ++ rest.1, rest.2)

/-- R250: elements cut into chunks of at most 4 KiB of destination. -/
def cutChunks (k : Nat) : Nat → List (Nat × DW) → List (List (Nat × DW))
  | 0, l => [l]
  | n + 1, l => if l.length ≤ k then [l] else l.take k :: cutChunks k n (l.drop k)

/-- R249, R250: the merges of elements: performed at the own package's home, or sent to another's. -/
def State.mergeChunk (s : State) (c : Cmd) (vals : List (Nat × DW)) : State :=
  match blkLk c.blk, destFmt c.kind c.blk with
  | some idx, some f =>
    let pk := (vals.map (fun x => x.1)).eraseDups
    pk.foldl (fun s p =>
      let vs := (vals.filter (fun x => x.1 == p)).map (fun x => x.2)
      if p = c.pkg then s.lkMerge p c.vf idx f vs
      else
        let vf := s.tenantVf c.pkg c.vf p
        let m : PendMerge := { pkg := p, vf := vf, idx := idx, fmt := f, vals := vs, inst := c.inst, saved := false }
        ({ s with merges := s.merges ++ [m] } : State).carry 3 .atomic c.pkg p (s.lkAddr p vf idx) (vs.flatMap (fun x => toLE 8 x.toNat))) s
  | _, _ => s

/-- R250: the merges of what a step of a command wrote, chunk by chunk. -/
def State.chunkMerge (s : State) (c : Cmd) (vals : List (Nat × DW)) : State :=
  let k := max 1 (chunkBytes / max 1 (if c.kind = .coll then collElemWidth c.blk else destWidth c.kind c.blk))
  (cutChunks k vals.length vals).foldl (fun s l => s.mergeChunk c l) s

end Sys2Proof.Machine
end

