-- ==== Sys2Proof/Machine/EngineCmd.lean ====
section
/-!
DEFINITION. Sys2Proof/Machine/EngineCmd.lean: accepting engine commands (R196 to R198, R202, R205), receive counters (R220,
R367 to R369), triggered sends (R222), the events of the copy engines (R205, R226, R228), and TLBINV, which waits for them (R270, R461, R462).
-/
namespace Sys2Proof.Machine

/-! ### Handles and statuses -/

/-- R84, R88, R404: a fresh instance bound to a handle, which becomes PENDING on it. -/
def State.bind (s : State) (agent h : Nat) : Nat × State :=
  let r := (s.dropHandle agent h).freshInst
  (r.1, { (r.2.modAgent agent (fun a => a.setHandle h (.pending r.1 false))) with
          insts := r.2.insts ++ [{ inst := r.1, agent := agent, hnum := h, status := none }] })

/-- The status of a resolution without a record. -/
def State.resolveWith (s : State) (inst cause : Nat) : State := s.resolve inst (statusWord cause 0)

/-- R201: the replay record of one command or slice. -/
def Cmd.record (c : Cmd) : List Byte :=
  match c.fault with
  | some f =>
    recordBytes c.kind.code f.cause.toNat f.sub.toNat (blkSlice c.blk) (if f.complete then 1 else 0) (blkNslice c.blk)
      c.cbaddr f.ivec f.faddr f.detail
  | none => recordBytes c.kind.code 0 0 (blkSlice c.blk) 1 (blkNslice c.blk) c.cbaddr [] 0 0

/-- R205: the first fault of a set, in the engine's order of detection. -/
def firstFault (l : List Cmd) : Option CmdFault :=
  l.foldl (fun (best : Option CmdFault) c =>
    match c.fault, best with
    | some f, none => some f
    | some f, some g => if f.seq < g.seq then some f else some g
    | none, b => b) none

/-- R227: the records that a set resumed are freed when it resolves. -/
def State.freeResumed (s : State) (l : List Cmd) : State :=
  l.foldl (fun s c => if c.resumes then s.freeRecord c.pkg c.vf (blkRpidx c.blk + blkSlice c.blk) else s) s

/-- R225, R227: the replay record of a slice; one that was to resume a record and has not started keeps that record's STATE and
IVEC. -/
def State.recordOf (s : State) (c : Cmd) : List Byte :=
  match c.fault with
  | some f =>
    if c.kind = .copy && !c.started && isResume c.blk then
      let r := s.rpRead c.pkg c.vf (blkRpidx c.blk + blkSlice c.blk)
      recordBytes c.kind.code f.cause.toNat f.sub.toNat (blkSlice c.blk) (blkU r 4 1) (blkNslice c.blk) c.cbaddr
        ((List.range 5).map (fun i => blkU r (0x10 + 4 * i) 4)) f.faddr f.detail
    else c.record
  | none => c.record

/-- R225, R226: the NSLICE records of a set, slice by slice. Of two slices of one number the first issued counts; a slice that has
not come has no block address, which is a free value (DESIGN CHOICE, notes/assumptions/104.md). -/
def State.setRecords (s : State) (l : List Cmd) : List (List Byte) :=
  match l.head? with
  | none => []
  | some c => (List.range (blkNslice c.blk)).map (fun i =>
    match l.find? (fun d => blkSlice d.blk == i) with
    | some d => s.recordOf d
    | none => recordBytes c.kind.code 0 0 i 0 (blkNslice c.blk)
        (Config.freeWord (s.free + 2 * i) ++ Config.freeWord (s.free + 2 * i + 1)) [] 0 0)

/-- R226: the records of a set that ends with ERR, and its status. -/
def State.setStatus (s : State) (l : List Cmd) : W × State :=
  match firstFault l, l.head? with
  | some f, some c =>
    let n := blkNslice c.blk
    let whole := (List.range n).all (fun i => l.any (fun d => blkSlice d.blk == i))
    let r := (if whole then s else { s with free := s.free + 2 * n }).writeRecords c.pkg c.vf c.launch (s.setRecords l)
    (statusWord f.cause.toNat r.1, r.2)
  | _, _ => (statusWord 0 0, s)

/-- R162, R189, R226: what the records of a set that has ended with ERR wait for. -/
def State.statusWait (s : State) (l : List Cmd) : Option Stall :=
  match firstFault l, l.head? with
  | some _, some c => (s.freeResumed l).recordsWait c.pkg c.vf (blkNslice c.blk) (some c.set)
  | _, _ => none

/-- Whether the status of a set that has ended is known, and its records can be written. -/
def State.statusReady (s : State) (l : List Cmd) : Bool := l.any (fun d => d.final.isSome) || (s.statusWait l).isNone

/-- The commands of a set. -/
def State.setOf (s : State) (set : Nat) : List Cmd := s.cmds.filter (fun c => c.set == set)

/-- R143: commands that write no further byte: the beads that they have written are full. -/
def State.shutBeads (s : State) (l : List Cmd) : State := l.foldl (fun s c => s.closeBeads c (fun _ _ => false)) s

/-- R180, R182: a command that wrote scratchpad bytes resolves: no group is ordered after it yet. -/
def State.padDone (s : State) (l : List Cmd) : State :=
  match l.head? with
  | some c =>
    let e : MmaRes :=
      { inst := c.opNum, agent := c.agent, crew := c.crew, team := 0, launch := c.launch,
        slices := l.map (fun d => (d.inst, d.agent)), told := [], acc := 0, regs := [], res := [], bad := [], marks := [], know := [],
        bars := [], msgs := [] }
    if s.wlog.any (fun x => x.cmd == some c.opNum) then { s with accRes := e :: s.accRes } else s
  | none => s

/-- A set leaves its engine, each participant's handle resolved with one status. -/
def State.resolveSet (s : State) (l : List Cmd) (st : W) : State :=
  let s1 := l.foldl (fun s c => s.resolve c.inst st) ((s.shutBeads l).padDone l)
  let s2 := { s1 with cmds := s1.cmds.filter (fun c => !(l.any (fun d => d.inst == c.inst))) }
  l.foldl (fun s c => s.passCheck c.inst) s2

/-- R181, R207: whether an ORD copy may neither write nor resolve yet, since an earlier ORD copy of one of its set's groups at
its engine has not resolved. -/
def State.ordHeld (s : State) (c : Cmd) : Bool :=
  c.kind == .copy && isOrd c.blk &&
  (c :: s.setOf c.set).any (fun x => s.postsBefore x.agent c.eng x.inst || s.cmds.any (fun d => d.kind == .copy && isOrd d.blk && d.pkg == c.pkg && d.eng == c.eng &&
    d.agent == x.agent && decide (d.inst < x.inst) && d.set != c.set))

/-- R250, R251: whether a merge of one of these commands is still on its way. -/
def State.merging (s : State) (l : List Cmd) : Bool := s.merges.any (fun m => l.any (fun d => d.inst == m.inst))

/-- R181, R227, R251: a set ends with a status and no record: at once, or, where an earlier ORD copy must resolve or a merge
arrive first, by ENGINE_COMMAND_DONE. -/
def State.endSet (s : State) (l : List Cmd) (st : W) : State :=
  if l.any s.ordHeld || s.merging l then
    let s1 := s.shutBeads l
    { s1 with cmds := s1.cmds.map (fun c => if l.any (fun d => d.inst == c.inst) then c.over st else c) }
  else (s.freeResumed l).resolveSet l st

/-! ### Starting -/

/-- R26, R118, R119: whether a VF's engine commands may move data now. -/
def State.vfRuns (s : State) (pkg vf : Nat) : Bool :=
  128 ≤ vf ||
  (match s.pkg? pkg with
   | some p => p.engines vf
   | none => false)

/-- R118: whether a VF's engine commands may start now. -/
def State.vfStarts (s : State) (pkg vf : Nat) : Bool :=
  128 ≤ vf ||
  (match s.pkg? pkg with
   | some p => p.enginesStart vf
   | none => false)

/-- R26, R118: whether a VF owns its partition and its groups issue. -/
def State.vfLive (s : State) (pkg vf : Nat) : Bool :=
  match s.pkg? pkg with
  | some p => p.running vf
  | none => false

/-- R162: SNAP copies that an engine holds. -/
def State.snaps (s : State) (pkg eng : Nat) : Nat :=
  ((s.cmds.filter (fun c => c.pkg == pkg && c.eng == eng && c.kind == .copy && c.started && isSnap c.blk)).map
    (fun c => c.set)).eraseDups.length

/-- R196: whether the engine of a command has moved the bytes that it can move so far: 256 a clock for a copy engine. -/
def State.engFree (s : State) (c : Cmd) : Bool :=
  match s.pkg? c.pkg with
  | some p => p.ceFree.all (fun x => x.1 != c.eng || decide (x.2 ≤ s.aclk))
  | none => true

/-- R196: a copy engine that moves `n` bytes from now on. -/
def State.engBusy (s : State) (c : Cmd) (n : Nat) : State :=
  if 64 ≤ c.eng then s
  else s.modPkg c.pkg (fun p =>
    { p with ceFree := (c.eng, s.aclk + (n + 255) / 256) :: p.ceFree.filter (fun x => x.1 != c.eng) })

/-- Whether what a command waits for has come. -/
def State.cmdReady (s : State) (c : Cmd) : Bool :=
  match c.wait with
  | none => true
  | some w => s.stallCleared { Agent.blank with pkg := c.pkg } w

/-- R162, R196: whether a queued command may start. -/
def State.canStart (s : State) (c : Cmd) : Bool :=
  c.phase == .queued && s.vfStarts c.pkg c.vf &&
  !(s.cmds.any (fun d => d.pkg == c.pkg && d.eng == c.eng && d.agent == c.agent && decide (d.inst < c.inst) &&
    d.set != c.set && ((d.kind == .copy && d.phase == .joining) || d.phase == .queued || (d.phase == .armed && d.due)))) &&
  !s.postsBefore c.agent c.eng c.inst &&
  !(c.kind == .copy && isSnap c.blk && decide (4 ≤ s.snaps c.pkg c.eng))

/-- R204, R227: a command at the start of its nest, or at the vector of the record it resumes. A recorded vector outside
the block's counts leaves nothing to write, and a record with STATE 1 ends a send without its increment (DESIGN CHOICE,
notes/assumptions/75.md). -/
def State.started (s : State) (c : Cmd) : Cmd :=
  let c1 := { c with started := true, held := false, due := false, phase := .running, since := 0, wait := none, ran := s.wlog.length }
  if nestTotal (nestCounts c.kind c.blk) = 0 then { c1 with phase := .ended }
  else if isResume c.blk then
    let r := s.rpRead c.pkg c.vf (blkRpidx c.blk + blkSlice c.blk)
    let iv := (List.range 5).map (fun i => blkU r (0x10 + 4 * i) 4)
    if blkU r 4 1 = 1 then { c1 with phase := .ended }
    else if c.kind = .scatter && isCombine c.blk then c1
    else if (iv.zip (nestCounts c.kind c.blk)).any (fun x => decide (x.2 ≤ x.1)) then { c1 with phase := .ended }
    else { c1 with ivec := iv, from_ := iv, pageIv := iv }
  else c1

/-- R162: the source ranges of a COPY slice; with EXP, addresses in each page of its weight region. -/
def Cmd.srcRanges (c : Cmd) : List (DW × Nat) :=
  let b := c.blk
  if isExp b then
    let n := (blkA b 0x70).toNat - (blkSrc b).toNat
    (List.range (n / 65536 + 2)).map (fun i => (blkSrc b + toDW (if i * 65536 < n then i * 65536 else n - 1), 1))
  else
    (nestAll (nestCounts .copy b)).flatMap (fun iv =>
      pagesOf (addrAdd (blkSrc b) (strideSum iv (copyStrides b 0x24))) (blkElem b))

/-- The destination ranges of a COPY slice. -/
def Cmd.dstRanges (c : Cmd) : List (DW × Nat) :=
  (nestAll (nestCounts .copy c.blk)).flatMap (fun iv => pagesOf (nestDest .copy c.blk iv) (destWidth .copy c.blk))

/-- R162: the pages of ranges that are mapped. -/
def State.pagesFor (s : State) (w : Who) (l : List (DW × Nat)) : List (Space × Nat × Nat) :=
  (l.filterMap (fun x => s.mappedPage w x.1)).eraseDups

/-- The 64 KiB page of an address. -/
def granule (va : DW) : DW := (va >>> 16) <<< 16

/-- R162: of the translated ranges, one address in each 64 KiB whose page is not mapped. -/
def State.unmappedFor (s : State) (w : Who) (l : List (DW × Nat)) : List DW :=
  let page (x : DW × Nat) : Option DW := if vaClass x.1 < 2 && (s.mappedPage w x.1).isNone then some (granule x.1) else none
  (l.filterMap page).eraseDups

/-- R158, R162, R266: a page of a SNAP copy that is not mapped is serviced, or waited for, before the copy starts: the pages that
it protects, and whether its source and destination share one, are known only then. A page that cannot be had is noted. -/
def State.snapWait (s : State) (c : Cmd) : Option State :=
  let w := s.whoCmd c
  let open_ (k : Kind) (sub : Nat) (l : List (DW × Nat)) : List (DW × Kind × Nat) :=
    ((s.unmappedFor w l).filter (fun va => !c.snapVa.contains va)).map (fun va => (va, k, sub))
  match (open_ Kind.engineRead 0 c.srcRanges ++ open_ Kind.engineWrite 1 c.dstRanges).head? with
  | none => none
  | some (va, k, sub) =>
    let wait (s : State) (x : Stall) : State := s.modCmd c.inst (fun c => { c with wait := some x })
    match s.settleWait w c.wait va (s.engCheck w k va 1) with
    | .service l => let r := s.faultWait w va sub l; some (wait r.2 r.1)
    | .wait x => some (wait s x)
    | _ => some (s.modCmd c.inst (fun c => { c with wait := none, snapVa := va :: c.snapVa }))

/-- R162: whether two pages, of whatever size, share memory. -/
def pagesMeet (p q : Space × Nat × Nat) : Bool :=
  p.1 == q.1 && decide (p.2.1 < q.2.1 + q.2.2) && decide (q.2.1 < p.2.1 + p.2.2)

/-- R205, R226: every slice of a set ends with ENGINE_DESC, and ENGINE_COMMAND_DONE writes its records. -/
def State.failSet (s : State) (set : Nat) : State :=
  { s with cmds := s.cmds.map (fun d => if d.kind == .copy && d.set == set then d.misfit else d) }

/-- R162, R205: a complete COPY set starts; a SNAP copy whose source and destination share a page is refused. Its source pages'
bytes that an L1 still holds go home first (DESIGN CHOICE, notes/assumptions/74.md). -/
def State.startSet (s : State) (l : List Cmd) : State :=
  if l.any (fun c => isSnap c.blk) then
    let w (c : Cmd) : Who := s.whoCmd c
    let src := (l.flatMap (fun c => s.pagesFor (w c) c.srcRanges)).eraseDups
    let va := (l.flatMap (fun c => s.unmappedFor (w c) c.srcRanges)).eraseDups
    match l.findSome? s.snapWait with
    | some s1 => s1
    | none =>
    if l.any (fun c => (s.pagesFor (w c) c.dstRanges).any (fun q => src.any (pagesMeet q))) then
      l.foldl (fun s c => s.failSet c.set) s
    else
      let s1 := s.l1Clean (fun _ x => src.any (fun p =>
        decide (p.1 = x.space) && decide (p.2.1 ≤ 128 * x.line) && decide (128 * x.line < p.2.1 + p.2.2)))
      let up (c : Cmd) : Cmd := if l.any (fun d => d.inst == c.inst) then { (s.started c) with snap := src, snapVa := va } else c
      { s1 with cmds := s1.cmds.map up }
  else
    { s with cmds := s.cmds.map (fun c => if l.any (fun d => d.inst == c.inst) then s.started c else c) }

/-! ### Acceptance -/

/-- R9, R196: the engine that takes a command of an agent. -/
def engineOf (a : Agent) (k : CmdKind) : Nat :=
  match k with
  | .coll => 64 + (if a.isCc then a.core / 8 else a.core / 128)
  | .tsend => 64 + (if a.isCc then a.core / 8 else a.core / 128)
  | _ => a.core / 4

/-- A command as accepted. -/
def State.newCmd (s : State) (a : Agent) (h inst : Nat) (k : CmdKind) (va : DW) (b : List Byte) : Cmd :=
  { inst := inst, kind := k, pkg := a.pkg, eng := engineOf a k, vf := a.vf, agent := a.id, crew := a.crew,
    gang := match s.crew? a.crew with
      | some c => c.gang
      | none => 0,
    launch := a.launch, hnum := h, prio := a.prio, cbaddr := va, blk := b, set := inst, phase := .queued, held := false,
    due := false, mark := s.wlog.length, final := none, ivec := [0, 0, 0, 0, 0],
    from_ := [0, 0, 0, 0, 0], started := false, ran := 0, resumes := false, pageIv := [0, 0, 0, 0, 0], pages := [], sincePage := 0,
    redo := 0, open_ := [], spoilt := [], since := 0,
    wait := none, fault := none, poisoned := false, snap := [], snapVa := [], buf := [], plist := [], badAt := [],
    staddr := none, result := [] }

/-- R205: a slice joins the open set of its crew, or every slice of the set fails; a set that no group can complete any more ends. -/
def State.joinSet (s : State) (c : Cmd) : State :=
  let l := s.openSet c.crew c.hnum (blkNslice c.blk)
  let bad := l.any (fun d => d.agent == c.agent || (d.blk.getD 1 0) != (c.blk.getD 1 0) || blkSlice d.blk == blkSlice c.blk)
  let set := ((l.head?).map (fun d => d.set)).getD c.inst
  if bad then ({ s with cmds := s.cmds ++ [{ c with set := set }] }).failSet set
  else
    let full := l.length + 1 = blkNslice c.blk
    let c1 := { c with set := set, phase := if full then .queued else .joining }
    let up (d : Cmd) : Cmd := if full && d.set == set then { d with phase := .queued } else d
    ({ s with cmds := s.cmds.map up ++ [c1] }).failOpenSets c.crew

/-! ### Receive counters and armed sends -/

/-- R220: the value of a counter. -/
def Vf.ctr (v : Vf) (k : Nat) : DW := ((v.ctrs.find? (fun x => x.1 == k)).map (fun x => x.2)).getD 0

/-- A counter in a list kept in index order without zeros. -/
def ctrPut (k : Nat) (x : DW) : List (Nat × DW) → List (Nat × DW)
  | [] => if x = 0 then [] else [(k, x)]
  | y :: r =>
    if y.1 < k then y :: ctrPut k x r
    else
      let r' := if y.1 = k then r else y :: r
      if x = 0 then r' else (k, x) :: r'

/-- R222: whether a counter's value meets the trigger of an armed send. -/
def Cmd.triggered (c : Cmd) (pkg vf k : Nat) (x : DW) : Bool :=
  c.kind == .tsend && c.phase == .armed && c.pkg == pkg && c.vf == vf && blkU c.blk 0x1C 2 == k &&
  decide (blkU c.blk 0x20 8 ≤ x.toNat)

/-- R118, R123, R196, R222: whether an armed send may fire now: its VF owns its partition, a send accepted in LEAD waits for
the VF's next slot, and no earlier command of its group waits to start at its engine. -/
def State.mayFire (s : State) (c : Cmd) : Bool :=
  (if c.held then s.vfStarts c.pkg c.vf else s.vfRuns c.pkg c.vf) &&
  !(s.cmds.any (fun d => d.pkg == c.pkg && d.eng == c.eng && d.agent == c.agent && decide (d.inst < c.inst) && d.phase == .queued)) &&
  !s.postsBefore c.agent c.eng c.inst

/-- R222, R369: a counter takes a value, and every armed send whose trigger is met fires, or waits for its VF (R123). -/
def State.setCtr (s : State) (pkg vf k : Nat) (x : DW) : State :=
  let s1 := s.modVf pkg vf (fun v => { v with ctrs := ctrPut k x v.ctrs })
  let fire (c : Cmd) : Cmd :=
    if c.triggered pkg vf k x then (if s1.mayFire c then s1.started c else { c with due := true }) else c
  { s1 with cmds := s1.cmds.map fire }

/-- R222: the armed entries of a package, all or of one VF. -/
def State.armed (s : State) (pkg : Nat) (vf : Option Nat) : Nat :=
  (s.cmds.filter (fun c => c.kind == .tsend && c.phase == .armed && c.pkg == pkg && (vf.isNone || vf == some c.vf))).length

/-- R21: armed sends of a package. -/
def armedRoom : Nat := 1024

/-! ### The status of a control core's command (R296) -/

/-- R360: a control core's block no longer holds its CLASPs. -/
def State.subForget (s : State) (c : Cmd) : State :=
  let drop (k : Cc) : Cc := { k with subs := k.subs.filter (· != c.inst) }
  ({ s with cmds := s.cmds.filter (fun d => d.inst != c.inst) }).modAgent c.agent (fun x => { x with cc := x.cc.map drop })

/-- R296: the status of a control core's command goes to its status word, or to firmware where that is not a writable
control address; where the word must wait, the command stays until it is written. -/
def State.subDone (s : State) (c : Cmd) (st : W) : State :=
  match c.staddr with
  | none => s
  | some a =>
    let w := { s.whoCmd c with supervisor := false }
    let later (s : State) (x : Stall) : State :=
      { s with cmds := s.cmds.filter (fun d => d.inst != c.inst) ++
          [{ c with phase := .reporting, final := some st, wait := some x, snap := [], snapVa := [] }] }
    let tell : State := (s.subForget c).emit (.firmware c.pkg ((st.toNat / 256) % 256) 0x80 (st.setWidth 64))
    if vaClass a = 0 then
      match s.settleWait w c.wait a (s.checkAddr w Kind.store a 4) with
      | .ok t => (s.subForget c).writeT { w with core := none } t (toLE 4 st.toNat) false
      | .service l =>
        let r := s.faultWait w a 1 l
        later r.2 r.1
      | .wait x => later s x
      | .bad _ _ => tell
    else tell

/-! ### Arming -/

/-- R222, R292: a send ends unfired with this cause and sub-code: its entry is free, its record has IVEC i0 = 0. Where the record
must wait, TSEND_COMPLETE writes it. -/
def State.refuseSend (s : State) (c : Cmd) (cause sub : Nat) : State :=
  let f : CmdFault :=
    { seq := 0, cause := BitVec.ofNat 8 cause, sub := BitVec.ofNat 8 sub, complete := false, ivec := [], faddr := 0,
      detail := 0 }
  let c1 : Cmd := { c with fault := some f }
  let s0 : State := { s with cmds := s.cmds.filter (fun d => d.inst != c.inst) }
  match s0.statusWait [c1] with
  | some _ => { s0 with cmds := s0.cmds ++ [{ c1 with phase := .ended, wait := none }] }
  | none =>
    let r := (s0.freeResumed [c]).writeRecords c.pkg c.vf c.launch [c1.record]
    (r.2.resolve c.inst (statusWord cause r.1)).subDone c (statusWord cause r.1)

/-- R292: whether a send's DST lies on a lost package. -/
def State.dstLost (s : State) (c : Cmd) : Bool :=
  match s.engCheck (s.whoCmd c) Kind.engineWrite (blkDst c.blk) 16 with
  | .bad cause _ => cause == Cause.peerLost
  | _ => false

/-- R21, R196, R222: the fabric engine at which a send is armed: the one that holds its trigger counter. -/
def Cmd.armedAt (c : Cmd) : Nat :=
  let k := blkU c.blk 0x1C 2
  if k = 0xFFFF then c.eng else 64 + k / 2048

/-- R118, R222, R292: an accepted send is armed, fires at once, or is refused with a record. A control core's send has the
default VF 0x80, whose share is 8 entries and whose counters read 0 (DESIGN CHOICE, notes/assumptions/111.md). -/
def State.armSend (s : State) (c0 : Cmd) : State :=
  let c : Cmd := { c0 with eng := c0.armedAt, held := !s.vfStarts c0.pkg c0.vf }
  if armedRoom ≤ s.armed c.pkg none || (s.vf c.pkg c.vf).armsh.toNat ≤ s.armed c.pkg (some c.vf) then
    s.refuseSend c Cause.engineDesc 1
  else
    let k := blkU c.blk 0x1C 2
    let met := k = 0xFFFF || decide (blkU c.blk 0x20 8 ≤ ((s.vf c.pkg c.vf).ctr k).toNat)
    if s.dstLost c then s.refuseSend c Cause.peerLost 0
    else if met && s.mayFire c then { s with cmds := s.cmds ++ [s.started c] }
    else { s with cmds := s.cmds ++ [{ c with phase := .armed, due := met }] }

/-! ### Posting -/

/-- R181, R202: an accepted block goes to its engine, or resolves with ENGINE_DESC. -/
def State.accept (s : State) (c : Cmd) (join : State → Cmd → State) : State :=
  if !s.blkOk (s.whoCmd c) c.kind c.blk then
    if s.ordHeld c then { s with cmds := s.cmds ++ [c.over (statusWord Cause.engineDesc 0)] }
    else s.resolveWith c.inst Cause.engineDesc
  else join s { c with resumes := isResume c.blk }

/-- R198, R227, R289: what the reading of a command's block sends, and that of the record which it resumes. -/
def State.blockSent (s : State) (w : Who) (va : DW) (b : List Byte) : State :=
  let s1 := s.readBy w Kind.load va 128
  if isResume b then s1.recordSent w.pkg w.vf (blkRpidx b + blkSlice b) [] (s.rpRead w.pkg w.vf (blkRpidx b + blkSlice b)) else s1

/-- R84, R364, R366: an engine word binds its handle, PENDING, before it releases stores and copies its block. -/
def State.post (s : State) (a : Agent) (cu : Cursor) (h : Nat) (k : CmdKind) (va : DW) : Nat × State :=
  let r := s.bind a.id h
  (r.1, r.2.begins cu (.posting h r.1 k (engineOf a k) va))

/-- R179, R196 to R198: an engine word whose handle is bound to an instance: its stores released, its block readable, its queue
with room, its block read and accepted; meanwhile it waits. -/
def State.postBlock (s : State) (a : Agent) (sd : Side) (cu : Cursor) (h inst : Nat) (k : CmdKind) (va : DW)
    (join : State → Cmd → State) : State :=
  let w := s.who a
  match s.release a.pkg (cacheCore a) with
  | (some x, _) => s.stall cu x
  | (none, s1) =>
    match s1.settleWait w sd.stall va (s1.checkAddr w Kind.load va 128) with
    | .service lv =>
      let r := s1.faultWait w va 0 lv
      r.2.stall cu r.1
    | .wait st => s1.stall cu st
    | .bad cause _ => (s1.resolveWith inst cause).retire cu
    | .ok t =>
      if s1.targetPoisoned t 128 then ((s1.readBy w Kind.load va 128).resolveWith inst Cause.poison).retire cu
      else
        let b := s1.homeGet t 128
        let set := if k == .copy then some (h, blkNslice b) else none
        if queueRoom (engineOf a k) ≤ s1.queued a.pkg (engineOf a k) && !s1.mayJoin a set then
          s1.stall cu (.queue (engineOf a k) set)
        else
          let s2 := s1.blockSent w va b
          (s2.accept (s2.newCmd a h inst k va b) join).retire cu

/-- R84, R197, R364, R366: an engine instruction: its block address aligned, its handle free, and then bound. One that has waited
goes on with the instance it bound, and is over where that has been cancelled (DESIGN CHOICE, notes/assumptions/116.md). -/
def engineWord (s : State) (g : Pred) (p : SPair) (hn : Hnd) (k : CmdKind) (join : State → Cmd → State) :
    Host.Outcome State Fault Refusal :=
  scalarWord s g (fun a sd cu =>
    let h := hn.toNat
    match s.postOf a sd h with
    | some (i, at_) =>
      if (a.handle h).boundTo i then s.postBlock a sd cu h i k (at_.getD (a.spair p.toNat)) join else s.retire cu
    | none =>
      let va := a.spair p.toNat
      let l := lowLane (activeMask a sd g)
      if va.toNat % 128 ≠ 0 then s.trap a sd cu (memTrap cu 0 Cause.misaligned l (laneBit l) va 0)
      else if (a.handle h).isPending then s.stall cu (.handle h)
      else
        let r := s.post a cu h k va
        r.2.postBlock a sd cu h r.1 k va join)

/-- A command queued as it is. -/
def State.enqueue (s : State) (c : Cmd) : State := { s with cmds := s.cmds ++ [c] }

/-- R365, R366: COPY. -/
def execCopy (g : Pred) (c : SPair) (h : Hnd) (s : State) : Host.Outcome State Fault Refusal :=
  engineWord s g c h .copy State.joinSet
/-- R395 to R397: GATHER. -/
def execGather (g : Pred) (c : SPair) (h : Hnd) (s : State) : Host.Outcome State Fault Refusal :=
  engineWord s g c h .gather State.enqueue
/-- R448 to R450: SCATTER. -/
def execScatter (g : Pred) (c : SPair) (h : Hnd) (s : State) : Host.Outcome State Fault Refusal :=
  engineWord s g c h .scatter State.enqueue
/-- R418 to R421: MGT. -/
def execMgt (g : Pred) (c : SPair) (h : Hnd) (s : State) : Host.Outcome State Fault Refusal :=
  engineWord s g c h .mgt State.enqueue
/-- R464, R465: TSEND. -/
def execTsend (g : Pred) (c : SPair) (h : Hnd) (s : State) : Host.Outcome State Fault Refusal :=
  engineWord s g c h .tsend State.armSend

/-! ### TLBINV (R270, R461, R462) -/

/-- R123, R462: the commands of an address space that a slot edge has suspended go back to their last page boundary. -/
def State.rewindSuspended (s : State) (asid : Nat) : State :=
  let edge (c : Cmd) : Bool :=
    match s.pkg? c.pkg with
    | some p => let ph := (p.part (p.vf c.vf).partNum).phase; ph == .drain || ph == .save
    | none => false
  { s with cmds := s.cmds.map (fun c => if c.vf == asid && c.phase == .suspended && edge c then c.rewind else c) }

/-- R270, R461, R462: TLBINV. The stores made under an old entry go home, and with them the other ones of the address
space's VF and of the control cores (DESIGN CHOICE, notes/assumptions/74.md); the entries go, and what uses the address space
comes to a check point: a running command by itself, one that a slot edge has suspended where it goes on (R123). -/
def execTlbinv (g : Pred) (u : PgSize) (d a : SReg) (s : State) : Host.Outcome State Fault Refusal :=
  withIssuer s (fun x sd cu =>
    if notPrivileged x then s.trap x sd cu (Trap.plain Cause.privileged cu.raw)
    else if !scalarGuard x sd g then s.retire cu
    else
      let va := pairVal (x.sreg a.toNat) (x.sreg (a.toNat + 1))
      let v := x.sreg d.toNat
      let asid := (v.extractLsb' 0 8).toNat
      let n := (v.extractLsb' 8 24).toNat
      if 2 ≤ vaClass va || 0x80 < asid then s.trap x sd cu (memTrap cu 0 Cause.access 0 1 va 0)
      else
        let base := (va >>> u.log2) <<< u.log2
        match s.cleanWhere (fun _ l => l.vf == asid || decide (256 ≤ l.core)) with
        | (some st, _) => s.stall cu st
        | (none, s0) =>
          let s1 := ((s0.tlbDrop asid (n == 0) base (n * 2 ^ u.log2)).rewindSuspended asid).acquire x true
          let users := (s1.cmds.filter (fun c => c.vf == asid && c.phase == .running)).map (fun c => c.inst)
          if users.isEmpty then s1.retire cu
          else
            let r := s1.fresh
            let t : TlbInv :=
              { id := r.1, pkg := x.pkg, agent := x.id, slot := cu.slot, len := cu.len, asid := asid, va := base,
                bytes := n * 2 ^ u.log2, whole := n == 0, waitFor := users }
            ({ r.2 with tlbInvs := r.2.tlbInvs ++ [t] }).stall cu (.tlbinv r.1))

/-! ### CTRSET, CTRADD, CTRRD -/

/-- R220, R368: a counter takes a value, after the stores that the word releases have gone home. -/
def State.ctrWord (s : State) (a : Agent) (cu : Cursor) (k : Nat) (x : DW) : State :=
  match s.release a.pkg (cacheCore a) with
  | (some st, _) => s.stall cu st
  | (none, s1) => (s1.setCtr a.pkg a.vf k x).retire cu

/-- R368: CTRSET. -/
def execCtrset (g : Pred) (c : SPair) (k : BitVec 12) (s : State) : Host.Outcome State Fault Refusal :=
  scalarWord s g (fun a _ cu => s.ctrWord a cu k.toNat (a.spair c.toNat))
/-- R368: CTRADD. -/
def execCtradd (g : Pred) (c : SPair) (k : BitVec 12) (s : State) : Host.Outcome State Fault Refusal :=
  scalarWord s g (fun a _ cu =>
    s.ctrWord a cu k.toNat ((s.vf a.pkg a.vf).ctr k.toNat + a.spair c.toNat))
/-- R220, R368: CTRRD, an acquire in the tensor plane. -/
def execCtrrd (g : Pred) (c : SPair) (k : BitVec 12) (s : State) : Host.Outcome State Fault Refusal :=
  scalarWord s g (fun a _ cu =>
    ((s.setAgent (a.setPair (2 * c.toNat) ((s.vf a.pkg a.vf).ctr k.toNat))).acquire a true).retire cu)

/-! ### Events -/

/-- R205: COPY_SET_START. -/
def execCopySetStart (set : Nat) (s : State) : Host.Outcome State Fault Refusal :=
  .next (
    let l := (s.setOf set).filter (fun c => c.kind == .copy)
    if !l.isEmpty && l.all (fun c => s.canStart c && s.cmdReady c) then s.startSet l else s)

/-- R204, R450: GATHER, SCATTER and MGT start with their first chunk. -/
def State.startOne (s : State) (c : Cmd) : State :=
  if c.kind != .copy && c.kind != .coll && c.kind != .tsend && s.canStart c then s.modCmd c.inst s.started else s

/-- R143: whether a slice of a set that has not ended still writes a bead. -/
def State.laterSet (s : State) (set crew bd : Nat) : Bool :=
  (s.setOf set).any (fun d => d.phase != .ended &&
    anyTouches d.kind d.blk (d.ivec :: nestAfter (nestCounts d.kind d.blk) (nestTotal (nestCounts d.kind d.blk)) d.ivec)
      (s.crewIdx crew) bd)

/-- R143: once a command or slice has ended, the beads of its set that no other slice writes any more are full. -/
def State.endBeads (s : State) (inst : Nat) : State :=
  match s.cmd? inst with
  | some c => if c.phase = .ended then (s.setOf c.set).foldl (fun s d => s.closeBeads d (s.laterSet c.set)) s else s
  | none => s

/-- R250: one chunk of a command of the nest kinds, with its merges, and the increment of a send that is done. -/
def State.oneChunk (c : Cmd) (n : Nat) (s : State) : State :=
  let r := State.runChunk c.inst n s
  let since := ((r.2.cmd? c.inst).map (fun d => d.since)).getD c.since
  let s1 := ((r.2.chunkMerge c r.1).endBeads c.inst).engBusy c (since - c.since)
  match s1.cmd? c.inst with
  | some d =>
    if d.kind = .tsend && d.phase = .ended && blkU d.blk 0x1E 2 ≠ 0xFFFF &&
        (match d.fault with
         | none => true
         | some f => f.complete) then
      let home := match s1.engCheck (s1.whoCmd d) Kind.engineWrite (blkDst d.blk) 16 with
        | .ok t => s1.packageOf t d.pkg
        | _ => d.pkg
      let vf := s1.tenantVf d.pkg d.vf home
      let ctr := blkU d.blk 0x1E 2
      let x : PendInc := { inst := d.inst, pkg := home, vf := vf, ctr := ctr, inc := blkA d.blk 0x28, saved := false }
      ({ s1 with incs := s1.incs ++ [x] } : State).carry 3 .atomic d.pkg home (4096 * vf + ctr) (toLE 8 (blkA d.blk 0x28).toNat)
    else s1
  | none => s1

/-- R119, R290: whether a running command may go on: its VF runs or the flits of its next chunk have gone out, and none of its
flits is on its way. -/
def State.chunkFree (s : State) (c : Cmd) : Bool :=
  (s.vfRuns c.pkg c.vf || c.sent) && s.cmdReady c && !s.flying c.inst

/-- R250, R290: a running command of the nest kinds goes on by one chunk. -/
def State.moveChunk (s : State) (c : Cmd) (n : Nat) : State :=
  if c.phase = .running && s.chunkFree c && s.engFree c && !s.ordHeld c then s.overLinks c (State.oneChunk c n) else s

/-- R228: ENGINE_TRANSLATION_CHECK. -/
def execEngineTranslationCheck (inst : Nat) (s : State) : Host.Outcome State Fault Refusal :=
  .next (
    match s.cmd? inst with
    | some c =>
      if c.phase = .running then (s.modCmd inst (fun c => { c with since := 0 })).passCheck inst else s
    | none => s)

/-- R205, R226, R251: ENGINE_COMMAND_DONE. -/
def execEngineCommandDone (inst : Nat) (s : State) : Host.Outcome State Fault Refusal :=
  .next (
    match s.cmd? inst with
    | none => s
    | some c =>
      let l := s.setOf c.set
      if c.kind != .coll && c.kind != .tsend && l.all (fun d => d.phase == .ended && !s.ordHeld d) &&
          !s.merging l && s.statusReady l then
        match l.findSome? (fun d => d.final) with
        | some st => (s.freeResumed l).resolveSet l st
        | none =>
          let r := (s.freeResumed l).setStatus l
          r.2.resolveSet l r.1
      else s)

/-- R222, R123: TSEND_FIRE: a send whose trigger was met while its VF was not the owner fires. -/
def execTsendFire (inst : Nat) (s : State) : Host.Outcome State Fault Refusal :=
  .next (
    match s.cmd? inst with
    | some c =>
      if c.kind = .tsend && c.phase = .armed && c.due && s.mayFire c then
        s.modCmd inst s.started
      else s
    | none => s)

/-- R222, R369: COUNTER_INCREMENT: an increment arrives. -/
def execCounterIncrement (i : Nat) (s : State) : Host.Outcome State Fault Refusal :=
  .next (
    match s.incs[i]? with
    | some x => ({ s with incs := s.incs.eraseIdx i }).setCtr x.pkg x.vf x.ctr ((s.vf x.pkg x.vf).ctr x.ctr + x.inc)
    | none => s)

/-- R249, R250: LOCKET_MERGE: a merge arrives at its home. -/
def execLocketMerge (i : Nat) (s : State) : Host.Outcome State Fault Refusal :=
  .next (
    match s.merges[i]? with
    | some m => ({ s with merges := s.merges.eraseIdx i }).lkMerge m.pkg m.vf m.idx m.fmt m.vals
    | none => s)

/-- R257: LOCKET_CACHE_EXPIRE: copies of a core that are too old go. -/
def execLocketCacheExpire (pkg core : Nat) (s : State) : Host.Outcome State Fault Refusal :=
  .next (
    let fresh (c : LkCopy) : Bool := !(c.core == core && decide (c.since + lkCacheTime < s.aclk))
    s.modPkg pkg (fun p => { p with lk := p.lk.filter fresh }))

/-! ### The end of a send -/

/-- R222, R465: TSEND_COMPLETE. -/
def execTsendComplete (inst : Nat) (s : State) : Host.Outcome State Fault Refusal :=
  .next (
    match s.cmd? inst with
    | some c =>
      if c.kind = .tsend && c.phase = .ended && !(s.incs.any (fun x => x.inst == inst)) && (s.statusWait [c]).isNone then
        let r := (s.freeResumed [c]).setStatus [c]
        (r.2.resolveSet [c] r.1).subDone c r.1
      else s
    | none => s)

end Sys2Proof.Machine
end

