-- ==== Sys2Proof/Machine/Coll.lean ====
section
/-!
DEFINITION. Sys2Proof/Machine/Coll.lean: collectives (R57, R215 to R219, R364), the chunks of every engine command, and the
blocks that control cores submit (R296).
-/
namespace Sys2Proof.Machine

/-! ### The fields of a block -/

def collCount (b : List Byte) : Nat := blkU b 0x18 4
def collFmt (b : List Byte) : Fmt := (Fmt.ofCode (blkU b 0x1C 1)).getD .fp32
def collOp (b : List Byte) : Nat := blkU b 0x1D 1 % 16
def collRed (b : List Byte) : Nat := blkU b 0x1D 1 / 16
def collNpart (b : List Byte) : Nat := blkU b 0x1E 2
def collMyidx (b : List Byte) : Nat := blkU b 0x28 2
def collRoot (b : List Byte) : Nat := blkU b 0x2A 2
def collTag (b : List Byte) : Nat := blkU b 0x2C 4
/-- The width of an element in bytes. -/
def collWidth (b : List Byte) : Nat := (collFmt b).bits / 8

/-- R216, R364: the other commands of one tenant that carry the TAG of a command, from their acceptance on. -/
def State.collPeers (s : State) (c : Cmd) : List Cmd :=
  s.cmds.filter (fun d => d.kind == .coll && d.inst != c.inst && !d.blk.isEmpty && d.phase != .reporting &&
    collTag d.blk == collTag c.blk && decide (s.domain d.pkg d.vf = s.domain c.pkg c.vf))

/-- R216: what every participant must give alike. -/
def collSame (c d : Cmd) : Bool :=
  collCount c.blk == collCount d.blk && blkU c.blk 0x1C 2 == blkU d.blk 0x1C 2 && collNpart c.blk == collNpart d.blk &&
  collRoot c.blk == collRoot d.blk && isShexp c.blk == isShexp d.blk && c.plist == d.plist

/-! ### Failure -/

/-- R216, R219: participants resolve with causes of their own and leave, but for status words still to be written (R296). -/
def State.collEnd (s : State) (l : List Cmd) (cause : Cmd → Nat) : State :=
  let s1 := l.foldl (fun s c => (s.resolveWith c.inst (cause c)).subDone c (statusWord (cause c) 0)) s
  let gone (c : Cmd) : Bool := c.phase != .reporting && l.any (fun d => d.inst == c.inst)
  l.foldl (fun s c => s.passCheck c.inst) { s1 with cmds := s1.cmds.filter (fun c => !gone c) }

/-- R216: what stays of a participant of a failed collective for those that have not yet issued. -/
def Cmd.collMark (c : Cmd) (n cause : Nat) : Cmd :=
  { c with inst := n, phase := .dead, staddr := none, final := none, wait := none, buf := [], result := [],
           fault := some { seq := 0, cause := BitVec.ofNat 8 cause, sub := 0, complete := false, ivec := [],
                           faddr := 0, detail := 0 } }

/-- R216: the marks of failed participants that carry a command's TAG. -/
def State.collMarks (s : State) (c : Cmd) : List Cmd :=
  (s.collPeers { c with inst := 0 }).filter (fun d => d.phase == .dead)

/-- R216, R364: the TAG of a command is no longer that of a failed collective. -/
def State.collForget (s : State) (c : Cmd) : State :=
  let l := s.collMarks c
  { s with cmds := s.cmds.filter (fun d => !(l.any (fun x => x.inst == d.inst))) }

/-- R216: participants fail, and leave marks until every participant has issued. -/
def State.collFail (s : State) (l : List Cmd) (cause : Cmd → Nat) : State :=
  let mark (s : State) (c : Cmd) : State :=
    let r := s.fresh
    r.2.enqueue (c.collMark r.1 (cause c))
  let s1 := l.foldl mark (s.collEnd l cause)
  match l.head? with
  | none => s1
  | some c => if collNpart c.blk ≤ (s1.collMarks c).length then s1.collForget c else s1

/-- A participant resolves alone and leaves. -/
def State.collAlone (s : State) (c : Cmd) (cause : Nat) : State :=
  (s.resolveSet [c] (statusWord cause 0)).subDone c (statusWord cause 0)

/-- R223: the destination of a participant becomes unpredictable. -/
def State.scramble (s : State) (c : Cmd) : State :=
  let w := s.whoCmd c
  let n := collWidth c.blk * (if collOp c.blk = 1 then collCount c.blk / collNpart c.blk
    else if collOp c.blk = 2 then collCount c.blk * collNpart c.blk else collCount c.blk)
  (List.range n).foldl (fun s i =>
    let accs := s.engAccs w none Kind.engineWrite (blkDst c.blk + toDW i) 1
    if accs.all LaneAcc.isOk then
      { (s.engWrite c w (accTargets accs) [Config.freeByte s.free] false) with free := s.free + 1 }
    else s) s

/-! ### Joining -/

/-- R71: the elements of a participant's contribution read one by one; those read before one that stops it have been read. -/
def State.collRead (s : State) (c : Cmd) (w : Who) : Nat → Nat → Iter ⊕ List (Nat × List Byte × Bool)
  | 0, _ => .inr []
  | n + 1, i =>
    let accs := s.engAccs w c.wait Kind.engineRead (blkSrc c.blk + toDW (i * collWidth c.blk)) (collWidth c.blk)
    match s.engBlocked w 0 accs with
    | some r => .inl r
    | none =>
      let r := s.engRead w (accTargets accs)
      match State.collRead { s with strayed := r.2.strayed } c w n (i + 1) with
      | .inl x => .inl x
      | .inr l => .inr ((i, r.1.1, r.1.2) :: l)

/-- R198: the participant list's entries, one that was written since the command's acceptance a free value. -/
def State.listEntries (s : State) (c : Cmd) (w : Who) (bs : List Byte) : Nat → Nat → List Nat × State
  | 0, _ => ([], s)
  | n + 1, i =>
    let accs := s.engAccs w none Kind.engineRead (blkA c.blk 0x20 + toDW (4 * i)) 4
    let r := s.tableNat c (accTargets accs) 4 ((bs.drop (4 * i)).take 4)
    let rest := State.listEntries r.2 c w bs n (i + 1)
    (r.1 :: rest.1, rest.2)

/-- R215: a participant's list read, with what the reading sends (R289). -/
def State.collList (s : State) (c : Cmd) (w : Who) : Iter ⊕ (List Nat × State) :=
  let np := collNpart c.blk
  let accs := s.engAccs w c.wait Kind.engineRead (blkA c.blk 0x20) (4 * np)
  match s.engBlocked w 0 accs with
  | some r => .inl r
  | none =>
    let r := (s.engRead w (accTargets accs)).1
    let s1 := s.readBy w Kind.engineRead (blkA c.blk 0x20) (4 * np)
    if r.2 then .inl (.stop s1 Cause.poison (blkA c.blk 0x20))
    else .inr (s1.listEntries c w r.1 np 0)

/-- R215: a participant's contribution read; only the ROOT of a broadcast contributes. -/
def State.collContribution (s : State) (c : Cmd) (w : Who) : Iter ⊕ List (Nat × List Byte × Bool) :=
  if collOp c.blk = 3 && collRoot c.blk ≠ collMyidx c.blk then .inr [] else s.collRead c w (collCount c.blk) 0

/-- R289: what the reading of a participant's contribution sends. -/
def State.collSent (s : State) (c : Cmd) (w : Who) : State :=
  if collOp c.blk = 3 && collRoot c.blk ≠ collMyidx c.blk then s
  else s.readBy w Kind.engineRead (blkSrc c.blk) (collCount c.blk * collWidth c.blk)

/-- R216: what stops a participant before the collective starts fails it for all that have joined. -/
def State.collStop (s : State) (c : Cmd) (cause : Nat) : State :=
  s.collFail (c :: (s.collPeers c).filter (fun d => d.phase == .joining)) (fun _ => cause)

/-- R216: an access of a participant that has not joined waits, or fails the collective. -/
def State.collBlocked (s : State) (c : Cmd) (r : Iter) : State :=
  match r with
  | .wait s1 st _ => s1.modCmd c.inst (fun c => { c with wait := some st })
  | .stop s1 cause _ => s1.collStop c cause
  | .ok _ _ _ => s

/-- R216: a queued participant joins the collective of its TAG. -/
def State.collJoin (s : State) (c : Cmd) : State :=
  match s.collList c (s.whoCmd c) with
  | .inl r => s.collBlocked c r
  | .inr (l, s) =>
    let peers := s.collPeers c
    let dead := peers.filter (fun d => d.phase == .dead)
    let members := peers.filter (fun d => d.phase == .joining)
    let c1 := { c with plist := l }
    if l.any (fun p => 512 ≤ p || !s.inDomain p) then s.collAlone c Cause.engineDesc
    else if l.any (fun p => s.lost.contains p) then
      (((c :: members).foldl State.scramble s).collEnd (c :: members) (fun _ => Cause.peerLost)).collForget c
    else if !dead.isEmpty && !(dead.any (fun d => collMyidx d.blk == collMyidx c.blk)) then
      s.collFail [c] (fun _ => ((dead.filterMap (fun d => d.fault)).head?.map (fun f => f.cause.toNat)).getD Cause.cancelled)
    else if l.getD (collMyidx c.blk) 512 ≠ c.pkg || members.any (fun d => !collSame c1 d) then
      s.collFail (c1 :: members) (fun _ => Cause.engineDesc)
    else
      match s.collContribution c (s.whoCmd c) with
      | .inl r => s.collBlocked c r
      | .inr e =>
        let set := ((members.head?).map (fun d => d.set)).getD c.inst
        (s.collSent c (s.whoCmd c)).modCmd c.inst (fun _ => { c1 with buf := e, wait := none, phase := .joining, set := set })

/-- R216, R364: an accepted COLL opens its TAG, unless the TAG is open in the tenant for the same MYIDX. -/
def State.collAccept (s : State) (c : Cmd) : State :=
  if (s.collPeers c).any (fun d => d.phase != .dead && collMyidx d.blk == collMyidx c.blk) then s.collAlone c Cause.engineDesc
  else { s with cmds := s.cmds.filter (fun d => d.inst != c.inst) ++ [c] }

/-! ### Results (R217, R218, R57) -/

/-- A participant's element: its bytes, and whether it is poisoned. -/
def collElem (c : Cmd) (i : Nat) : List Byte × Bool :=
  match c.buf[i]? with
  | some x => (x.2.1, x.2.2)
  | none => ([], false)

/-- R218: values added two at a time with RNE, in an order that a free value chooses at every step. -/
def State.freeTree (s : State) (f : Fmt) : Nat → List FVal → FVal × State
  | 0, l => (l.headD (.fin false 0 0), s)
  | n + 1, l =>
    if l.length < 2 then (l.headD (.fin false 0 0), s)
    else
      let i := Config.freeNat s.free % l.length
      let a := l.getD i (.fin false 0 0)
      let l1 := l.eraseIdx i
      let j := Config.freeNat (s.free + 1) % l1.length
      let b := l1.getD j (.fin false 0 0)
      let v := Fmt.value f (roundArith f .rne false (sumExact false [a, b])).bits
      State.freeTree { s with free := s.free + 2 } f n (v :: l1.eraseIdx j)

/-- R57: the largest unbiased exponent of the finite non-zero values of a block; 0 if none. -/
def shexpE (vs : List FVal) : Int :=
  (vs.foldl (fun (best : Option Int) v =>
    match v with
    | .fin _ m e =>
      if m = 0 then best
      else
        match best with
        | none => some (log2Of m e)
        | some b => if b < log2Of m e then some (log2Of m e) else some b
    | _ => best) none).getD 0

/-- R57: an element as an integer multiple of 2^(E − 30). -/
def shexpQ (e : Int) (v : FVal) : Int :=
  match v with
  | .fin n m x =>
    let k := (roundAt .rne n m (x + 30 - e) 0).1
    if n then -(k : Int) else k
  | _ => 0

/-- R57: the result of one element. -/
def shexpSum (f : Fmt) (e : Int) (vs : List FVal) : Nat :=
  if vs.any FVal.isNan || sumInvalid vs then Fmt.canonNan f
  else
    match vs.find? FVal.isInf with
    | some v => (roundArith f .rne false v).bits
    | none =>
      let t := (vs.map (shexpQ e)).foldl (· + ·) 0
      (roundArith f .rne false (.fin (t < 0) t.natAbs (e - 30))).bits

/-- R217, R218: one element of a reduction over the participants. -/
def State.reduceOne (s : State) (b : List Byte) (e : Int) (xs : List (List Byte × Bool)) : (List Byte × Bool) × State :=
  let f := collFmt b
  let bad := xs.any (fun x => x.2)
  let vs := xs.map (fun x => if x.2 then FVal.nan false else Fmt.value f (leNat x.1))
  let out (n : Nat) : List Byte × Bool := (toLE (f.bits / 8) n, bad)
  if !Fmt.isFloat f && bad then (out 0, s)
  else if vs.any FVal.isNan then (out (Fmt.canonNan f), s)
  else if collRed b = 0 then
    if !Fmt.isFloat f then (out (((vs.map (FVal.toIntAt 0)).foldl (· + ·) 0) % 2 ^ 32).toNat, s)
    else if isShexp b then (out (shexpSum f e vs), s)
    else
      let r := s.freeTree (if f == .fp64 then .fp64 else .fp32) vs.length vs
      (out (roundArith f .rne false r.1).bits, r.2)
  else
    let less (x y : FVal) : Bool := if collRed b = 1 then x.ltz y else y.ltz x
    let v := (vs.drop 1).foldl (fun m x => if less x m then x else m) (vs.headD (.fin false 0 0))
    (out (convertTo f .rne .inf false v).bits, s)

/-- R57: the exponent of the block that holds an element. -/
def blockE (l : List Cmd) (i : Nat) : Int :=
  let b := ((l.head?).map (fun c => c.blk)).getD []
  let lo := i / 256 * 256
  let hi := if lo + 256 < collCount b then lo + 256 else collCount b
  shexpE ((List.range (hi - lo)).flatMap (fun k => l.map (fun c =>
    let x := collElem c (lo + k)
    if x.2 then FVal.nan false else Fmt.value (collFmt b) (leNat x.1))))

/-- R217: the reduction of elements `i` to `i` + n − 1. -/
def State.reduceFrom (l : List Cmd) : Nat → Nat → State → List (List Byte × Bool) × State
  | 0, _, s => ([], s)
  | n + 1, i, s =>
    let b := ((l.head?).map (fun c => c.blk)).getD []
    let r := s.reduceOne b (if isShexp b then blockE l i else 0) (l.map (fun c => collElem c i))
    let rest := State.reduceFrom l n (i + 1) r.2
    (r.1 :: rest.1, rest.2)

/-- R217: the elements that participant `m` receives, given the reduction. -/
def collPart (l : List Cmd) (red : List (List Byte × Bool)) (m : Nat) : List (List Byte × Bool) :=
  let b := ((l.head?).map (fun c => c.blk)).getD []
  let k := collCount b / collNpart b
  match collOp b with
  | 0 => red
  | 1 => (red.drop (m * k)).take k
  | 2 => l.flatMap (fun c => (List.range (collCount b)).map (collElem c))
  | _ =>
    match l.find? (fun c => collMyidx c.blk == collRoot b) with
    | some c => (List.range (collCount b)).map (collElem c)
    | none => []

/-- The participants of a collective in list order. -/
def State.collMembers (s : State) (set : Nat) : List Cmd :=
  let l := (s.setOf set).filter (fun c => c.kind == .coll && c.phase == .joining)
  match l.head? with
  | none => []
  | some c => (List.range (collNpart c.blk)).filterMap (fun i => l.find? (fun d => collMyidx d.blk == i))

/-- R216, R289: what a collective carries on VC3: the result of each participant comes from the package of the one before it in
the list (DESIGN CHOICE, notes/assumptions/18.md). -/
def State.collTraffic (s : State) (l : List Cmd) : State :=
  let place (d : Cmd) : Nat :=
    match s.mappedPage (s.whoCmd d) (blkDst d.blk) with
    | some x => x.2.1 + (blkDst d.blk).toNat % x.2.2
    | none => 0
  (l.zip (l.getLast?.toList ++ l)).foldl (fun s x =>
    let bs := ((s.cmd? x.1.inst).map Cmd.result).getD []
    if bs.isEmpty then s
    else { s with traffic := s.traffic ++ s.flitsFor (s.carry 3 .data x.2.pkg x.1.pkg (place x.1) bs) x.1.inst }) s

/-- R26, R216 to R218: COLL_START: every participant has issued; the results are formed, and no mark of an earlier failure of
the TAG stays. A participant whose VF's commands may not start now stays queued with its result. -/
def execCollStart (set : Nat) (s : State) : Host.Outcome State Fault Refusal :=
  .next (
    let l := s.collMembers set
    match l.head? with
    | none => s
    | some c =>
      if l.length ≠ collNpart c.blk then s
      else
        let r := if collOp c.blk < 2 then State.reduceFrom l (collCount c.blk) 0 s else ([], s)
        let up (d : Cmd) : Cmd :=
          if l.any (fun x => x.inst == d.inst) then
            let es := collPart l r.1 (collMyidx d.blk)
            { d with phase := if es.isEmpty then .ended else if s.vfStarts d.pkg d.vf then .running else .queued,
                     started := true, buf := [], ivec := [0, 0, 0, 0, 0], since := 0, pageIv := [0, 0, 0, 0, 0], pages := [],
                     sincePage := 0, redo := 0, result := es.flatMap (fun x => x.1),
                     badAt := ((List.range es.length).zip es).filterMap (fun x => if x.2.2 then some x.1 else none),
                     poisoned := d.buf.any (fun x => x.2.2) || es.any (fun x => x.2) }
          else d
        (({ r.2 with cmds := r.2.cmds.map up } : State).collForget c).collTraffic l)

/-! ### Blocks submitted by a control core (R296) -/

/-- R296: the kind of a submitted block. -/
def subKind (b : List Byte) : Option CmdKind :=
  match blkU b 0 1 with
  | 5 => some .coll
  | 6 => some .tsend
  | _ => none

/-- R296: a submission ends without a command. -/
def State.subFail (s : State) (c : Cmd) (cause : Nat) : State :=
  ({ s with cmds := s.cmds.filter (fun d => d.inst != c.inst) }).subDone c (statusWord cause 0)

/-- R179, R198, R202, R296: what the core has stored is released, and the block of a submission is read and checked, where its
address is aligned; the command has no block until then. -/
def State.subAccept (s : State) (c : Cmd) : State :=
  let w := { s.whoCmd c with supervisor := false }
  let f := s.release c.pkg (((s.agent? c.agent).map cacheCore).getD 0)
  let got : Checked :=
    match f.1 with
    | some x => .wait x
    | none =>
      if c.cbaddr.toNat % 128 ≠ 0 then .bad Cause.misaligned 0
      else f.2.settleWait w c.wait c.cbaddr (f.2.checkAddr w Kind.load c.cbaddr 128)
  match got with
  | .bad cause _ => f.2.subFail c cause
  | .service l =>
    let r := f.2.faultWait w c.cbaddr 0 l
    r.2.modCmd c.inst (fun c => { c with wait := some r.1 })
  | .wait st => f.2.modCmd c.inst (fun c => { c with wait := some st })
  | .ok t =>
    let b := f.2.homeGet t 128
    let s := f.2.blockSent w c.cbaddr b
    if s.targetPoisoned t 128 then s.subFail c Cause.poison
    else
      match subKind b with
      | none => s.subFail c Cause.engineDesc
      | some k =>
        let d : Cmd := { c with kind := k, blk := b, wait := none, mark := s.wlog.length }
        if !s.blkOk (s.whoCmd c) k b then s.subFail c Cause.engineDesc
        else if k = .tsend then
          ({ s with cmds := s.cmds.filter (fun x => x.inst != c.inst) }).armSend d
        else s.collAccept d

/-- R296: XE_SUB_SUBMIT. -/
def execXeSubSubmit (pkg core : Nat) (hi : W) (s : State) : Host.Outcome State Fault Refusal :=
  .next (
    match (s.pkg? pkg).bind (fun p => p.xeSub[core]?), s.agents.find? (fun a => a.pkg == pkg && a.isCc && a.core == core) with
    | some x, some a =>
      let va := pairVal x.subLo hi
      let r := s.freshInst
      let c : Cmd := { (r.2.newCmd a 0 r.1 .coll va []) with staddr := some (pairVal x.stLo x.stHi) }
      let s1 := r.2.modAgent a.id (fun a => { a with cc := a.cc.map (fun q => { q with subs := q.subs ++ [r.1] }) })
      (s1.enqueue c).subAccept c
    | _, _ => s)

/-! ### Writing the results -/

/-- R161, R217, R219: elements of a participant's result written from `base` on, until no scratchpad bead is written in
part; the answer lists the elements to merge. -/
def State.collGroup (inst : Nat) (base : State) : Nat → State → List (Nat × DW) → Ran
  | 0, s, vals => .on vals s
  | n + 1, s, vals =>
    match s.cmd? inst with
    | none => .on vals s
    | some c =>
      let ew := collWidth c.blk
      let pos := c.ivec.getD 0 0
      let w := s.whoCmd c
      let va := blkDst c.blk + toDW pos
      let accs := s.engAccs w c.wait Kind.engineWrite va ew
      match s.engBlocked w 1 accs with
      | some (.stop s1 cause fa) => .on vals (s1.modCmd inst (fun c => c.stopped 0 cause fa))
      | some (.wait _ st ask) =>
        let r := match ask with
          | some x => base.faultWait (base.whoCmd c) x.1 x.2.1 x.2.2
          | none => (st, base)
        .blocked (r.2.modCmd inst (fun c => { c with wait := some r.1 }))
      | some (.ok s1 _ _) => .on vals s1
      | none =>
        let bs := (c.result.drop pos).take ew
        let bad := c.badAt.contains (pos / ew)
        let ts := accTargets accs
        let rest : DW × Nat := (va + toDW ew, c.result.length - (pos + ew))
        let done := c.result.length ≤ pos + ew
        let later (crew bd : Nat) : Bool := !done && touches rest.1 rest.2 (s.crewIdx crew) bd
        let s1 := (s.engWrite c w ts bs bad).engFill c ts later
        let vals1 := if c.redo = 0 then vals ++ [(c.pkg, toDW (leNat bs))] else vals
        let s2 := s1.modCmd inst (fun c =>
          { (c.paged [va.toNat / 65536]) with
            ivec := [pos + ew, 0, 0, 0, 0], since := c.since + ew, phase := if done then .ended else c.phase })
        if !done && shareBead (va, ew) rest then State.collGroup inst base n s2 vals1
        else .on vals1 (s2.modCmd inst (fun c => { c with wait := none }))

/-- R217, R219: at most `n` groups of elements of a participant's result written. -/
def State.collWrite (inst : Nat) : Nat → State → List (Nat × DW) × State
  | 0, s => ([], s)
  | n + 1, s =>
    match s.cmd? inst with
    | none => ([], s)
    | some c =>
      if c.phase ≠ .running then ([], s)
      else
        match State.collGroup inst s c.result.length s [] with
        | .blocked s1 => ([], s1)
        | .on vals s1 =>
          if c.since ≠ 0 && decide (chunkBytes < ((s1.cmd? inst).map (fun d => d.since)).getD 0) then ([], s)
          else
            let r := State.collWrite inst n s1
            (vals ++ r.1, r.2)

/-- R204, R216, R228, R250: ENGINE_TRANSFER_CHUNK: one chunk of at most `n` groups of iterations. -/
def execEngineTransferChunk (inst n : Nat) (s : State) : Host.Outcome State Fault Refusal :=
  .next (
    match s.cmd? inst with
    | none => s
    | some c =>
      if c.phase = .reporting then
        (if s.cmdReady c then s.subDone c (c.final.getD 0) else s)
      else if c.blk.isEmpty then (if s.cmdReady c then s.subAccept c else s)
      else if c.kind = .coll then
        if !s.chunkFree c then s
        else if c.phase = .queued then
          if !s.canStart c then s
          else if c.started then s.modCmd inst (fun c => { c with phase := .running })
          else s.overLinks c (fun s => s.collJoin c)
        else s.overLinks c (fun s =>
          let r := State.collWrite inst n s
          r.2.chunkMerge c r.1)
      else
        let s1 := s.startOne c
        match s1.cmd? inst with
        | some d => s1.moveChunk d n
        | none => s1)

/-- R219: COLL_RESOLVE: a participant whose destination is complete. -/
def execCollResolve (inst : Nat) (s : State) : Host.Outcome State Fault Refusal :=
  .next (
    match s.cmd? inst with
    | none => s
    | some c =>
      if c.kind = .coll && c.phase = .ended && !(s.merges.any (fun m => m.inst == inst)) then
        let cause := match c.fault with
          | some f => f.cause.toNat
          | none => if c.poisoned then Cause.poison else 0
        s.collAlone c cause
      else s)

/-- R363: COLL. -/
def execColl (g : Pred) (c : SPair) (h : Hnd) (s : State) : Host.Outcome State Fault Refusal :=
  engineWord s g c h .coll State.collAccept

end Sys2Proof.Machine
end

