-- ==== Sys2Proof/Machine/Matrix.lean ====
section
/-!
DEFINITION. Sys2Proof/Machine/Matrix.lean: the matrix engine: MMA and MMA.X (R113, R230 to R246, R424 to R427), OPRDY (R244,
R431, R432) and MKDESC (R422, R423), with the events of its reservation table.
-/
namespace Sys2Proof.Machine

/-! ### Descriptors (R235 to R240) -/

/-- R235: the fields of a descriptor; an unknown format code gives none. -/
def Desc.ofBits (d : DW) : Option Desc :=
  (Fmt.ofCode (d.extractLsb' 22 4).toNat).map (fun f =>
    { base := (d.extractLsb' 0 15).toNat, core := (d.extractLsb' 15 2).toNat, regs := d.getLsbD 17, t := d.getLsbD 18,
      rot := (d.extractLsb' 19 3).toNat, fmt := f, rowp := (d.extractLsb' 32 10).toNat,
      tilep := (d.extractLsb' 42 10).toNat, klen := (d.extractLsb' 52 12).toNat })

/-- R231: K per pass of a format pair. -/
def kpOf (a b : Fmt) : Option Nat :=
  match a, b with
  | .bf16, .bf16 => some 64
  | .fp16, .fp16 => some 64
  | .bf16, .int4g => some 64
  | .e4m3, .e4m3 => some 128
  | .e4m3, .e5m2 => some 128
  | .e5m2, .e4m3 => some 128
  | .e5m2, .e5m2 => some 128
  | .i8, .i8 => some 128
  | .e2m1x, .e2m1x => some 256
  | _, _ => none

def ceilDiv (a b : Nat) : Nat := (a + b - 1) / b

/-- R236: storage rows of one K-step of an operand with `rows` rows. -/
def Desc.storageRows (d : Desc) (rows kp : Nat) : Nat := if d.t then kp else rows
/-- R236: the width of a storage row in bytes. -/
def Desc.width (d : Desc) (rows kp : Nat) : Nat := if d.t then rows * d.fmt.bits / 8 else kp * d.fmt.bits / 8
/-- R236: the extent, rounded up to 16. -/
def Desc.extent (d : Desc) (rows kp klen : Nat) : Nat :=
  ceilDiv ((ceilDiv klen kp - 1) * d.tilep * 16 + (d.storageRows rows kp - 1) * d.rowp * 16 + d.width rows kp) 16 * 16
/-- R237: the bytes of side data; `scnt` is the B descriptor's SCNT. -/
def Desc.side (d : Desc) (rows klen : Nat) : Nat :=
  match d.fmt with
  | .int4g => d.klen * 160
  | .e2m1x => 2 * rows * ceilDiv klen 32
  | _ => 0

/-- R236, R148: whether a scratchpad layout is sound. -/
def Desc.layoutOk (d : Desc) (rows kp klen : Nat) : Bool :=
  d.rot ≤ 3 && (d.rot == 0 || d.rowp % 32 == 0) && !(d.t && d.fmt.bits < 8) &&
  decide (d.width rows kp ≤ d.rowp * 16) &&
  (ceilDiv klen kp ≤ 1 || decide (d.storageRows rows kp * d.rowp ≤ d.tilep) ||
    (decide (d.width rows kp ≤ d.tilep * 16) && decide (ceilDiv klen kp * d.tilep ≤ d.rowp)))

/-- R148: banks per row of a rotation code. -/
def rotBanks (c : Nat) : Nat :=
  match c with
  | 0 => 0
  | 1 => 4
  | 2 => 8
  | _ => 16

/-- R148: where a byte of a row is stored. -/
def rotate (c a i : Nat) : Nat := a / 512 * 512 + (a / 8 % 64 + rotBanks c * i) % 64 * 8 + a % 8

/-- R236, R426: the address of the byte that holds element (row, k). -/
def Desc.place (d : Desc) (kp row k : Nat) : Nat :=
  let i := if d.t then k % kp else row
  let b := if d.t then row * d.fmt.bits / 8 else k % kp * d.fmt.bits / 8
  rotate d.rot (d.base * 16 + k / kp * d.tilep * 16 + i * d.rowp * 16 + b) i

/-- R238: registers that an operand in registers takes in each group. -/
def Desc.regList (d : Desc) (isA : Bool) : List Nat :=
  if d.regs then (List.range (if isA then 16 else 8)).map (d.base % 128 + ·) else []

/-- R238: the formats of an operand in registers. -/
def regFmt (f : Fmt) : Bool := f == .bf16 || f == .fp16 || f == .e4m3 || f == .e5m2 || f == .i8

/-! ### The crew and the team -/

/-- R59, R235, R427: the crew of a gang that is placed on a core and has not ended. -/
def State.gangCrew (s : State) (pkg gang core : Nat) : Option Crew :=
  s.crews.find? (fun c => c.pkg == pkg && c.gang == gang && c.core == core && !c.allEnded)

/-- R232: group j of a team. -/
def State.teamGroup (s : State) (crew team j : Nat) : Option Agent :=
  s.agents.find? (fun a => !a.isCc && a.crew == crew && a.grp == 8 * team + j)

/-! ### Operand bytes -/

/-- The first address that an operand's snapshot holds, and how many bytes it holds: whole blocks of 512, within which
rotation moves bytes (R148). -/
def Desc.span (d : Desc) (rows kp klen : Nat) : Nat × Nat :=
  let lo := d.base * 16 / 512 * 512
  (lo, ceilDiv (d.base * 16 + d.extent rows kp klen + d.side rows klen - lo) 512 * 512)

/-- R238: byte `b` of row `row` of an operand in registers, with its poison. -/
def State.regByte (s : State) (crew team : Nat) (d : Desc) (isA : Bool) (row b : Nat) : Option (Byte × Bool) :=
  let n := if isA then 16 else 8
  let w := if isA then 64 else 32
  (s.teamGroup crew team (row / n)).map (fun a =>
    let r := d.base % 128 + b % w / 4
    let l := row % n + n * (b / w)
    ((a.vreg r l).extractLsb' (8 * (b % 4)) 8, a.vpoison.contains (32 * r + l)))

/-- The bytes of an operand with their poison; none where the group or the crew that holds one has ended (R427), or where R148 moves a byte
beyond the crew's allocation: its value is free (DESIGN CHOICE, notes/assumptions/105.md). -/
def State.opBytes (s : State) (pkg gang leader crew team : Nat) (d : Desc) (isA : Bool) (kp klen : Nat) :
    List (Option (Byte × Bool)) :=
  let rows := if isA then 128 else 64
  if d.regs then
    (List.range (rows * 128)).map (fun i => s.regByte crew team d isA (i / 128) (i % 128))
  else
    let sp := d.span rows kp klen
    match s.gangCrew pkg gang (leader / 4 * 4 + d.core) with
    | none => List.replicate sp.2 none
    | some c =>
      (List.range sp.2).map (fun i =>
        if sp.1 + i < c.size then some (c.byte (sp.1 + i), c.poison.contains ((sp.1 + i) / 4)) else none)

def MmaReq.klen (m : MmaReq) : Nat := m.a.klen

/-- The bytes of an operand of a request now. -/
def State.opNow (s : State) (m : MmaReq) (isA : Bool) : List (Option (Byte × Bool)) :=
  s.opBytes m.pkg m.gang m.leader m.crew m.team (if isA then m.a else m.b) isA m.kp m.klen

/-- R182: the length of `State.wlog` from which an agent's writes come too late for a request's operands. -/
def MmaReq.markOf (m : MmaReq) (agent : Option Nat) : Nat :=
  (agent.bind (fun i => (m.marks.find? (fun y => y.1 == i)).map (fun y => y.2.2))).getD m.mark

/-- R144, R182: whether a group that saw the bead of a scratchpad byte full, after the write with this number, had done so
by its OPRDY. -/
def MmaReq.sawBead (m : MmaReq) (c : Crew) (off n : Nat) : Bool :=
  c.seen.any (fun y => y.2.1 == off / 16 && decide (n < y.2.2) && decide (y.2.2 ≤ m.markOf (some y.1)))

/-- R182: whether a scratchpad byte of an operand has been written when it may no longer be: by a group of the team after
its own OPRDY, by another agent after the team's last one, by anyone after the post; or by an engine command that no
group of the team had observed by its OPRDY (R180). -/
def State.padLate (s : State) (m : MmaReq) (crew off : Nat) : Bool :=
  let unseen (n : Nat) : Bool :=
    match s.crew? crew with
    | some c => !m.sawBead c off n
    | none => true
  let late (x : Nat × Wrote) : Bool :=
    decide (x.2.place = .pad crew) && decide (x.2.lo ≤ off) && decide (off < x.2.hi) &&
    (decide (m.markOf x.2.agent ≤ x.1) || (x.2.cmd.any (fun i => m.loose.contains i) && unseen x.1))
  ((List.range s.wlog.length).zip s.wlog.reverse).any late

/-- R182: whether the lane of a register that holds a byte of an operand has been written since its group's OPRDY, or since the
post. -/
def State.regLate (s : State) (m : MmaReq) (d : Desc) (isA : Bool) (row b : Nat) : Bool :=
  let n := if isA then 16 else 8
  let w := if isA then 64 else 32
  match s.teamGroup m.crew m.team (row / n) with
  | some a =>
    decide (((m.marks.find? (fun y => y.1 == a.id)).map (fun y => y.2.1)).getD 0 < a.vwrote (d.base % 128 + b % w / 4) (row % n + n * (b / w)))
  | none => true

/-- R182: whether the byte at a position of an operand's bytes has been written too late. -/
def State.opLate (s : State) (m : MmaReq) (isA : Bool) (i : Nat) : Bool :=
  let d := if isA then m.a else m.b
  if d.regs then s.regLate m d isA (i / 128) (i % 128)
  else
    match s.gangCrew m.pkg m.gang (m.leader / 4 * 4 + d.core) with
    | some c => s.padLate m c.id ((d.span (if isA then 128 else 64) m.kp m.klen).1 + i)
    | none => true

/-- R182: the bytes of an operand as the array takes them: those written too late are free values. -/
def State.opUsed (s : State) (m : MmaReq) (isA : Bool) (free : Nat) : List (Byte × Bool) :=
  let l := s.opNow m isA
  ((List.range l.length).zip l).map (fun x =>
    match x.2 with
    | some z => if s.opLate m isA x.1 then (Config.freeByte (free + x.1), false) else z
    | none => (Config.freeByte (free + x.1), false))

/-! ### Element values (R39, R41, R426) -/

/-- An operand ready to be read: its descriptor, rows, Kp, KLEN, group size, first address and bytes. -/
structure Operand where
  d : Desc
  rows : Nat
  kp : Nat
  klen : Nat
  g : Nat
  lo : Nat
  bytes : Array (Byte × Bool)

def Operand.at (o : Operand) (a : Nat) : Byte × Bool := o.bytes.getD (a - o.lo) (0, false)

/-- R39: the value of an E2M1X element. -/
def e2m1xVal (code scale x : Nat) : FVal :=
  if scale = 255 then .nan false
  else
    (if code = 8 then Fmt.value .e4m3 x else Fmt.value .e2m1 code).mul (.fin false 1 ((scale : Int) - 127))

/-- R41, R242: the value that the prologue gives an INT4G element. A zero that q = z gives has the sign of the scale
(DESIGN CHOICE, notes/assumptions/81.md). -/
def int4gVal (q z scale : Nat) : FVal :=
  Fmt.value .bf16 (roundArith .bf16 .rne false ((FVal.ofInt ((q : Int) - z)).mul (Fmt.value .bf16 scale))).bits

/-- The 4-bit field of a byte. -/
def nibbleOf (b : Byte) (hi : Bool) : Nat := if hi then b.toNat / 16 else b.toNat % 16

/-- The value of a plain element of `n` bytes at an address. -/
def Operand.plain (o : Operand) (a n : Nat) : FVal :=
  let bs := (List.range n).map (fun i => o.at (a + i))
  if Fmt.isFloat o.d.fmt && bs.any (fun x => x.2) then .nan false
  else Fmt.value o.d.fmt (leNat (bs.map (fun x => x.1)))

/-- R426: the value of element (row, k). -/
def Operand.value (o : Operand) (row k : Nat) : FVal :=
  let a := if o.d.regs then row * 128 + k * o.d.fmt.bits / 8 else o.d.place o.kp row k
  let side := o.d.base * 16 + o.d.extent o.rows o.kp o.klen
  match o.d.fmt with
  | .int4g =>
    let gi := 64 * (k / o.g) + row
    let x := o.at a
    let s0 := o.at (side + 2 * gi)
    let s1 := o.at (side + 2 * gi + 1)
    let z := o.at (side + 128 * o.d.klen + gi / 2)
    if x.2 || s0.2 || s1.2 || z.2 then .nan false
    else int4gVal (nibbleOf x.1 (k % 2 == 1)) (nibbleOf z.1 (gi % 2 == 1)) (s0.1.toNat + 256 * s1.1.toNat)
  | .e2m1x =>
    let e := side + 2 * (o.rows * (k / 32) + row)
    let x := o.at a
    if x.2 || (o.at e).2 || (o.at (e + 1)).2 then .nan false
    else e2m1xVal (nibbleOf x.1 (k % 2 == 1)) (o.at e).1.toNat (o.at (e + 1)).1.toNat
  | _ => o.plain a (o.d.fmt.bits / 8)

/-- R182, R426: an element of a format that can hold any value, from free bits. -/
def anyValue (f : Fmt) (x : W) : FVal :=
  match f with
  | .int4g => int4gVal (x.extractLsb' 0 4).toNat (x.extractLsb' 4 4).toNat (x.extractLsb' 8 16).toNat
  | .e2m1x => e2m1xVal (x.extractLsb' 0 4).toNat (x.extractLsb' 8 8).toNat (x.extractLsb' 16 8).toNat
  | _ => Fmt.value f x.toNat

/-- R243: B row k of column n under the duplication map; `fresh` gives the value of a row whose map word has been written too
late. -/
def dupValue (o : Operand) (map : List W) (late : List Bool) (fresh : Nat → FVal) (k n : Nat) : FVal :=
  let kb := k / 64
  let e := k % 64 - 60
  match map[kb]? with
  | none => o.value n k
  | some w =>
    if k % 64 < 60 then o.value n k
    else if late.getD kb false then fresh n
    else if w.getLsbD (7 * e + 6) then o.value n (64 * kb + (w.extractLsb' (7 * e) 6).toNat)
    else .fin false 0 0

/-- R53: the accumulator after one run. -/
def accRun (acc : W) (prods : List FVal) : W :=
  BitVec.ofNat 32 (roundArith .fp32 .rne false (sumExact false [Fmt.value .fp32 acc.toNat, sumExact false prods])).bits

/-- R53, R425: one result from its accumulator. -/
def mmaCell (ints : Bool) (klen : Nat) (av bv : Nat → FVal) (acc : W) : W :=
  (List.range (ceilDiv klen 16)).foldl (fun acc q =>
    let ks := (List.range 16).filterMap (fun i => if 16 * q + i < klen then some (16 * q + i) else none)
    let prods := ks.map (fun k => (av k).mul (bv k))
    if ints then acc + BitVec.ofInt 32 ((prods.map (FVal.toIntAt 0)).foldl (· + ·) 0)
    else accRun acc prods) acc

/-- R426: whether a byte of element (row, k), or of its side data, is poisoned. -/
def Operand.badAt (o : Operand) (row k : Nat) : Bool :=
  let a := if o.d.regs then row * 128 + k * o.d.fmt.bits / 8 else o.d.place o.kp row k
  let side := o.d.base * 16 + o.d.extent o.rows o.kp o.klen
  let gi := 64 * (k / o.g) + row
  let e := side + 2 * (o.rows * (k / 32) + row)
  match o.d.fmt with
  | .int4g =>
    (o.at a).2 || (o.at (side + 2 * gi)).2 || (o.at (side + 2 * gi + 1)).2 || (o.at (side + 128 * o.d.klen + gi / 2)).2
  | .e2m1x => (o.at a).2 || (o.at e).2 || (o.at (e + 1)).2
  | _ => (List.range (o.d.fmt.bits / 8)).any (fun i => (o.at (a + i)).2)

/-- R278: whether a poisoned byte of an operand is used; `dup` says that rows 60 to 63 of each block are replaced. -/
def Operand.poisoned (o : Operand) (dup : Bool) : Bool :=
  o.bytes.any (fun x => x.2) &&
  (List.range o.klen).any (fun k => !(dup && decide (60 ≤ k % 64)) && (List.range o.rows).any (fun r => o.badAt r k))

/-! ### Accumulators (R239) -/

/-- R182, R239: the results that register `r` of a group still waits to take. -/
def State.resFor (s : State) (a : Agent) (r : Nat) : Option MmaRes :=
  s.accRes.find? (fun m => m.has a && !m.know.contains a.id && decide (m.acc ≤ r) && m.regs.contains (r - m.acc))

/-- R239: the accumulators of a team from register `acc` on, row by row, as the array holds them. The spec does not say what the
rows of an ended group start from, which enter AMX's maximum (R246): free values (DESIGN CHOICE, notes/assumptions/90.md). -/
def State.accRead (s : State) (crew team acc : Nat) (free : Nat) : List W :=
  (List.range 8192).map (fun x =>
    match s.teamGroup crew team (x / 64 / 16) with
    | some a =>
      let r := acc + x % 32
      (match s.resFor a r with
       | some m => m.res.getD (x / 64 * 64 + x % 64 / 32 * 32 + (r - m.acc)) 0
       | none => a.vreg r (x / 64 % 16 + 16 * (x % 64 / 32)))
    | none => Config.freeWord (free + x))

/-- R277: the poisoned cells of a team's accumulators from register `acc` on. -/
def State.accBad (s : State) (crew team acc : Nat) : List Nat :=
  if s.agents.all (fun a => a.vpoison.isEmpty) && s.accRes.all (fun m => m.bad.isEmpty) then []
  else (List.range 8192).filter (fun x =>
    match s.teamGroup crew team (x / 64 / 16) with
    | some a =>
      let r := acc + x % 32
      (match s.resFor a r with
       | some m => m.bad.contains (x / 64 * 64 + x % 64 / 32 * 32 + (r - m.acc))
       | none => a.vpoison.contains (32 * r + (x / 64 % 16 + 16 * (x % 64 / 32))))
    | none => false)

/-- R239: the registers from `acc` on belong to a new MMA of the team; what is known of engine commands (R180) stays. -/
def State.accTake (s : State) (crew team acc : Nat) : State :=
  if s.accRes.isEmpty then s
  else
    let up (m : MmaRes) : MmaRes :=
      if m.crew == crew && m.team == team then
        { m with regs := m.regs.filter (fun i => !(decide (acc ≤ m.acc + i) && decide (m.acc + i < acc + 32))) }
      else m
    { s with accRes := (s.accRes.map up).filter (fun m => !m.regs.isEmpty || !m.slices.isEmpty) }

/-- The registers of a team that `f` gives a value for, by row and column, written. -/
def State.accWrite (s : State) (crew team acc : Nat) (regs : List Nat) (f : Nat → Nat → W) : State :=
  let one (a : Agent) : Agent :=
    regs.foldl (fun b i => b.setV (acc + i) (BitVec.allOnes 32) (fun l => f (accRow (a.grp % 8) l) (accCol i l))) a
  let up (a : Agent) : Agent := if !a.isCc && a.crew == crew && a.grp / 8 == team then one a else a
  { s with agents := s.agents.map up }

/-- R182: the team's accumulator registers hold unpredictable values until the MMA resolves. -/
def State.accFree (s : State) (crew team acc : Nat) : State :=
  { (s.accWrite crew team acc (List.range 32) (fun r c => Config.freeWord (s.free + 64 * r + c))) with
    free := s.free + 8192 }

/-- R239: requests of one team whose accumulators overlap. -/
def MmaReq.overlaps (m n : MmaReq) : Bool :=
  m.inst != n.inst && m.crew == n.crew && m.team == n.team && decide (m.acc < n.acc + 32) && decide (n.acc < m.acc + 32)

/-- R239: chained predecessors that have not yet written their results. -/
def State.chained (s : State) (m : MmaReq) : Bool := s.mmas.any (fun n => n.overlaps m && decide (n.inst < m.inst))

/-- R239, R425: what a chained successor reads for its accumulators once a predecessor's are final. -/
def MmaReq.inherit (m n : MmaReq) (res : List W) : List W :=
  (List.range 8192).map (fun x =>
    let r := n.acc + x % 32
    if m.acc ≤ r ∧ r < m.acc + 32 then res.getD (x / 64 * 64 + x % 64 / 32 * 32 + (r - m.acc)) 0 else n.acc0.getD x 0)

/-- R239, R277: the poison of what a chained successor reads for its accumulators. -/
def MmaReq.inheritBad (m n : MmaReq) (bad : List Nat) : List Nat :=
  if bad.isEmpty && n.acc0Bad.isEmpty then []
  else (List.range 8192).filter (fun x =>
    let r := n.acc + x % 32
    if m.acc ≤ r ∧ r < m.acc + 32 then bad.contains (x / 64 * 64 + x % 64 / 32 * 32 + (r - m.acc)) else n.acc0Bad.contains x)

/-- R182, R239: a request leaves with these accumulators, some of them poisoned: they go to its chained successors, and to the registers that no
request of the team still holds, once its resolution is ordered before their group. -/
def State.accLeave (s : State) (m : MmaReq) (res : List W) (bad : List Nat) : State :=
  let rest := s.mmas.filter (fun n => n.inst != m.inst)
  let held (i : Nat) : Bool := rest.any (fun n => n.overlaps m && decide (n.acc ≤ m.acc + i) && decide (m.acc + i < n.acc + 32))
  let up (n : MmaReq) : MmaReq := if m.overlaps n && decide (m.inst < n.inst) then { n with acc0 := m.inherit n res, acc0Bad := m.inheritBad n bad } else n
  let e : MmaRes :=
    { inst := m.inst, agent := m.agent, crew := m.crew, team := m.team, acc := m.acc,
      launch := m.launch, slices := [], told := [], regs := (List.range 32).filter (fun i => !held i), res := res, bad := bad,
      marks := m.accMarks, know := [], bars := [], msgs := [] }
  { s with mmas := rest.map up, accRes := if s.agents.any e.has then e :: s.accRes else s.accRes }

/-- R245, R427: a request resolves with a status. -/
def State.mmaResolve (s : State) (m : MmaReq) (res : List W) (bad : List Nat) (cause : Nat) : State :=
  (s.accLeave m res bad).resolveWith m.inst cause

/-- Unpredictable accumulators. -/
def State.freeAccs (s : State) : List W × State :=
  ((List.range 8192).map (fun x => Config.freeWord (s.free + x)), { s with free := s.free + 8192 })

/-! ### The duplication map and the merge (R243, R246) -/

/-- R246: the agent that the accesses of a request act for. -/
def State.whoMma (s : State) (m : MmaReq) : Who :=
  let v := s.vf m.pkg m.vf
  { pkg := m.pkg, vf := m.vf, asid := m.vf, croot := v.croot.toNat, troot := v.troot.toNat, tlbs := [.cluster m.cluster],
    core := none, cc := false, supervisor := false, crew := m.crew, gang := m.gang }

/-- R243: whether a map word is well formed. -/
def mapOk (w : W) : Bool :=
  w.extractLsb' 28 4 == 0 &&
  (List.range 4).all (fun e => !w.getLsbD (7 * e + 6) || decide ((w.extractLsb' (7 * e) 6).toNat < 60))

/-- What reading the duplication map gives: its words, or, after the reading of some, a cause or a wait. -/
inductive MapRead where
  | words (l : List (W × Place × Nat))
  | bad (cause read : Nat)
  | wait (s : State) (w : Stall) (read : Nat)

/-- R243: an address that is not within the map's reach gives ACCESS. -/
def mapCause (cause : Nat) : Nat :=
  if cause = Cause.privileged || cause = Cause.remoteTensor || cause = Cause.cohIsolation then Cause.access else cause

/-- R243: the map's words from word `i` on. -/
def State.mapFrom (s : State) (w : Who) (waiting : Option Stall) (at_ : DW) : Nat → Nat → MapRead
  | 0, _ => .words []
  | n + 1, i =>
    let va := at_ + toDW (4 * i)
    match s.settleWait w waiting va (s.checkAddr w Kind.load va 4) with
    | .bad cause _ => .bad (mapCause cause) i
    | .service l =>
      let r := s.faultWait w va 0 l
      .wait r.2 r.1 i
    | .wait st => .wait s st i
    | .ok t =>
      if s.targetPoisoned t 4 then .bad Cause.poison (i + 1)
      else
        let x : W := BitVec.ofNat 32 (leNat (s.readT w t 4 false).1)
        if !mapOk x then .bad Cause.mtxOperand (i + 1)
        else
          match State.mapFrom s w waiting at_ n (i + 1) with
          | .words l => .words ((x, t.stands.getD (.ctl, 0)) :: l)
          | r => r

/-- R243: the map of a request. -/
def State.mapRead (s : State) (m : MmaReq) : MapRead :=
  match m.dup with
  | none => .words []
  | some a => s.mapFrom (s.whoMma m) m.wait a (ceilDiv m.klen 64) 0

/-- R182, R243: which words of the map have been written too late: in the scratchpad as `State.padLate` says, elsewhere by
anyone after the team's last OPRDY (DESIGN CHOICE, notes/assumptions/113.md). -/
def State.mapLate (s : State) (m : MmaReq) : List Bool :=
  m.map.map (fun x =>
    match x.2 with
    | (.pad k, o) => (List.range 4).any (fun i => s.padLate m k (o + i))
    | (p, a) => s.wroteSince m.mark p a 4)

/-- R246: the magnitude of a result. -/
def resultMag (ints : Bool) (x : W) : Nat :=
  if ints then x.toInt.natAbs
  else if (Fmt.value .fp32 x.toNat).isNan then 0x7FC00000 else x.toNat % 2 ^ 31

/-- What the merge of AMX does. -/
inductive Merge where
  | ok (s : State)
  | bad (cause : Nat)
  | wait (s : State) (w : Stall)

/-- R246: the largest magnitude merged into the AMX word. No rule gives what a poisoned word does to the merge: its stored bytes
take part, as in a word that is not poisoned, and the status is none of its (DESIGN CHOICE, notes/assumptions/92.md). -/
def State.amxMerge (s : State) (m : MmaReq) (res : List W) : Merge :=
  match m.amx with
  | none => .ok s
  | some va =>
    let w := s.whoMma m
    let mag := (res.map (resultMag (m.a.fmt == .i8))).foldl max 0
    match s.settleWait w m.wait va (s.checkAddr w Kind.atomic va 4) with
    | .bad cause _ => .bad cause
    | .service l =>
      let r := s.faultWait w va 2 l
      .wait r.2 r.1
    | .wait st => .wait s st
    | .ok t =>
      let s1 := match t with
        | .ctl pa coh => if coh = 0 ∨ coh = 2 then s.hardTouch w (pa / 128) true false else s
        | _ => s
      .ok ((((s1.walkSent w va).homeWriteT t (toLE 4 (max (leNat (s1.homeGet t 4)) mag))).sendAtomic w t 4 (toLE 4 mag) []).stray t 4)

/-! ### The checks of R241 -/

/-- R235, R234: reserved bits of the two descriptors and of the extension word. -/
def mmaReserved (a b : DW) (ext : W) : Bool :=
  a.extractLsb' 26 6 != 0 || b.extractLsb' 26 6 != 0 || ext.extractLsb' 13 19 != 0 ||
  (!ext.getLsbD 1 && ext.extractLsb' 2 5 != 0) || (!ext.getLsbD 7 && ext.extractLsb' 8 5 != 0)

/-- R240, R241 order 5: the SCNT that a B descriptor must hold. -/
def scntOf (f : Fmt) (klen g : Nat) : Nat :=
  match f with
  | .int4g => ceilDiv klen g
  | .e2m1x => ceilDiv klen 32
  | _ => 0

/-- R241 order 7: whether a scratchpad operand lies in the allocation of its crew. -/
def State.operandIn (s : State) (a : Agent) (gang : Nat) (d : Desc) (rows kp klen : Nat) : Bool :=
  d.regs ||
  match s.gangCrew a.pkg gang (a.core / 4 * 4 + d.core) with
  | none => false
  | some c => decide (d.base * 16 + d.extent rows kp klen + d.side rows klen ≤ c.size)

/-- R241 order 8: whether an operand in registers is allowed. -/
def Desc.regOk (d : Desc) (isA : Bool) (kp klen acc : Nat) : Bool :=
  !d.regs || (regFmt d.fmt && decide (klen ≤ kp) && (d.regList isA).all (fun r => decide (r < acc) || decide (acc + 32 ≤ r)))

/-- R241: the checks in order: the two descriptors with Kp, or the trap. -/
def State.mmaCheck (s : State) (a : Agent) (sd : Side) (da db : SPair) (acc : VReg) (ext : W) :
    Trap ⊕ (Desc × Desc × Nat) :=
  let x := a.spair da.toNat
  let y := a.spair db.toNat
  let bad (n : W) : Trap ⊕ (Desc × Desc × Nat) := .inl (Trap.plain Cause.mtxOperand n)
  let g := fmtGsz sd.fmt
  let regs := (List.range 32).map (acc.toNat + ·) ++
    (if x.getLsbD 17 then (List.range 16).map ((x.extractLsb' 0 7).toNat + ·) else []) ++
    (if y.getLsbD 17 then (List.range 8).map ((y.extractLsb' 0 7).toNat + ·) else [])
  match s.crew? a.crew with
  | none => .inl (Trap.plain Cause.illegalInstr 0)
  | some c =>
    if (lanesOf sd.mask).length ≠ 1 || c.ngroups < 8 * (a.grp / 8) + 8 then .inl (Trap.plain Cause.illegalInstr 0)
    else
      match lowestBeyond a.nregs regs with
      | some r => .inl (Trap.plain Cause.regRange (BitVec.ofNat 32 r))
      | none =>
        if mmaReserved x y ext then bad 1
        else
          match Desc.ofBits x, Desc.ofBits y with
          | some d, some e =>
            match kpOf d.fmt e.fmt with
            | none => bad 2
            | some kp =>
              if d.klen = 0 || e.klen ≠ scntOf e.fmt d.klen g then bad 3
              else if (!d.regs && !d.layoutOk 128 kp d.klen) || (!e.regs && !e.layoutOk 64 kp d.klen) then bad 4
              else if !s.operandIn a c.gang d 128 kp d.klen || !s.operandIn a c.gang e 64 kp d.klen then bad 5
              else if !d.regOk true kp d.klen acc.toNat || !e.regOk false kp d.klen acc.toNat then bad 6
              else if (ext.getLsbD 1 && (a.spair (ext.extractLsb' 2 5).toNat).toNat % 4 ≠ 0) ||
                  (ext.getLsbD 7 && (a.spair (ext.extractLsb' 8 5).toNat).toNat % 4 ≠ 0) then
                .inl (Trap.plain Cause.misaligned 0)
              else .inr (d, e, kp)
          | _, _ => bad 2

/-! ### Posting -/

/-- R9: the next and the previous core of a cluster's ring. -/
def ringNext (core : Nat) (back : Bool) : Nat := core / 4 * 4 + (core % 4 + (if back then 3 else 1)) % 4

/-- R244: an MMA posted from a clause of class MTX with OPR clears its team's ready bits. -/
def State.clearReady (s : State) (a : Agent) (sd : Side) : State :=
  if sd.pt.opr && sd.pt.cls == .mtx then
    s.modCrew a.crew (fun c => { c with ready := c.ready &&& ~~~((0xFF : W) <<< (8 * (a.grp / 8))) })
  else s

/-- R239, R243: a request whose map cannot be used resolves with its cause and unpredictable accumulators, once its chained
predecessors have written theirs. -/
def State.mapFail (s : State) (m : MmaReq) (cause : Nat) : State :=
  if s.chained m then s.modMma m.inst (fun m => { m with failed := some cause, wait := none })
  else
    let r := s.freeAccs
    r.2.mmaResolve m r.1 [] cause

/-- R71, R289: what the reading of the first words of a request's map sends, and the stack areas that it meets. -/
def State.mapTaken (s : State) (m : MmaReq) (n : Nat) : State :=
  match m.dup with
  | some a => if n = 0 then s else s.readBy (s.whoMma m) Kind.load a (4 * n)
  | none => s

/-- R243: a posted request takes its map, waits for it, or resolves with its cause. -/
def State.takeMap (s : State) (m : MmaReq) : State :=
  match s.mapRead m with
  | .words l => (s.mapTaken m (ceilDiv m.klen 64)).modMma m.inst (fun m => { m with map := l, wait := none })
  | .bad cause n => (s.mapTaken m n).mapFail m cause
  | .wait s1 st n => { s1 with strayed := (s.mapTaken m n).strayed }.modMma m.inst (fun m => { m with wait := some st })

/-- R232: the groups of a team. -/
def State.teamOf (s : State) (crew team : Nat) : List Agent :=
  s.agents.filter (fun a => !a.isCc && a.crew == crew && a.grp / 8 == team)

/-- R182, R244, R431: for each group of a team, since when its writes make operands unpredictable: since its OPRDY, also where it
has ended after it, or, where the clause does not wait for one, since the post. -/
def State.opMarks (s : State) (crew team : Nat) (opr : Bool) : List (Nat × Nat × Nat) :=
  let live := s.teamOf crew team
  let done : List (Nat × Nat × Nat × Nat) :=
    match if opr then s.crew? crew else none with
    | some c => c.readyAt.filter (fun x => x.1 / 8 == team && c.ready.getLsbD x.1)
    | none => []
  live.map (fun a =>
    match done.find? (fun x => x.2.1 == a.id) with
    | some x => x.2
    | none => (a.id, a.vcount, s.wlog.length)) ++
  (done.filter (fun x => !live.any (fun a => a.id == x.2.1))).map (fun x => x.2)

/-- R180, R182: the engine commands that wrote scratchpad bytes and that no group of the team had observed by its OPRDY, or,
without OPR, the issuing group by the post. -/
def State.looseCmds (s : State) (a : Agent) (team : Nat) (opr : Bool) : List Nat :=
  let known (m : MmaRes) : Bool :=
    if opr then (s.teamOf a.crew team).any (fun b => m.told.contains b.id) else m.know.contains a.id
  ((s.wlog.filterMap (fun x => x.cmd)).eraseDups).filter (fun i =>
    s.cmds.any (fun d => d.opNum == i) || s.accRes.any (fun m => !m.slices.isEmpty && m.inst == i && !known m))

/-- R84, R113, R425, R432: the request posted. Every MMA of a clause with OPR orders what was released before the header's wait was
met. -/
def State.postMma (s : State) (a : Agent) (sd : Side) (cu : Cursor) (d e : Desc) (kp : Nat) (acc : VReg) (h : Hnd)
    (f : Bool) (ext : W) : State :=
  let gang := ((s.crew? a.crew).map (fun c => c.gang)).getD 0
  let team := a.grp / 8
  let r := s.bind a.id h.toNat
  let pair (on : Nat) (o : Nat) : Option DW := if ext.getLsbD on then some (a.spair (ext.extractLsb' o 5).toNat) else none
  let opr := sd.pt.opr && sd.pt.cls == .mtx
  let marks := if opr then sd.pt.marks else s.opMarks a.crew team false
  let m : MmaReq :=
    { inst := r.1, pkg := a.pkg, cluster := a.core / 4, leader := a.core, follower := ringNext a.core f, agent := a.id,
      hnum := h.toNat, crew := a.crew, gang := gang, vf := a.vf, launch := a.launch, team := team, a := d, b := e,
      acc := acc.toNat, kp := kp, g := if e.fmt == .e2m1x then 32 else fmtGsz sd.fmt, ovw := ext.getLsbD 0,
      amx := pair 1 2, dup := pair 7 8, prio := a.prio, posted := s.aclk, waitFrom := s.aclk, promoted := none,
      busy := none, passes := ceilDiv d.klen kp, done := 0, saved := false, wait := none,
      acc0 := s.accRead a.crew team acc.toNat s.free, acc0Bad := s.accBad a.crew team acc.toNat, marks := marks,
      mark := if opr then marks.foldl (fun n x => max n x.2.2) 0 else s.wlog.length,
      loose := if opr then sd.pt.loose else s.looseCmds a team false,
      failed := none, accMarks := [], map := [] }
  let s0 := { r.2 with free := r.2.free + 8192 }
  let s1 := ((s0.clearReady a sd).accTake a.crew team acc.toNat).accFree a.crew team acc.toNat
  let m1 : MmaReq := { m with accMarks := (s1.teamOf a.crew team).map (fun b => (b.id, b.vcount)) }
  (({ s1 with mmas := s1.mmas ++ [m1] }).takeMap m1).retire cu

/-- R84, R113, R233, R241, R425: the word MMA with its extension word (0 for MMA). -/
def mmaWord (s : State) (da db : SPair) (acc : VReg) (h : Hnd) (f : Bool) (ext : W) : Host.Outcome State Fault Refusal :=
  withIssuer s (fun a sd cu =>
    match s.mmaCheck a sd da db acc ext with
    | .inl t => s.trap a sd cu t
    | .inr (d, e, kp) =>
      if (a.handle h.toNat).isPending then s.stall cu (.handle h.toNat)
      else if tableRoom ≤ s.posted a.pkg (a.core / 4) then s.stall cu (.table (a.core / 4))
      else
        match s.release a.pkg (cacheCore a) with
        | (some st, s1) => s1.stall cu st
        | (none, s1) => s1.postMma a sd cu d e kp acc h f ext)

/-- R424, R425: MMA. -/
def execMma (da db : SPair) (acc : VReg) (h : Hnd) (f : Bool) (s : State) : Host.Outcome State Fault Refusal :=
  mmaWord s da db acc h f 0

/-- R424, R425: MMA.X. -/
def execMmaX (da db : SPair) (acc : VReg) (h : Hnd) (f : Bool) (ext : W) (s : State) : Host.Outcome State Fault Refusal :=
  mmaWord s da db acc h f ext

/-- R244: whether a group's ready bit is set. -/
def State.isReady (s : State) (a : Agent) : Bool := (s.crew? a.crew).any (fun c => c.ready.getLsbD a.grp)

/-- R244, R431: OPRDY; setting a bit that is set has no further effect. -/
def execOprdy (g : Pred) (s : State) : Host.Outcome State Fault Refusal :=
  scalarWord s g (fun a _ cu =>
    if s.isReady a then s.retire cu
    else
      ((s.modCrew a.crew (fun c =>
        { c with ready := c.ready ||| ((1 : W) <<< a.grp)
                 readyAt := (a.grp, a.id, a.vcount, s.wlog.length) :: c.readyAt.filter (fun x => x.1 != a.grp) })).tellReady a.id).retire cu)

/-- R422, R423: MKDESC. -/
def execMkdesc (g : Pred) (d a : SReg) (b : SSrc) (s : State) : Host.Outcome State Fault Refusal :=
  scalarWord s g (fun x sd cu =>
    let c := SSrc.get x b
    let va := pairVal (x.sreg a.toNat) (x.sreg (a.toNat + 1))
    let l := lowLane (activeMask x sd g)
    let bad (cause : Nat) : State := s.trap x sd cu (memTrap cu 0 cause l (laneBit l) va 0)
    if c.extractLsb' 8 24 != 0 || decide (3 < (c.extractLsb' 5 3).toNat) || (Fmt.ofCode (c.extractLsb' 0 4).toNat).isNone then
      s.trap x sd cu (Trap.plain Cause.illegalInstr cu.raw)
    else if x.isCc || vaClass va ≠ 2 then bad Cause.access
    else
      match s.padTarget (s.who x) va 0 with
      | some (.pad k off _) =>
        if off % 16 ≠ 0 then bad Cause.misaligned
        else
          match s.crew? k with
          | none => bad Cause.access
          | some w =>
            if w.size ≤ off then bad Cause.access
            else if w.core / 4 ≠ x.core / 4 then s.trap x sd cu (Trap.plain Cause.mtxOperand 5)
            else
              (s.setAgent (x.setS d.toNat (BitVec.ofNat 32 (off / 16 + (w.core % 4) * 2 ^ 15 + (c.extractLsb' 4 1).toNat * 2 ^ 18 +
                (c.extractLsb' 5 3).toNat * 2 ^ 19 + (c.extractLsb' 0 4).toNat * 2 ^ 22)))).retire cu
      | _ => bad Cause.access)

/-! ### Arbitration (R113, R230) -/

/-- R113: aclk that a pass takes. -/
def passTime : Nat := 32
/-- R113: aclk after which a waiting request is promoted. -/
def promoteAfter : Nat := 2048

/-- R230: whether an array is serving a pass. -/
def State.arrayBusy (s : State) (pkg core : Nat) : Bool :=
  s.mmas.any (fun m => m.pkg == pkg && m.busy.isSome && (m.leader == core || m.follower == core))

/-- Whether what a request waits for has come. -/
def State.mmaReady (s : State) (m : MmaReq) : Bool :=
  match m.wait with
  | none => true
  | some w => s.stallCleared { Agent.blank with pkg := m.pkg } w

/-- R243: whether a request has still to read its duplication map. -/
def MmaReq.needsMap (m : MmaReq) : Bool := m.dup.isSome && m.map.isEmpty && m.failed.isNone && decide (m.done < m.passes)

/-- R113, R119, R239: whether a request waits for nothing but its arrays. -/
def State.wantsPass (s : State) (m : MmaReq) : Bool :=
  !m.saved && m.busy.isNone && decide (m.done < m.passes) && m.wait.isNone && !m.needsMap && m.failed.isNone && s.vfLive m.pkg m.vf &&
  !(m.done == 0 && s.chained m)

/-- R230: whether two requests need an array in common. -/
def MmaReq.shares (m n : MmaReq) : Bool :=
  m.pkg == n.pkg && (m.leader == n.leader || m.leader == n.follower || m.follower == n.leader || m.follower == n.follower)

/-- R113: the order of the arbiter. -/
def MmaReq.before (m n : MmaReq) : Bool :=
  match m.promoted, n.promoted with
  | some x, some y => decide (x < y) || (x == y && decide (m.inst < n.inst))
  | some _, none => true
  | none, some _ => false
  | none, none => decide (n.prio < m.prio) || (m.prio == n.prio && decide (m.inst < n.inst))

/-- R113, R119, R239: whether a request may be granted a pass now: both its arrays are free, and no promoted request ordered
before it waits for one of them, so that a promoted request is passed over by none (DEDUCED, notes/assumptions/91.md). -/
def State.grantable (s : State) (m : MmaReq) : Bool :=
  s.wantsPass m && !s.arrayBusy m.pkg m.leader && !s.arrayBusy m.pkg m.follower &&
  !(s.mmas.any (fun n => n.promoted.isSome && s.wantsPass n && n.before m && n.shares m))

/-- R113: MMA_PASS_GRANT: the first grantable request of its cluster is granted a pass; a request whose map reads were
waiting, or parked with their context (R267), reads it. -/
def execMmaPassGrant (inst : Nat) (s : State) : Host.Outcome State Fault Refusal :=
  .next (
    match s.mma? inst with
    | none => s
    | some m =>
      if m.needsMap then (if !m.saved && s.mmaReady m then s.takeMap m else s)
      else if s.grantable m &&
          !(s.mmas.any (fun n => n.pkg == m.pkg && n.cluster == m.cluster && s.grantable n && n.before m)) then
        s.modMma inst (fun m => { m with busy := some (s.aclk + passTime), waitFrom := s.aclk, promoted := none })
      else s)

/-- R113: MMA_PROMOTE. -/
def execMmaPromote (inst : Nat) (s : State) : Host.Outcome State Fault Refusal :=
  .next (
    match s.mma? inst with
    | none => s
    | some m =>
      if !m.saved && m.busy.isNone && m.promoted.isNone && decide (m.waitFrom + promoteAfter ≤ s.aclk) then
        s.modMma inst (fun m => { m with promoted := some s.aclk })
      else s)

/-! ### Results -/

/-- R425, R426: the results of a request, with whether a poisoned operand was used. -/
def State.mmaResults (s : State) (m : MmaReq) : (List W × Bool) × State :=
  let ua := s.opUsed m true s.free
  let ub := s.opUsed m false (s.free + ua.length)
  let f0 := s.free + ua.length + ub.length
  let oa : Operand := { d := m.a, rows := 128, kp := m.kp, klen := m.klen, g := m.g,
                        lo := if m.a.regs then 0 else (m.a.span 128 m.kp m.klen).1, bytes := ua.toArray }
  let ob : Operand := { d := m.b, rows := 64, kp := m.kp, klen := m.klen, g := m.g,
                        lo := if m.b.regs then 0 else (m.b.span 64 m.kp m.klen).1, bytes := ub.toArray }
  let late := s.mapLate m
  let map := m.map.map (fun x => x.1)
  let fresh (k n : Nat) : FVal := anyValue m.b.fmt (Config.freeWord (f0 + 64 * k + n))
  let ints := m.a.fmt == .i8
  let cell (x : Nat) : W :=
    mmaCell ints m.klen (fun k => oa.value (x / 64) k) (fun k => dupValue ob map late (fresh k) k (x % 64))
      (if m.ovw then 0 else m.acc0.getD x 0)
  (((List.range 8192).map cell, oa.poisoned false || ob.poisoned m.dup.isSome), { s with free := f0 + 64 * m.klen })

/-- R245, R246, R427: the last pass is done: the merge, the results and the resolution. A merge that fails gives the status, also
where a poisoned operand was used (DESIGN CHOICE, notes/assumptions/106.md). -/
def State.mmaFinish (s : State) (m : MmaReq) : State :=
  let r := s.mmaResults m
  match r.2.amxMerge m r.1.1 with
  | .wait s1 st => { (s1.modMma m.inst (fun m => { m with wait := some st })) with free := s.free }
  | .bad cause => r.2.mmaResolve m r.1.1 [] cause
  | .ok s1 => s1.mmaResolve m r.1.1 [] (if r.1.2 then Cause.poison else 0)

/-- R113, R245: MMA_PASS_DONE: a pass ends, or the merge that was waiting is tried again. -/
def execMmaPassDone (inst : Nat) (s : State) : Host.Outcome State Fault Refusal :=
  .next (
    match s.mma? inst with
    | none => s
    | some m =>
      match m.busy with
      | some t =>
        if t ≤ s.aclk then
          let s1 := s.modMma inst (fun m => { m with busy := none, done := m.done + 1 })
          if m.done + 1 < m.passes then s1 else s1.mmaFinish { m with busy := none, done := m.done + 1 }
        else s
      | none =>
        match m.failed with
        | some cause => if m.saved then s else s.mapFail m cause
        | none => if m.passes ≤ m.done && !m.saved && s.mmaReady m then s.mmaFinish m else s)

/-- R245, R277: HCANCEL of an MMA before its first pass is granted: the accumulators are as they were, poison included. -/
def State.mmaCancel (s : State) (m : MmaReq) : State :=
  if m.done = 0 && m.busy.isNone then s.mmaResolve m m.acc0 m.acc0Bad Cause.cancelled else s

/-- R121: an MMA cancelled with its VF's commands; one whose passes have begun leaves unpredictable accumulators (DESIGN CHOICE,
notes/assumptions/89.md). -/
def State.mmaDrop (s : State) (m : MmaReq) : State :=
  if m.done = 0 && m.busy.isNone then s.mmaCancel m
  else
    let r := s.freeAccs
    r.2.mmaResolve m r.1 [] Cause.cancelled

end Sys2Proof.Machine
end

