-- ==== Sys2Proof/Machine/Handles.lean ====
section
/-!
DEFINITION. Sys2Proof/Machine/Handles.lean: HWAIT, HTEST, HCANCEL, HSAVE, HLOAD and HMOV (R84 to R90, R123, R223, R401 to
R407).
-/
namespace Sys2Proof.Machine

/-- R84, R402: what a read of a handle that does not wait returns. -/
def Handle.status (x : Handle) : W :=
  match x with
  | .idle => 0
  | .pending _ _ => 0
  | .resolved _ st => st

/-- R402, R180: reading a resolved status is an observation. -/
def State.observe (s : State) (a : Agent) (x : Handle) : State :=
  if x.status = 0 then s else (s.observeDone a).sawHandle a.id x

/-- R84, R402, R407: HWAIT. -/
def execHwait (g : Pred) (h : Hnd) (d : Option SReg) (s : State) : Host.Outcome State Fault Refusal :=
  scalarWord s g (fun a sd c =>
    let x := sd.told h.toNat (a.handle h.toNat)
    if x.isPending then s.stall c (.hwait h.toNat)
    else
      let b := match d with
        | some r => a.setS r.toNat x.status
        | none => a
      ((s.setAgent b).observe b x).retire c)

/-- R84, R402: HTEST. -/
def execHtest (g : Pred) (h : Hnd) (d : SReg) (s : State) : Host.Outcome State Fault Refusal :=
  scalarWord s g (fun a _ c =>
    let x := a.handle h.toNat
    let b := a.setS d.toNat x.status
    ((s.setAgent b).observe b x).retire c)

/-! ### HCANCEL -/

/-- R223: whether commands that move data in ascending order may still be cancelled: the last 4 KiB of their destination
have not been started. -/
def beforeLast (l : List Cmd) : Bool :=
  let total := (l.map Cmd.bytesTotal).foldl (· + ·) 0
  let done := (l.map Cmd.bytesDone).foldl (· + ·) 0
  decide ((if total < 4096 then total else 4096) ≤ total - done)

/-- R123, R205, R223: a COPY with its set, a GATHER, a SCATTER or an MGT cancelled; one that LEAD holds unstarted resolves at
once. -/
def State.cancelMove (s : State) (c : Cmd) : State :=
  let l := s.setOf c.set
  let st := statusWord Cause.cancelled 0
  if !beforeLast l || l.any (fun d => d.final.isSome) then s
  else if s.vfStarts c.pkg c.vf || l.any (fun d => d.started) then s.endSet l st
  else (s.freeResumed l).resolveSet l st

/-- R216, R223: a collective cancelled before this participant's first byte is written. -/
def State.cancelColl (s : State) (c : Cmd) : State :=
  if c.started then
    if (c.phase = .running || c.phase = .queued) && c.bytesDone == 0 then
      let l := (s.setOf c.set).filter (fun d => d.phase != .dead && d.phase != .reporting)
      l.foldl (fun s d => s.collAlone d Cause.cancelled) (l.foldl State.scramble s)
    else s
  else if c.phase = .queued || c.phase = .joining then
    let l := c :: (s.collPeers c).filter (fun d => !d.started && (d.phase == .queued || d.phase == .joining))
    (l.foldl State.scramble s).collFail l (fun _ => Cause.cancelled)
  else s

/-- R123, R223, R245, R403: the cancellation of an operation. An engine word that has not yet copied its block is cancelled
without a command (DESIGN CHOICE, notes/assumptions/116.md). -/
def State.cancelInst (s : State) (inst : Nat) : State :=
  match s.cmd? inst, s.mma? inst with
  | some c, _ =>
    match c.kind with
    | .coll => s.cancelColl c
    | .tsend => if c.phase = .armed then s.endSet [c] (statusWord Cause.cancelled 0) else s
    | _ => s.cancelMove c
  | none, some m => s.mmaCancel m
  | none, none => s.resolve inst (statusWord Cause.cancelled 0)

/-- R84, R403: HCANCEL acts through a binding made by the group that issued the operation. -/
def execHcancel (g : Pred) (h : Hnd) (s : State) : Host.Outcome State Fault Refusal :=
  scalarWord s g (fun a _ c =>
    match a.handle h.toNat with
    | .pending i false => (s.cancelInst i).retire c
    | _ => s.retire c)

/-! ### Tokens -/

/-- R404: the token of a handle's state. -/
def Handle.token (x : Handle) (vf pkg : Nat) : DW :=
  let t (i : Nat) : DW := toDW (i % 2 ^ 32 + vf % 128 * 2 ^ 32 + pkg % 512 * 2 ^ 40 + 2 ^ 63)
  match x with
  | .idle => 0
  | .pending i _ => t i
  | .resolved i _ => t i

/-- R404: HSAVE, a plain store of 8 bytes. -/
def execHsave (g : Pred) (p : SPair) (h : Hnd) (s : State) : Host.Outcome State Fault Refusal :=
  scalarWord s g (fun a sd c =>
    s.withAccs a sd c Kind.store [s.laneAcc a sd Kind.store 8 (lowLane (activeMask a sd g), a.spair p.toNat)]
      (fun s1 ts => s1.storeGo a c false .plain 8 (fun _ => ((a.handle h.toNat).token a.vf a.pkg).toNat) ts))

/-- R405: whether a token, not zero, is one that a group of this VF and package may bind. -/
def tokenOk (t : DW) (vf pkg : Nat) : Bool :=
  t.getLsbD 63 && !t.getLsbD 39 && t.extractLsb' 49 14 == 0 && (t.extractLsb' 32 7).toNat == vf &&
  (t.extractLsb' 40 9).toNat == pkg

/-- R88, R405: the state that a token gives a handle. -/
def State.tokenState (s : State) (a : Agent) (t : DW) : Handle :=
  let i := (t.extractLsb' 0 32).toNat
  let mine (x : Inst) : Bool :=
    x.inst % 2 ^ 32 == i && (match s.agent? x.agent with
      | some b => b.vf == a.vf && b.pkg == a.pkg
      | none => false)
  match s.insts.find? mine with
  | some x =>
    match x.status with
    | some st => .resolved x.inst st
    | none => .pending x.inst true
  | none => .resolved i (statusWord Cause.handle 0)

/-- R88, R180, R405: the handle takes a token's state, or HANDLE is raised; the status of an operation that has resolved is
observed. `flags` is what the load of the token leaves in fmt, which a trapping word does not write (R260). -/
def State.bindToken (s : State) (a : Agent) (sd : Side) (c : Cursor) (h : Nat) (t : DW) (flags : W) : State :=
  if t = 0 then (((s.orFmt c flags).dropHandle a.id h).modAgent a.id (fun a => a.setHandle h .idle)).retire c
  else if !tokenOk t a.vf a.pkg then s.trap a sd c (Trap.plain Cause.handle (BitVec.ofNat 32 h))
  else
    let x := s.tokenState a t
    ((((s.orFmt c flags).dropHandle a.id h).modAgent a.id (fun a => a.setHandle h x)).observe a x).retire c

/-- R84, R405: HLOAD, a plain load of 8 bytes, then the binding. -/
def execHload (g : Pred) (p : SPair) (h : Hnd) (s : State) : Host.Outcome State Fault Refusal :=
  scalarWord s g (fun a sd c =>
    let l := lowLane (activeMask a sd g)
    if (a.handle h.toNat).isPending then s.stall c (.handle h.toNat)
    else
      s.withAccs a sd c Kind.load [s.laneAcc a sd Kind.load 8 (l, a.spair p.toNat)] (fun s1 ts =>
        match ts with
        | [] => s1.retire c
        | x :: _ =>
          let bad := s1.readPoisoned (s1.who a) x.2.2 8
          if bad && a.errtrap then s1.trap a sd c (memTrap c 0 Cause.poison l (laneBit l) x.2.1 0)
          else
            let r := s1.readT (s1.who a) x.2.2 8 true
            r.2.bindToken a sd c h.toNat (toDW (leNat r.1)) (if bad then spoi else 0)))

/-- R84, R87, R406: HMOV. -/
def execHmov (g : Pred) (d h : Hnd) (s : State) : Host.Outcome State Fault Refusal :=
  scalarWord s g (fun a _ c =>
    if (a.handle d.toNat).isPending then s.stall c (.handle d.toNat)
    else if d = h then s.retire c
    else ((s.dropHandle a.id d.toNat).modAgent a.id (fun b => b.setHandle d.toNat (a.handle h.toNat))).retire c)

end Sys2Proof.Machine
end

