-- ==== Sys2Proof/Machine/Queues.lean ====
section
/-!
DEFINITION. Sys2Proof/Machine/Queues.lean: virtual queues: their tail lines, pending bits, residency and fetches (R101,
R102, R107 to R109), and the records they give (R103).
-/
namespace Sys2Proof.Machine

/-! ### Reads and writes for a VF -/

/-- R268: accesses that the package makes for a VF: record fetches, header reads and completion writes. -/
def State.whoVf (s : State) (pkg vf : Nat) : Who :=
  let v := s.vf pkg vf
  { pkg := pkg, vf := vf, asid := vf, croot := v.croot.toNat, troot := v.troot.toNat, tlbs := [], core := none,
    cc := false, supervisor := false, crew := 0, gang := 0 }

/-- What a read for a VF gives. -/
inductive Got (α : Type) where
  | ok (x : α)
  | bad (cause : Nat)
  | wait (s : State) (w : Stall)

/-- The bytes at an address for a VF: those of its home. R102 makes what is fetched from a ring or a tail line on a page
neither HARD nor UNCACHED unpredictable; such a page is read like any other (DESIGN CHOICE, notes/assumptions/78.md). -/
def State.rdVf (s : State) (w : Who) (waiting : Option Stall) (va : DW) (n : Nat) : Got (List Byte) :=
  let accs := s.engAccs w waiting Kind.load va n
  match s.engBlocked w 0 accs with
  | some (.stop _ cause _) => .bad cause
  | some (.wait s1 st _) => .wait s1 st
  | some (.ok _ _ _) => .bad Cause.access
  | none =>
    let r := (s.engRead w (accTargets accs)).1
    if r.2 then .bad Cause.poison else .ok r.1

/-- Whether what a queue or a launch waits for has come. -/
def State.waitOver (s : State) (pkg : Nat) (w : Option Stall) : Bool :=
  match w with
  | none => true
  | some st => s.stallCleared { Agent.blank with pkg := pkg } st

/-! ### Pending bits (R102, R285) -/

/-- The physical address of a queue's pending word, where its VF maps it. -/
def State.pendingPa (s : State) (pkg : Nat) (q : Queue) : Option Nat :=
  match s.checkAddr (s.whoVf pkg q.vf) Kind.load q.pword 4 with
  | .ok (.ctl pa _) => some pa
  | _ => none

/-- The queue's pending bit. -/
def State.pendingBit (s : State) (pkg : Nat) (q : Queue) : Bool :=
  match s.pendingPa pkg q with
  | some pa => (leNat (s.homeRead .ctl pa 4)).testBit q.pbit
  | none => false

/-- The queue's pending bit written by the package. -/
def State.setPendingBit (s : State) (pkg : Nat) (q : Queue) (b : Bool) : State :=
  match s.pendingPa pkg q with
  | some pa =>
    let x : W := BitVec.ofNat 32 (leNat (s.homeRead .ctl pa 4))
    let y : W := if b then x ||| ((1 : W) <<< q.pbit) else x &&& ~~~((1 : W) <<< q.pbit)
    (s.ownWrite pkg pa (toLE 4 y.toNat)).exchange .ctl pkg pa (toLE 4 y.toNat) []
  | none => s

/-- R289: what the package's reading of a queue's pending word sends. -/
def State.pendingSent (s : State) (pkg : Nat) (q : Queue) : State := s.readSent (s.whoVf pkg q.vf) Kind.load q.pword 4

/-- R289: what the package's reading of a queue's TAIL sends. -/
def State.tailSent (s : State) (pkg : Nat) (q : Queue) : State := s.readSent (s.whoVf pkg q.vf) Kind.load q.tline 8

/-! ### Tail lines -/

def State.queue? (s : State) (pkg n : Nat) : Option Queue := (s.pkg? pkg).bind (fun p => p.queues.find? (fun q => q.num == n))
def State.modQueue (s : State) (pkg n : Nat) (f : Queue → Queue) : State := s.modPkg pkg (fun p => p.modQueue n f)

/-- R102, R108: a queue faults and is reported to firmware. -/
def State.faultQueue (s : State) (pkg : Nat) (q : Queue) (cause : Nat) : State :=
  (s.modQueue pkg q.num (fun q => { q with st := .faulted, stb := 2, wait := none })).emit
    (.firmware pkg cause q.vf (toDW q.num))

/-- R101: a queue's TAIL. -/
def State.readTail (s : State) (pkg : Nat) (q : Queue) : Got Nat :=
  match s.rdVf (s.whoVf pkg q.vf) q.wait q.tline 8 with
  | .ok b => .ok (leNat b)
  | .bad c => .bad c
  | .wait s1 st => .wait s1 st

/-- R102: whether a TAIL is in range. -/
def Queue.tailOk (q : Queue) (t : Nat) : Bool := decide (q.head ≤ t) && decide (t ≤ q.head + 2 ^ q.log2n)

/-- R102: TAIL read for an event of a queue: the queue faults, waits, or the event goes on with TAIL. The report of a TAIL
out of range carries ENGINE_DESC (DESIGN CHOICE, notes/assumptions/79.md: the rule gives it no cause). -/
def State.withTail (s : State) (pkg : Nat) (q : Queue) (go : State → Nat → State) : State :=
  match s.readTail pkg q with
  | .bad cause => (s.tailSent pkg q).faultQueue pkg q cause
  | .wait s1 st => s1.modQueue pkg q.num (fun q => { q with wait := some st })
  | .ok t =>
    let s1 := s.tailSent pkg q
    if q.tailOk t then go (s1.modQueue pkg q.num (fun q => { q with wait := none })) t
    else s1.faultQueue pkg q Cause.engineDesc

/-! ### Fetching (R103, R109) -/

/-- R109: the launches of a queue that are in flight, oldest first. -/
def State.inFlight (s : State) (pkg n : Nat) : List Launch := s.launches.filter (fun l => l.pkg == pkg && l.queue == n)

/-- R109: the launches in flight that a resident queue tracks. -/
def flightRoom : Nat := 8

/-- R103: whether a record breaks a rule that ends it at once. -/
def recordBad (r : List Byte) : Bool :=
  !(blkU r 0 1 == 1 || blkU r 0 1 == 2) || decide (2 ≤ blkU r 1 1) || !blkZero r 2 6 || !blkZero r 0x50 176 ||
  (List.range 4).any (fun k => blkU r (0x18 + 4 * k) 4 == 0)

/-- R103: a fetched record. -/
def newLaunch (id pkg : Nat) (q : Queue) (r : List Byte) : Launch :=
  { id := id, pkg := pkg, queue := q.num, rec_ := q.head, marker := blkU r 0 1 == 2, serial := (r.getD 1 0).getLsbD 0,
    vf := q.vf, prio := q.prio, age := id, prev := q.last, hdr := blkA r 8, arg := blkA r 0x10,
    shape := Vector.ofFn (fun i : Fin 4 => BitVec.ofNat 32 (blkU r (0x18 + 4 * i.val) 4)),
    depAddr := blkA r 0x28, depVal := blkA r 0x30, doneAddr := blkA r 0x38, doneVal := blkA r 0x40,
    errAddr := blkA r 0x48, phase := if recordBad r then .ending else .waiting, err := recordBad r,
    cause := if recordBad r then BitVec.ofNat 8 Cause.engineDesc else 0, term := 0, fmt0 := 0, code := 0, trapvec := 0,
    divmax := 0, widths := [], crewN := 0, gangN := 0, stages := [], chans := [], sendSeq := 0,
    mark := 0, codePages := [], wroteErr := false, wait := none, records := [] }

/-- R162, R189, R293: what the package's own writes to a queue's tail line and pending word wait for. -/
def State.queueHeld (s : State) (pkg : Nat) (q : Queue) : Option Stall :=
  let w := s.whoVf pkg q.vf
  [s.checkAddr w Kind.store (q.tline + 8) 8, s.checkAddr w Kind.store q.pword 4].findSome? (fun c =>
    match c with
    | .wait st => some st
    | _ => none)

/-- A queue's writes made, or the queue waits for what holds them. -/
def State.whenFree (s : State) (pkg : Nat) (q : Queue) (go : State → State) : State :=
  match s.queueHeld pkg q with
  | some st => s.modQueue pkg q.num (fun q => { q with wait := some st })
  | none => go s

/-- R101, R109: HEAD written to the tail line; a write that cannot be made is dropped. -/
def State.writeHead (s : State) (pkg : Nat) (q : Queue) (h : Nat) : State :=
  match s.checkAddr (s.whoVf pkg q.vf) Kind.store (q.tline + 8) 8 with
  | .ok t => (s.walkSent (s.whoVf pkg q.vf) (q.tline + 8)).writeT (s.whoVf pkg q.vf) t (toLE 8 h) false
  | _ => s

/-- R109: the next record fetched. The launch that SERIAL waits for is the last one fetched before that is no marker, one that
ends at once with ENGINE_DESC included (DEDUCED, notes/assumptions/94.md). -/
def State.fetchRecord (s : State) (pkg : Nat) (q : Queue) : State :=
  let slot := q.ring + toDW (q.head % 2 ^ q.log2n * 256)
  let sent := s.readSent (s.whoVf pkg q.vf) Kind.load slot 256
  match s.rdVf (s.whoVf pkg q.vf) q.wait slot 256 with
  | .bad cause => sent.faultQueue pkg q cause
  | .wait s1 st => s1.modQueue pkg q.num (fun q => { q with wait := some st })
  | .ok r => sent.whenFree pkg q (fun s =>
    let f := s.fresh
    let s1 := (f.2.writeHead pkg q (q.head + 1)).setPendingBit pkg q false
    let full := (s.inFlight pkg q.num).length + 1 = flightRoom
    let l := newLaunch f.1 pkg q r
    let s2 := s1.modQueue pkg q.num (fun q =>
      { q with head := q.head + 1, wait := none, emptySince := s.aclk, last := if l.marker then q.last else some l.id,
               gate := if full then ((s.inFlight pkg q.num).head?).map (fun x => x.id) else none })
    { s2 with launches := s2.launches ++ [l] })

/-- R109: whether the launch that a full slot's next fetch waits for has completed. -/
def State.gateOpen (s : State) (q : Queue) : Bool :=
  match q.gate with
  | some i => !(s.launches.any (fun l => l.id == i))
  | none => true

/-! ### Residency (R107, R108) -/

/-- R28: aclk of 1 ms, 10 µs and 100 µs. -/
def sweepTime : Nat := 1300000
def scanTime : Nat := 13000
def emptyTime : Nat := 130000

/-- R107: queues of a VF that hold a hardware slot. -/
def Pkg.holding (p : Pkg) (vf : Nat) : List Queue :=
  p.queues.filter (fun q => q.vf == vf && (q.st == .resident || q.st == .evicting))

/-- R107: free slots of a VF's share; none where a write of QSLOTS has brought the share below the queues that are resident, which
stay so (DESIGN CHOICE, notes/assumptions/103.md). -/
def Pkg.spareSlots (p : Pkg) (vf : Nat) : Nat := (p.vf vf).cfg.qslots.toNat - (p.holding vf).length

/-- R107: the time at which a queue's pending bit was set, where it is set; else now, the time of the sweep that finds it or
of the eviction that makes it PENDING (DESIGN CHOICE, notes/assumptions/28.md). -/
def State.bitTime (s : State) (pkg : Nat) (q : Queue) : Nat := if s.pendingBit pkg q then q.bitAt.getD s.aclk else s.aclk

/-- R107: since when a PENDING queue waits for a slot: since its pending bit was set, be that after the sweep had found it;
without a set bit, since the sweep (DESIGN CHOICE, notes/assumptions/28.md). -/
def Queue.since (q : Queue) : Nat := q.bitAt.getD q.pendAt

/-- R107: the order in which PENDING queues are given slots. The spec does not order two of one PRIO and one time: the lowest
number first (DESIGN CHOICE, notes/assumptions/28.md). -/
def Queue.sooner (x y : Queue) : Bool :=
  decide (y.prio < x.prio) || (x.prio == y.prio && (decide (x.since < y.since) ||
    (x.since == y.since && decide (x.num < y.num))))

/-- The first of a list under an order. -/
def firstBy {α : Type} (lt : α → α → Bool) (l : List α) : Option α :=
  l.foldl (fun best x =>
    match best with
    | none => some x
    | some y => if lt x y then some x else some y) none

/-- R107: the PENDING queue of a VF that is next. -/
def Pkg.nextPending (p : Pkg) (vf : Nat) : Option Queue :=
  firstBy Queue.sooner (p.queues.filter (fun q => q.vf == vf && q.st == .pending && !q.destroying))

/-- R107: the IDLE queue of a VF that takes a slot no PENDING queue claims. -/
def Pkg.nextIdle (p : Pkg) (vf : Nat) : Option Queue :=
  firstBy (fun x y => decide (x.num < y.num)) (p.queues.filter (fun q => q.vf == vf && q.st == .idle && q.stb == 1 && !q.destroying))

/-- R107: the resident queue that a PENDING queue of higher PRIO of its VF displaces: it fetches no further record. Of
several the one of lowest PRIO, and of these the highest-numbered (DESIGN CHOICE, notes/assumptions/77.md). -/
def Pkg.victim (p : Pkg) (vf : Nat) : Option Queue :=
  match p.nextPending vf with
  | none => none
  | some w =>
    let lower (x y : Queue) : Bool := decide (x.prio < y.prio) || (x.prio == y.prio && decide (y.num < x.num))
    if p.spareSlots vf = 0 && !((p.holding vf).any (fun q => q.st == .evicting)) then
      firstBy lower ((p.holding vf).filter (fun q => q.st == .resident && decide (q.prio < w.prio)))
    else none

/-- R107, R109: whether a queue's slot may fetch now, as far as its own state says. -/
def State.mayFetch (s : State) (pkg : Nat) (q : Queue) : Bool :=
  q.st == .resident && !q.destroying && s.waitOver pkg q.wait && s.gateOpen q &&
  decide ((s.inFlight pkg q.num).length < flightRoom) &&
  (match s.pkg? pkg with
   | some p => (p.victim q.vf).all (fun v => v.num != q.num)
   | none => false)

/-- R107, R109: RECORD_FETCH. -/
def execRecordFetch (pkg n : Nat) (s : State) : Host.Outcome State Fault Refusal :=
  .next (
    match s.queue? pkg n with
    | none => s
    | some q =>
      if s.mayFetch pkg q then s.withTail pkg q (fun s1 t => if t = q.head then s1 else s1.fetchRecord pkg q)
      else s)

/-- R107, R108: a queue becomes resident. -/
def State.grantSlot (s : State) (pkg n : Nat) : State :=
  s.modQueue pkg n (fun q => { q with st := .resident, emptySince := s.aclk })

/-- R287: whether a request for this function and number is open. -/
def Pkg.haOpen (p : Pkg) (func ref_ : Nat) : Bool := p.haReqs.any (fun r => r.func == func && r.ref_ == ref_)

/-- R107, R108: the residency table moves a queue: a resident one, while a queue of its VF is pending and no slot is free, is
evicted; a PENDING one, or an IDLE one where none is pending, is given a free slot. -/
def State.moveResident (s : State) (pkg n : Nat) : State :=
  match s.pkg? pkg, s.queue? pkg n with
  | some p, some q =>
    let waits := (p.nextPending q.vf).isSome
    match q.st with
    | .resident => if waits && p.spareSlots q.vf == 0 then s.modQueue pkg n (fun q => { q with st := .evicting }) else s
    | .pending => if p.spareSlots q.vf == 0 then s else s.grantSlot pkg n
    | .idle => if waits || p.spareSlots q.vf == 0 then s else s.grantSlot pkg n
    | _ => s
  | _, _ => s

/-- R107, R286, R288: a queue becomes resident or is evicted, by the MP or through the host. -/
def State.askResident (s : State) (pkg : Nat) (q : Queue) : State :=
  match s.pkg? pkg with
  | none => s
  | some p =>
    if p.haOpen 1 q.num then s
    else if !p.mp.res then s.moveResident pkg q.num
    else s.raiseHa pkg 1 (haVf q.vf) q.tline (toDW (q.num + 65536 * q.prio)) q.num

/-- R107: the queue of a VF that a free slot of its share goes to: the first PENDING one, else an IDLE one. -/
def Pkg.nextResident (p : Pkg) (vf : Nat) : Option Queue :=
  if p.spareSlots vf = 0 then none else (p.nextPending vf).or (p.nextIdle vf)

/-- R107: the free slots of a VF's share given out. -/
def State.grantVf (s : State) (pkg vf : Nat) : State :=
  (List.range 48).foldl (fun s _ =>
    match (s.pkg? pkg).bind (fun p => p.nextResident vf) with
    | some q => s.askResident pkg q
    | none => s) s

/-- R107: the displaced queue of a VF whose fetched records have all dispatched. A marker dispatches nothing, and holds the eviction
until it completes (DESIGN CHOICE, notes/assumptions/120.md). -/
def State.evictable (s : State) (pkg vf : Nat) : Option Queue :=
  ((s.pkg? pkg).bind (fun p => p.victim vf)).filter (fun q =>
    !((s.inFlight pkg q.num).any (fun l => l.phase == .waiting)))

/-- R107: a resident queue whose place a PENDING queue of higher PRIO of its VF takes, once its records are dispatched. -/
def State.evictFor (s : State) (pkg vf : Nat) : State :=
  match s.evictable pkg vf with
  | some q => s.askResident pkg q
  | none => s

/-- R107, R108: RESIDENCY_SCAN: pending bits are noted, slots given out, and lower priorities evicted. -/
def execResidencyScan (pkg : Nat) (s : State) : Host.Outcome State Fault Refusal :=
  .next (
    match s.pkg? pkg with
    | none => s
    | some p =>
      let idle := p.queues.filter (fun q => q.st == .idle && q.stb == 1)
      let s1 := idle.foldl (fun s q =>
        let s1 := s.pendingSent pkg q
        if s.pendingBit pkg q then s1.modQueue pkg q.num (fun x => { x with st := .pending, pendAt := s.bitTime pkg q }) else s1) s
      (List.range 128).foldl (fun s vf => (s.grantVf pkg vf).evictFor pkg vf) s1)

/-- R102, R108: QUEUE_SWEEP: the tail of every enabled queue is read; an IDLE queue whose TAIL differs from HEAD becomes
PENDING. -/
def execQueueSweep (pkg : Nat) (s : State) : Host.Outcome State Fault Refusal :=
  .next (
    match s.pkg? pkg with
    | none => s
    | some p =>
      (p.queues.filter (fun q => q.stb == 1 && !q.destroying && s.waitOver pkg q.wait)).foldl (fun s q =>
        s.withTail pkg q (fun s1 t =>
          if t = q.head || q.st != .idle then s1
          else s1.modQueue pkg q.num (fun x => { x with st := .pending, pendAt := s.bitTime pkg q }))) s)

/-- R107: QUEUE_EMPTY_TIMEOUT. -/
def execQueueEmptyTimeout (pkg n : Nat) (s : State) : Host.Outcome State Fault Refusal :=
  .next (
    match s.pkg? pkg, s.queue? pkg n with
    | some p, some q =>
      if q.st == .resident && decide (q.emptySince + emptyTime ≤ s.aclk) && (p.nextPending q.vf).isSome &&
          p.spareSlots q.vf == 0 && s.waitOver pkg q.wait then
        s.withTail pkg q (fun s1 t => if t = q.head then s1.askResident pkg q else s1)
      else s
    | _, _ => s)

/-- R108: EVICTION_COMPLETE: the monitor is released and TAIL read again. -/
def execEvictionComplete (pkg n : Nat) (s : State) : Host.Outcome State Fault Refusal :=
  .next (
    match s.queue? pkg n with
    | none => s
    | some q =>
      if q.st == .evicting && s.waitOver pkg q.wait then
        s.withTail pkg q (fun s1 t =>
          if t = q.head then s1.modQueue pkg n (fun q => { q with st := .idle })
          else s1.whenFree pkg q (fun s1 =>
            (s1.modQueue pkg n (fun x => { x with
              st := .pending, pendAt := s.bitTime pkg q, bitAt := some (s.bitTime pkg q) })).setPendingBit pkg q true))
      else s)

/-- R284, R108: a destroyed queue whose launches have completed is disabled. -/
def State.queueGone (s : State) (pkg n : Nat) : State :=
  match s.queue? pkg n with
  | some q =>
    if q.destroying && (s.inFlight pkg n).isEmpty then
      s.modQueue pkg n (fun q => { q with st := .disabled, stb := 0, destroying := false, wait := none })
    else s
  | none => s

end Sys2Proof.Machine
end

