-- ==== Sys2Proof/Machine/Launches.lean ====
section
/-!
DEFINITION. Sys2Proof/Machine/Launches.lean: launch headers and their tables (R327 to R329), the placement and the start of
gangs (R58, R59, R62, R63, R66, R91, R96 to R98, R104, R105, R110 to R112, R138, R139), and completion (R103, R106).
-/
namespace Sys2Proof.Machine

/-! ### The header (R62, R327, R329) -/

/-- R62: the field widths of a header. -/
def hdrWidths (h : List Byte) : List Nat := (List.range 6).map (fun i => blkU h (0x20 + i) 1)

/-- R62: the limits of the widths, and the crew and gang counts they give. -/
def widthsOk (h : List Byte) : Bool :=
  let w := hdrWidths h
  let w0 := w.getD 0 0
  let w1 := w.getD 1 0
  decide (5 ≤ w0) && decide (w0 ≤ 10) && decide (w1 ≤ 3) && w.all (fun x => x ≤ 32) &&
  decide (w.foldl (· + ·) 0 ≤ 64) && blkU h 0x26 1 == 2 ^ (w0 - 5) && blkU h 0x27 1 == 2 ^ w1

/-- R328: a stage entry's own limits. -/
def stageOk (e : List Byte) : Bool :=
  let regs := blkU e 0 1
  let nb := blkU e 1 1
  decide (8 ≤ regs) && decide (regs ≤ 128) && regs % 8 == 0 && decide (1 ≤ nb) && decide (nb ≤ 16) && blkZero e 2 2 &&
  decide (blkU e 4 4 ≤ 458752) && blkZero e 16 8 && blkU e 8 8 % 8 == 0

/-- The 24 bytes of stage entry `i`. -/
def stageEntry (h : List Byte) (i : Nat) : List Byte := (h.drop (0x40 + 24 * i)).take 24

/-- R329: the checks of the header alone. -/
def headerOk (h : List Byte) : Bool :=
  let n := blkU h 1 1
  let nch := blkU h 2 1
  blkU h 0 1 == 1 && decide (1 ≤ n) && decide (n ≤ 8) && decide (nch ≤ 64) && blkZero h 3 1 &&
  decide (blkU h 4 4 < 4096) && fmtOk (BitVec.ofNat 32 (blkU h 4 4)) && blkU h 8 8 % 256 == 0 &&
  decide (vaClass (blkA h 8) ≤ 1) && blkU h 0x10 8 % 8 == 0 && (nch != 0 || blkZero h 0x10 8) &&
  blkU h 0x18 4 % 4 == 0 && decide (blkU h 0x1C 2 ≤ 1024) && blkZero h 0x1E 2 && widthsOk h && blkZero h 0x28 24 &&
  (List.range 8).all (fun i => if i < n then stageOk (stageEntry h i) else blkZero (stageEntry h i) 0 24)

/-- R328: a channel entry that is well formed. -/
def chanOk (n : Nat) (e : List Byte) : Bool :=
  decide (blkU e 0 1 < n) && decide (blkU e 1 1 < n) && decide (1 ≤ blkU e 2 1) && decide (blkU e 2 1 ≤ 64) &&
  blkZero e 3 1 && decide (16 ≤ blkU e 4 2) && decide (blkU e 4 2 ≤ 4096) && blkU e 4 2 % 16 == 0 && blkZero e 6 2

def chanOf (e : List Byte) : Chan := { src := blkU e 0 1, dst := blkU e 1 1, slots := blkU e 2 1, size := blkU e 4 2 }

/-- R328: the range of a shape value in a bucket entry. -/
def bktLo (e : List Byte) (k : Nat) : Nat := blkU e (8 + 8 * k) 4
def bktHi (e : List Byte) (k : Nat) : Nat := blkU e (12 + 8 * k) 4

/-- R328, R329: a bucket entry that is well formed. -/
def bktOk (e : List Byte) : Bool :=
  blkU e 0 4 % 4 == 0 && blkZero e 4 4 && (List.range 4).all (fun k => decide (1 ≤ bktLo e k) && decide (bktLo e k ≤ bktHi e k))

/-- R96: whether a bucket's ranges contain the shape. -/
def bktHolds (e : List Byte) (sh : Nat → Nat) : Bool :=
  (List.range 4).all (fun k => decide (bktLo e k ≤ sh k) && decide (sh k ≤ bktHi e k))

/-- R139: scratchpad bytes rounded up to 16. -/
def round16 (n : Nat) : Nat := (n + 15) / 16 * 16

/-- R139: the bytes of a crew's allocation. -/
def allocOf (scratch : Nat) (chans : List Chan) (stage : Nat) : Nat :=
  (chans.filter (fun c => c.dst == stage)).foldl (fun n c => n + c.slots * c.size) (round16 scratch)

/-- R96 to R98: the stage that an entry and its matched bucket give; none where a limit of R59, R91, R96 or R97 breaks. The
extents that R97 limits are those of the matched bucket alone (DESIGN CHOICE, notes/assumptions/119.md). -/
def stageOf (e t : List Byte) (w : List Nat) (chans : List Chan) (sh : Nat → Nat) (i : Nat) : Option Stage :=
  let nb := blkU e 1 1
  let ent (b : Nat) : List Byte := (t.drop (40 * b)).take 40
  if !(List.range nb).all (fun b => bktOk (ent b)) then none
  else
    match (List.range nb).find? (fun b => bktHolds (ent b) sh) with
    | none => none
    | some b =>
      let we0 := 2 ^ w.getD 0 0
      let we1 := 2 ^ w.getD 1 0
      let we := [we0, we1, ceilDiv (bktHi (ent b) 0) (we0 * we1), bktHi (ent b) 1, bktHi (ent b) 2, bktHi (ent b) 3]
      let regs := blkU e 0 1
      if [2, 3, 4, 5].any (fun k => decide (2 ^ w.getD k 0 < we.getD k 0)) then none
      else if 458752 < allocOf (blkU e 4 4) chans i || 524288 < we0 / 32 * regs * 128 then none
      else
        let ext := [ceilDiv (sh 0) (we0 * we1), sh 1, sh 2, sh 3]
        some { regs := regs, scratch := blkU e 4 4, bucket := b, entry := BitVec.ofNat 32 (blkU (ent b) 0 4), we := we,
               ext := ext, next := 0, total := ext.foldl (· * ·) 1, mood := .neither, moodAt := 0 }

/-- R329: a launch as its checked header makes it. -/
def Launch.withHeader (l : Launch) (h : List Byte) (chans : List Chan) (stages : List Stage) : Launch :=
  { l with fmt0 := BitVec.ofNat 32 (blkU h 4 4), code := blkA h 8, trapvec := BitVec.ofNat 32 (blkU h 0x18 4),
           divmax := if blkU h 0x1C 2 = 0 then 64 else blkU h 0x1C 2, widths := hdrWidths h, crewN := blkU h 0x26 1,
           gangN := blkU h 0x27 1, stages := stages, chans := chans, wait := none }

/-- R328: the bucket tables read and the stages formed, from stage `i` on. -/
def State.readStages (s : State) (w : Who) (l : Launch) (h : List Byte) (chans : List Chan) :
    Nat → Nat → Got (List Stage)
  | 0, _ => .ok []
  | n + 1, i =>
    let e := stageEntry h i
    match s.rdVf w l.wait (blkA e 8) (40 * blkU e 1 1) with
    | .bad c => .bad c
    | .wait s1 st => .wait s1 st
    | .ok t =>
      match stageOf e t (hdrWidths h) chans (fun k => (l.shape[k]?.getD 0).toNat) i with
      | none => .bad Cause.engineDesc
      | some st =>
        match State.readStages s w l h chans n (i + 1) with
        | .ok r => .ok (st :: r)
        | r => r

/-- R329: whether the code base can be read. -/
def State.codeReadable (s : State) (w : Who) (l : Launch) (va : DW) : Got Unit :=
  let accs := s.engAccs w l.wait Kind.load va 4
  match s.engBlocked w 0 accs with
  | some (.stop _ c _) => .bad c
  | some (.wait s1 st _) => .wait s1 st
  | some (.ok _ _ _) => .bad Cause.access
  | none => .ok ()

/-- R327 to R329: the header of a launch and its tables, read once. -/
def State.readHeader (s : State) (l : Launch) : Got Launch :=
  let w := s.whoVf l.pkg l.vf
  match s.rdVf w l.wait l.hdr 256 with
  | .bad c => .bad c
  | .wait s1 st => .wait s1 st
  | .ok h =>
    if !headerOk h then .bad Cause.engineDesc
    else
      match s.codeReadable w l (blkA h 8) with
      | .bad c => .bad c
      | .wait s1 st => .wait s1 st
      | .ok _ =>
        let nch := blkU h 2 1
        match (if nch = 0 then Got.ok [] else s.rdVf w l.wait (blkA h 0x10) (8 * nch)) with
        | .bad c => .bad c
        | .wait s1 st => .wait s1 st
        | .ok t =>
          let ents := (List.range nch).map (fun i => (t.drop (8 * i)).take 8)
          if !ents.all (chanOk (blkU h 1 1)) then .bad Cause.engineDesc
          else
            match s.readStages w l h (ents.map chanOf) (blkU h 1 1) 0 with
            | .bad c => .bad c
            | .wait s1 st => .wait s1 st
            | .ok stages => .ok (l.withHeader h (ents.map chanOf) stages)

/-- R289: what the reading of a launch's header and of its tables sends. -/
def State.headerSent (s : State) (l : Launch) : State :=
  let w := s.whoVf l.pkg l.vf
  let s1 := s.readSent w Kind.load l.hdr 256
  match s.rdVf w none l.hdr 256 with
  | .ok h =>
    let tables := (blkA h 0x10, 8 * blkU h 2 1) ::
      (List.range (blkU h 1 1)).map (fun i => (blkA (stageEntry h i) 8, 40 * blkU (stageEntry h i) 1 1))
    if headerOk h then ((blkA h 8, 4) :: tables.filter (fun x => x.2 != 0)).foldl (fun s x => s.readSent w Kind.load x.1 x.2) s1
    else s1
  | _ => s1

/-! ### Placement (R58, R59, R110, R112, R138) -/

/-- What a core still has for a VF, the scratchpad that its crews use, and whether this aclk still fixes its split. -/
structure CoreRoom where
  core : Nat
  regs : Nat
  slots : Nat
  pad : Nat
  used : Nat
  splits : Bool
deriving DecidableEq, Repr

/-- R12, R13, R59, R112, R138: the room of a core for the crews of a VF. A crew holds its scratchpad to the end of its last
group, and its registers and slots to the end of its gang's last crew (DEDUCED, notes/assumptions/95.md). -/
def State.coreRoom (s : State) (pkg vf core : Nat) : CoreRoom :=
  let crews := s.crews.filter (fun c => c.pkg == pkg && c.vf == vf && c.core == core && s.gangLives c.gang)
  let sum (f : Crew → Nat) : Nat := crews.foldl (fun n c => n + f c) 0
  let fixed := ((s.pkg? pkg).bind (fun p => p.split.find? (fun x => x.core == core && x.vf == vf))).filter
    (fun x => x.at_ != s.aclk)
  let used := sum Crew.room
  { core := core, regs := 524288 - sum (fun c => c.ngroups * c.regs * 128), slots := 64 - sum (fun c => c.ngroups),
    pad := (fixed.map (fun x => x.size)).getD 458752 - used, used := used, splits := fixed.isNone }

/-- An empty core. -/
def CoreRoom.empty (core : Nat) : CoreRoom :=
  { core := core, regs := 524288, slots := 64, pad := 458752, used := 0, splits := true }

/-- R138: the room once this aclk has fixed the split. -/
def CoreRoom.settled (r : CoreRoom) : CoreRoom :=
  if r.splits && decide (r.slots < 64) then { r with pad := ceilDiv r.used 65536 * 65536 - r.used } else r

/-- What a crew of a stage takes of its core. -/
def Launch.needs (l : Launch) (i : Nat) (st : Stage) : CoreRoom :=
  { CoreRoom.empty 0 with regs := l.crewN * st.regs * 128, slots := l.crewN, pad := allocOf st.scratch l.chans i }

def CoreRoom.fits (r n : CoreRoom) : Bool := decide (n.regs ≤ r.regs) && decide (n.slots ≤ r.slots) && decide (n.pad ≤ r.pad)

def CoreRoom.less (r n : CoreRoom) : CoreRoom :=
  { r with regs := r.regs - n.regs, slots := r.slots - n.slots, pad := r.pad - n.pad, used := r.used + n.pad }

/-- What is left when the cores of a list have given what a crew takes. -/
def lessOn (rooms : List CoreRoom) (pick : List Nat) (need : CoreRoom) : List CoreRoom :=
  rooms.map (fun r => if pick.contains r.core then r.less need else r)

/-- R110: `n` cores that fit, taken from a list in its order, for which the rest of a placement can be made. -/
def chooseCores {α : Type} (need : CoreRoom) (k : List Nat → Option α) : Nat → List CoreRoom → List Nat → Option α
  | 0, _, got => k got.reverse
  | _ + 1, [], _ => none
  | n + 1, r :: rs, got =>
    if r.fits need then
      match chooseCores need k n rs (r.core :: got) with
      | some x => some x
      | none => chooseCores need k (n + 1) rs got
    else chooseCores need k (n + 1) rs got

/-- R58, R110: the cores for one gang of `n` crews: the first that fit, quadrant by quadrant and core by core, for which the rest
of a placement can be made (DESIGN CHOICE, notes/assumptions/25.md). -/
def placeGang {α : Type} (rooms : List CoreRoom) (need : CoreRoom) (n : Nat) (k : List Nat → Option α) : Option α :=
  (List.range 8).findSome? (fun q => chooseCores need k n (rooms.filter (fun r => r.core / 32 == q)) [])

/-- R110: one gang of every stage, from stage `i` on: the first placement that holds them all and leaves what `ok` asks for. -/
def placeAll (ok : List CoreRoom → Bool) (l : Launch) : List Stage → Nat → List CoreRoom → Option (List (List Nat))
  | [], _, rooms => if ok rooms then some [] else none
  | st :: rest, i, rooms =>
    placeGang rooms (l.needs i st) l.gangN (fun pick =>
      (placeAll ok l rest (i + 1) (lessOn rooms pick (l.needs i st))).map (fun y => pick :: y))

/-- The physical cores of a VF's partition. -/
def State.vfCores (s : State) (pkg vf : Nat) : List Nat :=
  match s.pkg? pkg with
  | some p => (p.clusters (p.vf vf).partNum).flatMap (fun k => [4 * k, 4 * k + 1, 4 * k + 2, 4 * k + 3])
  | none => []

/-- The cores with their room. -/
def State.rooms (s : State) (l : Launch) : List CoreRoom := (s.vfCores l.pkg l.vf).map (s.coreRoom l.pkg l.vf)

/-! ### Stage floors (R110) -/

/-- R110: the gangs of a stage that have not ended. -/
def State.residentGangs (s : State) (l : Launch) (i : Nat) : List Nat :=
  ((s.crews.filter (fun c => c.launch == l.id && c.stage == i && !c.allEnded)).map (fun c => c.gang)).eraseDups

/-- R59, R110: the rooms without what the ended crews of a gang have released, where that is still there. -/
def State.withGang (s : State) (gang pad : Nat) (rooms : List CoreRoom) : Option (List CoreRoom) :=
  let gone := (s.crews.filter (fun c => c.gang == gang && c.allEnded)).map (fun c => c.core)
  let need : CoreRoom := { CoreRoom.empty 0 with regs := 0, slots := 0, pad := pad }
  if rooms.all (fun r => !gone.contains r.core || r.fits need) then some (lessOn rooms gone need) else none

/-- R110: whether the rooms hold the floors of these stages at once: the next gang of each can be placed, where one of its
resident gangs ends or somewhere else. -/
def State.floorsHold (s : State) : List (Launch × Nat × Stage) → List CoreRoom → Bool
  | [], _ => true
  | (l, i, st) :: rest, rooms =>
    let need := l.needs i st
    (s.residentGangs l i).any (fun g =>
      match s.withGang g need.pad rooms with
      | some r => s.floorsHold rest r
      | none => false) ||
    (placeGang rooms need l.gangN (fun pick => if s.floorsHold rest (lessOn rooms pick need) then some () else none)).isSome

/-- R110: the stages, other than stage `i` of a launch, of a VF's running launches that have gangs left to start. -/
def State.floors (s : State) (l : Launch) (i : Option Nat) : List (Launch × Nat × Stage) :=
  let ls := s.launches.filter (fun m => m.pkg == l.pkg && m.vf == l.vf && m.phase == .running)
  ls.flatMap (fun m => (((List.range m.stages.length).zip m.stages).filter (fun x =>
    decide (x.2.next < x.2.total) && !(m.id == l.id && some x.1 == i))).map (fun x => (m, x)))

/-- R110: whether a placement for a launch leaves the floors of the other stages, so far as they can be held at all. -/
def State.leavesFloors (s : State) (l : Launch) (i : Option Nat) (after : List CoreRoom) : Bool :=
  let fl := s.floors l i
  s.floorsHold fl (after.map CoreRoom.settled) || !s.floorsHold fl ((s.rooms l).map CoreRoom.settled)

/-- R110: the cores on which a launch starts one gang of every stage. -/
def State.startsOn (s : State) (l : Launch) : Option (List (List Nat)) :=
  placeAll (s.leavesFloors l none) l l.stages 0 (s.rooms l)

/-! ### Starting a gang -/

/-- R97, R104: the coordinates of gang `n` of a stage in fields 2 to 5. -/
def Stage.coords (st : Stage) (n : Nat) : List Nat :=
  let e (i : Nat) : Nat := st.ext.getD i 1
  [n % e 0, n / e 0 % e 1, n / (e 0 * e 1) % e 2, n / (e 0 * e 1 * e 2)]

/-- R98: the lanes of a group that start with p7 set. -/
def Launch.shapeMask (l : Launch) (st : Stage) (co : List Nat) (crew grp : Nat) : W :=
  let we0 := st.we.getD 0 1
  let we1 := st.we.getD 1 1
  let sh (i : Nat) : Nat := (l.shape[i]?.getD 0).toNat
  if decide (co.getD 1 0 < sh 1) && decide (co.getD 2 0 < sh 2) && decide (co.getD 3 0 < sh 3) then
    maskOf ((List.range 32).filter (fun i => decide (32 * grp + i + we0 * (crew + we1 * co.getD 0 0) < sh 0)))
  else 0

/-- R112: the scheduler of a core with the most free slots, the lowest-numbered on a tie. -/
def State.pickSched (s : State) (pkg vf core : Nat) : Nat :=
  let used (k : Nat) : Nat :=
    (s.agents.filter (fun a => !a.isCc && a.pkg == pkg && a.vf == vf && a.core == core && a.sched == k)).length
  (firstBy (fun x y => decide (used x < used y)) (List.range 4)).getD 0

/-- R66, R105: a group at its start. -/
def State.startGroup (s : State) (l : Launch) (i : Nat) (st : Stage) (co : List Nat) (k : Crew) (grp : Nat) : State :=
  let f := s.fresh
  let a : Agent :=
    { Agent.blank with
      id := f.1
      pkg := l.pkg
      vf := l.vf
      crew := k.id
      grp := grp
      launch := l.id
      stage := i
      core := k.core
      sched := s.pickSched l.pkg l.vf k.core
      prio := l.prio
      age := s.aclk
      prim := some (Side.at (BitVec.allOnes 32) (l.code + st.entry.setWidth 64) l.fmt0)
      s := (Agent.blank.setPair 0 l.arg).s
      p := Agent.blank.p.set 6 (l.shapeMask st co k.idx grp)
      nregs := st.regs
      divmax := l.divmax
      code := l.code
      trapvec := l.trapvec
      widths := l.widths
      wf := Vector.ofFn (fun j : Fin 6 =>
        BitVec.ofNat 32 (if j.val = 0 then 0 else if j.val = 1 then k.idx else co.getD (j.val - 2) 0))
      we := Vector.ofFn (fun j : Fin 6 => BitVec.ofNat 32 (st.we.getD j.val 1))
      shape := l.shape
      bucket := st.bucket }
  { f.2 with agents := f.2.agents ++ [a] }

/-- R91, R139: the rings of a crew, after its scratchpad, in channel order. -/
def ringsOf (l : Launch) (i scratch now : Nat) : List Ring :=
  (((List.range l.chans.length).zip l.chans).foldl (fun (acc : List Ring × Nat) x =>
    if x.2.dst = i then
      (acc.1 ++ [{ chan := x.1, base := acc.2, slots := List.replicate x.2.slots (.free now) }],
       acc.2 + x.2.slots * x.2.size)
    else acc) ([], round16 scratch)).1

/-- R138: the SRAM split of a core on which a crew has been placed; the L1 keeps what the rest holds. -/
def State.fixSplit (s : State) (pkg vf core : Nat) : State :=
  let used := (s.crews.filter (fun c => c.pkg == pkg && c.vf == vf && c.core == core)).foldl (fun n c => n + c.room) 0
  let mine (x : CoreSplit) : Bool := x.core == core && x.vf == vf
  let up (p : Pkg) : Pkg :=
    match p.split.find? mine with
    | some x =>
      if x.at_ = s.aclk then
        { p with split := p.split.map (fun y => if mine y then { y with size := ceilDiv used 65536 * 65536 } else y) }
      else p
    | none => { p with split := { core := core, vf := vf, size := ceilDiv used 65536 * 65536, at_ := s.aclk } :: p.split }
  let s1 := s.modPkg pkg up
  match s1.pkg? pkg with
  | some p => s1.l1Shrink pkg core (p.l1Lines core vf) (s1.l1Count pkg core)
  | none => s1

/-- R59, R139: a crew of a gang with its groups. -/
def State.startCrew (s : State) (l : Launch) (i : Nat) (st : Stage) (co : List Nat) (gang idx core : Nat) : State :=
  let f := s.fresh
  let k : Crew :=
    { id := f.1, pkg := l.pkg, vf := l.vf, launch := l.id, stage := i, gang := gang, idx := idx, gangSize := l.gangN,
      core := core, ngroups := l.crewN, regs := st.regs, size := allocOf st.scratch l.chans i, pad := [], full := [],
      poison := [], ready := 0, readyAt := [], seen := [], ended := 0, rings := ringsOf l i st.scratch s.aclk }
  let s1 := ({ f.2 with crews := f.2.crews ++ [k] }).fixSplit l.pkg l.vf core
  (List.range l.crewN).foldl (fun s g => s.startGroup l i st co k g) s1

/-- R104: the next gang of a stage started on these cores. -/
def State.startGang (s : State) (l : Launch) (i : Nat) (cores : List Nat) : State :=
  match l.stages[i]? with
  | none => s
  | some st =>
    let f := s.fresh
    let s1 := ((List.range cores.length).zip cores).foldl
      (fun s x => s.startCrew l i st (st.coords st.next) f.1 x.1 x.2) f.2
    let bump (l : Launch) : Launch := { l with stages := l.stages.modify i (fun st => { st with next := st.next + 1 }) }
    s1.modLaunch l.id bump

/-! ### Dispatch order (R104, R109 to R111) -/

/-- R110, R111: the stages that may be given a gang, the first to be served first. -/
def State.stageOrder (s : State) (l : Launch) : List Nat :=
  let idx := (List.range l.stages.length).zip l.stages
  let left := (idx.filter (fun x => decide (x.2.next < x.2.total)))
  let input (i : Nat) : Bool := l.chans.any (fun c => c.dst == i)
  match left.find? (fun x => (s.residentGangs l x.1).isEmpty) with
  | some x => [x.1]
  | none =>
    let hungry := left.filter (fun x => decide (x.2.mood = .hungry))
    let rest := left.filter (fun x => !decide (x.2.mood = .hungry))
    (hungry ++ rest.filter (fun x => !input x.1) ++
      rest.filter (fun x => input x.1 && !decide (x.2.mood = .sated))).map (fun x => x.1)

/-- R104, R111: the stage whose next gang a running launch starts now, with its cores. -/
def State.nextGang (s : State) (l : Launch) : Option (Nat × List Nat) :=
  (s.stageOrder l).findSome? (fun i =>
    (l.stages[i]?).bind (fun st => placeGang (s.rooms l) (l.needs i st) l.gangN (fun pick =>
      if s.leavesFloors l (some i) (lessOn (s.rooms l) pick (l.needs i st)) then some (i, pick) else none)))

/-- R103, R104: whether the earlier launches of its queue let a launch start gangs: all their gangs started, and with SERIAL
the previous one complete. -/
def State.turnOf (s : State) (l : Launch) : Bool :=
  (s.inFlight l.pkg l.queue).all (fun m => decide (l.id ≤ m.id) || m.marker ||
    ((m.phase == .ending || (m.phase == .running && m.stages.all (fun st => decide (st.total ≤ st.next)))) &&
      !(l.serial && l.prev == some m.id)))

/-- R103: whether the dependency word lets a launch be dispatched; a word that cannot be read ends the wait. -/
def State.depMet (s : State) (l : Launch) : Bool :=
  l.depAddr == 0 ||
  match s.rdVf (s.whoVf l.pkg l.vf) l.wait l.depAddr 8 with
  | .ok b => decide (l.depVal.toNat ≤ leNat b)
  | .bad _ => true
  | .wait _ _ => true

/-- R103, R104, R109: whether a launch has something to dispatch now. -/
def State.canDispatch (s : State) (l : Launch) : Bool :=
  !l.marker && s.vfLive l.pkg l.vf && s.waitOver l.pkg l.wait && s.turnOf l &&
  (match l.phase with
   | .waiting => s.depMet l && (l.stages.isEmpty || (s.startsOn l).isSome)
   | .running => (s.nextGang l).isSome
   | .ending => false)

/-- R110: whether a running launch has a stage with gangs left and none resident: its floor is served first. -/
def State.belowFloor (s : State) (l : Launch) : Bool :=
  l.phase == .running &&
  ((List.range l.stages.length).zip l.stages).any (fun x =>
    decide (x.2.next < x.2.total) && (s.residentGangs l x.1).isEmpty)

/-- R104: the order of dispatch among queues. -/
def Launch.sooner (x y : Launch) : Bool := decide (y.prio < x.prio) || (x.prio == y.prio && decide (x.age < y.age))

/-- R104, R110: the launch of a package that dispatches next. -/
def State.nextLaunch (s : State) (pkg : Nat) : Option Launch :=
  let ready := s.launches.filter (fun l => l.pkg == pkg && s.canDispatch l)
  match firstBy Launch.sooner (ready.filter s.belowFloor) with
  | some l => some l
  | none => firstBy Launch.sooner ready

/-- R59, R103: a launch that starts no group. -/
def State.failLaunch (s : State) (l : Launch) (cause : Nat) : State :=
  s.modLaunch l.id (fun l => { l with phase := .ending, err := true, cause := BitVec.ofNat 8 cause, wait := none, stages := [] })

/-- R104, R110: a launch whose header is read starts: one gang of every stage. -/
def State.startLaunch (s : State) (l : Launch) : State :=
  match s.startsOn l with
  | none => s
  | some ps =>
    let s1 := s.modLaunch l.id (fun l => { l with phase := .running, mark := s.wlog.length })
    ((List.range ps.length).zip ps).foldl (fun s x => s.startGang l x.1 x.2) s1

/-- R103, R110, R329: the header of a launch whose dependency is met is read, and the launch fails or is ready. -/
def State.openLaunch (s : State) (l : Launch) : State :=
  let w := s.whoVf l.pkg l.vf
  match (if l.depAddr = 0 then Got.ok [] else s.rdVf w l.wait l.depAddr 8) with
  | .bad _ => s.failLaunch l Cause.engineDesc
  | .wait s1 st => s1.modLaunch l.id (fun l => { l with wait := some st })
  | .ok _ =>
    let s1 := (if l.depAddr = 0 then s else s.readSent w Kind.load l.depAddr 8).headerSent l
    match s.readHeader l with
    | .bad _ => s1.failLaunch l Cause.engineDesc
    | .wait s2 st => s2.modLaunch l.id (fun l => { l with wait := some st })
    | .ok m =>
      if (placeAll (fun _ => true) m m.stages 0 ((s.vfCores l.pkg l.vf).map CoreRoom.empty)).isNone then s1.failLaunch l Cause.engineDesc
      else s1.modLaunch l.id (fun _ => m)

/-- R103, R104: GANG_DISPATCH: the launch whose turn it is reads its header, starts, or starts the next gang of a stage. -/
def execGangDispatch (launch stage : Nat) (s : State) : Host.Outcome State Fault Refusal :=
  .next (
    match s.launch? launch with
    | none => s
    | some l =>
      if (s.nextLaunch l.pkg).map (fun x => x.id) = some launch then
        match l.phase with
        | .waiting => if l.stages.isEmpty then s.openLaunch l else s.startLaunch l
        | .running =>
          match s.nextGang l with
          | some x => if x.1 = stage then s.startGang l x.1 x.2 else s
          | none => s
        | .ending => s
      else s)

/-! ### Completion (R103, R106) -/

/-- R106: the error status word. -/
def Launch.statusDW (l : Launch) : DW :=
  toDW (1 + (if l.err then 2 else 0) + 256 * l.cause.toNat + 65536 * l.term)

/-- R106: one completion write: made, dropped with a firmware event, or waiting. -/
def State.doneWrite (s : State) (l : Launch) (va val : DW) : Got State :=
  if va = 0 then .ok s
  else
    let w := s.whoVf l.pkg l.vf
    match s.settleWait w l.wait va (s.checkAddr w Kind.store va 8) with
    | .ok t => .ok (((s.walkSent w va).writeT w t (toLE 8 val.toNat) false).clearPoison [(t, 8)])
    | .bad cause _ => .ok (s.emit (.lostWrite l.pkg l.queue l.rec_ va cause))
    | .service lv =>
      let r := s.faultWait w va 1 lv
      .wait r.2 r.1
    | .wait st => .wait s st

/-- R106, R226, R306: the completed launch leaves, its replay records free. -/
def State.dropLaunch (s : State) (l : Launch) : State :=
  let s1 := l.records.foldl (fun s k => s.freeRecord l.pkg l.vf k) (s.spoilBy l)
  ({ s1 with launches := s1.launches.filter (fun x => x.id != l.id) }).queueGone l.pkg l.queue

/-- R106, R179: the release at tenant scope that the completion writes are: every dirty SOFT copy of the launch's VF in its
package goes home, or waits for a SNAP copy (R162). -/
def State.launchRelease (s : State) (l : Launch) : Got State :=
  match s.cleanWhere (fun k x => k == l.pkg && x.vf == l.vf) with
  | (some st, _) => .wait s st
  | (none, s1) => .ok s1

/-- R106: the release, then ERRADDR. -/
def State.errWrite (s : State) (l : Launch) : Got State :=
  if l.wroteErr then .ok s
  else
    match s.launchRelease l with
    | .ok s1 => s1.doneWrite l l.errAddr l.statusDW
    | r => r

/-- R106: ERRADDR, then DONEVAL, then the launch is complete. -/
def State.finishLaunch (s : State) (l : Launch) : State :=
  match s.errWrite l with
  | .wait s1 st => s1.modLaunch l.id (fun l => { l with phase := .ending, wait := some st })
  | .bad _ => s
  | .ok s1 =>
    match s1.doneWrite { l with wait := if l.wroteErr then l.wait else none } l.doneAddr l.doneVal with
    | .wait s2 st => s2.modLaunch l.id (fun l => { l with phase := .ending, wroteErr := true, wait := some st })
    | .bad _ => s1
    | .ok s2 => s2.dropLaunch l

/-- R106: whether every group of a running launch has ended and every engine operation they issued has completed. -/
def State.launchDone (s : State) (l : Launch) : Bool :=
  l.phase == .running && l.stages.all (fun st => decide (st.total ≤ st.next)) &&
  !(s.agents.any (fun a => !a.isCc && a.launch == l.id)) &&
  !(s.cmds.any (fun c => c.launch == l.id && c.vf == l.vf && c.phase != .dead)) &&
  !(s.mmas.any (fun m => m.launch == l.id))

/-- R106: whether a launch may make its completion writes now. -/
def State.mayFinish (s : State) (l : Launch) : Bool :=
  !l.marker && s.waitOver l.pkg l.wait && (l.phase == .ending || s.launchDone l)

/-- R106: LAUNCH_COMPLETE. -/
def execLaunchComplete (launch : Nat) (s : State) : Host.Outcome State Fault Refusal :=
  .next (
    match s.launch? launch with
    | some l => if s.mayFinish l then s.finishLaunch l else s
    | none => s)

/-- R103: whether a marker may complete: every earlier record of its queue has. -/
def State.markerDone (s : State) (l : Launch) : Bool :=
  l.marker && s.waitOver l.pkg l.wait && (l.err || (s.inFlight l.pkg l.queue).all (fun m => decide (l.id ≤ m.id)))

/-- R103, R106: MARKER_COMPLETE. -/
def execMarkerComplete (launch : Nat) (s : State) : Host.Outcome State Fault Refusal :=
  .next (
    match s.launch? launch with
    | some l => if s.markerDone l then s.finishLaunch l else s
    | none => s)

/-! ### Occupancy (R111) -/

/-- R111: aclk between two samples, and between two changes of a stage's mood. -/
def sampleTime : Nat := 1024
def moodTime : Nat := 8192

/-- R111: the full slots and the slots of a channel's rings. A slot that a receiver holds is not counted as full
(DEDUCED, notes/assumptions/73.md). -/
def State.occupancy (s : State) (l : Launch) (ch : Nat) : Nat × Nat :=
  let slots := (s.crews.filter (fun c => c.launch == l.id)).flatMap (fun c =>
    match c.ring? ch with
    | some r => r.slots
    | none => [])
  ((slots.filter Slot.isMsg).length, slots.length)

/-- R111: how a consumer stage stands. -/
def State.moodOf (s : State) (l : Launch) (i : Nat) : Mood :=
  let occ := ((List.range l.chans.length).filter (fun k =>
    match l.chans[k]? with
    | some c => c.dst == i
    | none => false)).map (s.occupancy l)
  if occ.isEmpty then .neither
  else if occ.any (fun x => decide (3 * x.2 < 4 * x.1)) then .hungry
  else if occ.all (fun x => decide (4 * x.1 < x.2)) then .sated
  else .neither

/-- R111: CHANNEL_OCCUPANCY_SAMPLE. -/
def execChannelOccupancySample (launch : Nat) (s : State) : Host.Outcome State Fault Refusal :=
  .next (
    match s.launch? launch with
    | none => s
    | some l =>
      let one (x : Nat × Stage) : Stage :=
        let m := s.moodOf l x.1
        if m = x.2.mood || (x.2.moodAt != 0 && decide (s.aclk < x.2.moodAt + moodTime)) then x.2 else { x.2 with mood := m, moodAt := s.aclk }
      let stages := ((List.range l.stages.length).zip l.stages).map one
      s.modLaunch launch (fun l => { l with stages := stages }))

end Sys2Proof.Machine
end

