-- ==== Sys2Proof/Machine/Bezel.lean ====
section
/-!
DEFINITION. Sys2Proof/Machine/Bezel.lean: the Bezel table and its frame registers (R114 to R117), slot edges and quiescence
(R118 to R123, R272, R273), and slack and banking (R120, R124 to R126).
-/
namespace Sys2Proof.Machine

/-! ### Entries and checks of a bank (R114, R117) -/

/-- R114: a bank of the table. -/
def Slt.bank (t : Slt) (one : Bool) : Vector (Vector Byte 64) 64 := if one then t.tbl1 else t.tbl0

/-- R114: the byte of a partition in an entry of the active bank. -/
def Slt.entry (t : Slt) (slot part : Nat) : Nat := ((tblRow (t.bank t.active) slot)[part]?.getD 0xFF).toNat

/-- R127: a share as it acts. -/
def shareOf (x : BitVec 8) : Nat := if x.toNat < 4 then 4 else x.toNat

/-- R117: whether a byte of an entry breaks a rule of its own. -/
def Pkg.badByte (p : Pkg) (part : Nat) (b : Byte) : Bool :=
  b != 0xFF && (decide (128 ≤ b.toNat) || !(p.vf b.toNat).enabled || (p.vf b.toNat).cfg.part.toNat != part ||
    !(p.setRow part).en)

/-- R117: the lowest byte of an entry at which a violation is found. -/
def Pkg.badPart (p : Pkg) (row : Vector Byte 64) : Option Nat :=
  (List.range 64).find? (fun i =>
    let b := row[i]?.getD 0xFF
    let seen := ((List.range (i + 1)).map (fun j => (row[j]?.getD 0xFF).toNat)).filter (fun v => decide (v < 128))
    let sum : Nat := ((seen.eraseDups).map (fun v => (p.vf v).cfg.linksh.toNat)).foldl (· + ·) 0
    p.badByte i b || (b != 0xFF && decide (256 < sum)))

/-- R117: the first violation of a bank: its entry and its byte. -/
def Pkg.badBank (p : Pkg) (t : Vector (Vector Byte 64) 64) : Option (Nat × Nat) :=
  (List.range 64).findSome? (fun k => (p.badPart (tblRow t k)).map (fun i => (k, i)))

/-! ### Frame registers (R115) -/

/-- R488: a refused field. -/
def Pkg.refuse (p : Pkg) : Pkg := { p with slt := { p.slt with cfgerr := true } }

/-- R115, R488: a write of SLT_FRAME. -/
def Pkg.writeSlotlen (p : Pkg) (v : W) : Pkg :=
  let n := (v.extractLsb' 0 24).toNat
  if 2032 ≤ n ∧ n ≤ 2031250 ∧ 2 * p.slt.pLead.toNat ≤ n then
    { p with slt := { p.slt with pSlotlen := v.extractLsb' 0 24 } }
  else p.refuse

/-- R115, R488: a write of SLT_LEAD. -/
def Pkg.writeLead (p : Pkg) (v : W) : Pkg :=
  let n := (v.extractLsb' 0 21).toNat
  if 2 * n ≤ p.slt.pSlotlen.toNat then { p with slt := { p.slt with pLead := v.extractLsb' 0 21 } } else p.refuse

/-- R115, R488: a write of SLT_DMAX. -/
def Pkg.writeDmax (p : Pkg) (v : W) : Pkg :=
  if 5200 ≤ (v.extractLsb' 0 21).toNat then { p with slt := { p.slt with pDmax := v.extractLsb' 0 21 } } else p.refuse

/-- R298, R299: what a package in recovery, or before step 6 of its bring-up, does not offer leaves it as it is (DESIGN CHOICE,
notes/assumptions/51.md). -/
def Pkg.ifOffers (p : Pkg) (f : Pkg → Pkg) : Pkg := if p.offers then f p else p

/-- R115, R298: SLT_FRAME_WRITE. -/
def execSltFrameWrite (pkg : Nat) (v : W) (s : State) : Host.Outcome State Fault Refusal :=
  .next (s.modPkg pkg (fun p => p.ifOffers (fun p => p.writeSlotlen v)))

/-- R115, R298: SLT_LEAD_WRITE. -/
def execSltLeadWrite (pkg : Nat) (v : W) (s : State) : Host.Outcome State Fault Refusal :=
  .next (s.modPkg pkg (fun p => p.ifOffers (fun p => p.writeLead v)))

/-- R115: SWAP, which reads 1 until the switch is done or refused. -/
def Pkg.requestSwap (p : Pkg) : Pkg := { p with slt := { p.slt with swap := true } }

/-- R115, R298: SLT_SWAP_REQUEST. -/
def execSltSwapRequest (pkg : Nat) (s : State) : Host.Outcome State Fault Refusal :=
  .next (s.modPkg pkg (fun p => p.ifOffers Pkg.requestSwap))

/-! ### Runnable VFs (R124, R125) -/

/-- R124: whether a VF has work in its partition that is not its groups: an engine command, an MMA among them (R176), or a
fetched record waiting to dispatch. -/
def State.hasWork (s : State) (pkg vf : Nat) : Bool :=
  s.cmds.any (fun c => c.pkg == pkg && c.vf == vf && (c.phase == .joining || c.phase == .queued || c.phase == .running ||
    c.phase == .suspended || (c.phase == .armed && (c.held || c.due)))) ||
  s.mmas.any (fun m => m.pkg == pkg && m.vf == vf) ||
  s.launches.any (fun l => l.pkg == pkg && l.vf == vf && !l.marker &&
    (l.phase == .waiting || (l.phase == .running && l.stages.any (fun st => decide (st.next < st.total)))))

/-- R124: whether a VF is runnable. -/
def State.runnable (s : State) (pkg vf : Nat) : Bool :=
  s.agents.any (fun a => !a.isCc && a.pkg == pkg && a.vf == vf) || s.hasWork pkg vf

/-- R116: the VFs of a partition. -/
def Pkg.partVfs (p : Pkg) (part : Nat) : List Nat :=
  (List.range 128).filter (fun v => (p.vf v).enabled && (p.vf v).partNum == part)

/-- R125: the VF that slack time goes to, with whether it draws down its bank; not `except`. -/
def State.slackVf (s : State) (p : Pkg) (part : Nat) (except : Option Nat) : Option (Nat × Bool) :=
  let run := (p.partVfs part).filter (fun v => some v != except && s.runnable p.num v)
  match run.find? (fun v => (p.vf v).banked != 0) with
  | some v => some (v, true)
  | none => run.head?.map (fun v => (v, false))

/-! ### Quiescence (R118, R272) -/

/-- R119: the engines keep serving the VF they passed to only while that VF is the one to come. -/
def Part.keepCe (q : Part) (incoming : Option Nat) : Option Nat := if q.ce = incoming then q.ce else none

/-- R272: a quiescence that gives the partition back to the same owner within its time, which goes on counting. -/
def Part.again (q : Part) : Bool := q.cause == .preempt || q.cause == .peer

/-- R118, R123, R272: a partition is to run `incoming` next; an edge that keeps the owner, also one to which a quiescence
gives the partition back, does nothing; another quiescence under way takes the new aim, and a restore that is to load nothing
becomes a save of nothing. -/
def Part.aim (q : Part) (incoming : Option Nat) (cause : PCause) (now : Nat) : Part :=
  match q.phase with
  | .idle =>
    match incoming with
    | some _ => { q with phase := .restore, incoming := incoming, cause := cause, edgeAt := now }
    | none => q
  | .run | .lead =>
    if q.owner = incoming then q
    else { q with phase := .drain, incoming := incoming, cause := cause, edgeAt := now, ce := none }
  | .drain | .save =>
    let other : Bool := q.again && q.incoming != incoming
    { q with incoming := incoming, cause := if other then cause else q.cause,
             edgeAt := if other then now else q.edgeAt, ce := q.keepCe incoming }
  | .restore =>
    match incoming with
    | some _ =>
      { q with incoming := incoming, cause := if q.cause = .preempt && q.incoming != incoming then cause else q.cause,
               ce := q.keepCe incoming }
    | none => { q with phase := .save, incoming := none, ce := none }

/-- R125, R272: whether the time in progress is slack time that this VF runs in, or is paused in. -/
def Part.spends (q : Part) (v : Nat) : Bool :=
  (q.owner == some v && (q.phase == .run || q.phase == .lead)) ||
  (q.incoming == some v && q.again && (q.phase == .drain || q.phase == .save || q.phase == .restore))

/-- R125: the bank of a VF that runs on slack is drawn down by the time it has run. -/
def Pkg.settleSlack (p : Pkg) (part now : Nat) : Pkg :=
  match (p.part part).slackOf with
  | some v =>
    if (p.part part).spends v then
      let used := now - (p.part part).runFrom
      (p.modVf v (fun x => { x with banked := x.banked - BitVec.ofNat 24 (if x.banked.toNat < used then x.banked.toNat else used) })).modPart
        part (fun q => { q with runFrom := now })
    else p
  | none => p

/-- The slot index of a package now. -/
def Slt.slotNow (t : Slt) (now : Nat) : Nat := if t.slotlen = 0 then 0 else (now - t.frameAt) / t.slotlen.toNat % 64

/-- R125: a partition goes to slack time. -/
def State.toSlack (s : State) (pkg part : Nat) (except : Option Nat) (cause : PCause) : State :=
  match s.pkg? pkg with
  | none => s
  | some p =>
    if p.moves part || (p.part part).held then s else
    let pick := s.slackVf p part except
    let stop := match pick with
      | some (v, true) => s.aclk + (p.vf v).banked.toNat
      | _ => 0
    let on := match pick with
      | some (v, true) => some v
      | _ => none
    s.modPart pkg part (fun q =>
      { (q.aim (pick.map (fun x => x.1)) cause s.aclk) with slackOf := on, slackEnd := stop, runFrom := s.aclk })

/-- R118: a partition goes to the VF that its slot names. -/
def State.toOwner (s : State) (pkg part v : Nat) (cause : PCause) : State :=
  match s.pkg? pkg with
  | none => s
  | some p =>
    if p.moves part || (p.part part).held then s else
    s.modPart pkg part (fun q => { (q.aim (some v) cause s.aclk) with slackOf := none, slackEnd := 0, startAt := 0 })

/-! ### Frames and edges -/

/-- R115 to R117, R120: what a frame start does to a package's registers. A requested switch is checked against the VF
configuration that this frame start brings into force (DESIGN CHOICE, notes/assumptions/76.md). -/
def Pkg.frame (p : Pkg) (now : Nat) : Pkg :=
  let up (v : Vf) : Vf := { v with cfg := v.pend, overruns := 0 }
  let p1 := { p with
    vfs := p.vfs.map up
    slt := { p.slt with slotlen := p.slt.pSlotlen, lead := p.slt.pLead, dmax := p.slt.pDmax, slot := 0, frameAt := now } }
  if !p1.slt.swap then p1
  else
    match p1.badBank (p1.slt.bank (!p1.slt.active)) with
    | none => { p1 with slt := { p1.slt with swap := false, active := !p1.slt.active } }
    | some (k, i) =>
      { p1 with slt := { p1.slt with swap := false, swaperr := true, errslot := BitVec.ofNat 6 k,
                                     errpart := BitVec.ofNat 6 i } }

/-- R115, R116: FRAME_START. -/
def execFrameStart (pkg : Nat) (s : State) : Host.Outcome State Fault Refusal :=
  .next (s.modPkg pkg (fun p => if p.slt.en then p.frame s.aclk else p))

/-- R118, R120: the VF whose slot starts at an aclk or after it, and which by its charge begins LEAD aclk from that aclk. At the
start of a frame the registers written count. -/
def Pkg.lateAhead (p : Pkg) (part t : Nat) : Option Nat :=
  let len := p.slt.slotlen.toNat
  let k := (t + p.slt.lead.toNat - p.slt.frameAt) / len
  let starts := p.slt.frameAt + k * len
  let p1 := if 64 ≤ k then p.frame t else p
  let e := p1.slt.entry (k % 64) part
  if len ≠ 0 && decide (t ≤ starts) && decide (starts < t + p.slt.lead.toNat) && decide (e < 128) &&
      starts + (p1.vf e).owed == t + p.slt.lead.toNat then some e else none

/-- R118, R120, R125: whether an edge inside a slot, the late start of its owner or the end of a bank, comes LEAD aclk after an
aclk. -/
def Pkg.leadsMid (p : Pkg) (part t : Nat) : Bool :=
  let q := p.part part
  let edge := t + p.slt.lead.toNat
  (q.startAt != 0 && q.startAt == edge) || (q.slackEnd != 0 && q.slackEnd == edge) || (p.lateAhead part t).isSome

/-- R114, R117, R120, R125: the owner of a partition after the edge that comes LEAD aclk from now. At the start of a frame a
switch that has been requested, and the configuration written, count. -/
def State.ownerAhead (s : State) (p : Pkg) (part : Nat) : Option Nat :=
  let q := p.part part
  let slack (p : Pkg) (but : Option Nat) : Option Nat := (s.slackVf p part but).map (fun x => x.1)
  let slot := p.slt.slotNow s.aclk
  let named (e : Nat) : Option Nat := if e < 128 then some e else none
  if (s.aclk + p.slt.lead.toNat - p.slt.frameAt) % p.slt.slotlen.toNat ≠ 0 && p.leadsMid part s.aclk then
    let e := p.slt.entry slot part
    match p.lateAhead part s.aclk with
    | some w => some w
    | none =>
      if q.startAt ≠ 0 && q.startAt == s.aclk + p.slt.lead.toNat then named e
      else slack (p.settleSlack part q.slackEnd) (named e)
  else
    let p1 := if slot = 63 then p.frame s.aclk else p
    let e := p1.slt.entry ((slot + 1) % 64) part
    if e < 128 && (p1.vf e).owed = 0 then some e else slack p1 (named e)

/-- R118: SLOT_LEAD_START: the partition's owner changes at the coming edge. -/
def execSlotLeadStart (pkg part : Nat) (s : State) : Host.Outcome State Fault Refusal :=
  .next (
    match s.pkg? pkg with
    | none => s
    | some p =>
      if (p.part part).phase = .run && (p.part part).owner != s.ownerAhead p part then
        s.modPart pkg part (fun q => { q with phase := .lead, leadTo := s.aclk + p.slt.lead.toNat })
      else s)

/-- R118: the LEAD before an edge that has kept the owner after all, or that did not come, ends in RUN (DESIGN CHOICE,
notes/assumptions/85.md). -/
def Part.endLead (now : Nat) (q : Part) : Part := if q.phase = .lead && decide (q.leadTo ≤ now) then { q with phase := .run } else q

/-- R118, R120, R124, R125: SLOT_EDGE: the start of a slot, of an owner whose slot begins late, or the end of a bank. At the
edge that EN brings about a partition whose entry names no VF stays idle. -/
def execSlotEdge (pkg part : Nat) (s : State) : Host.Outcome State Fault Refusal :=
  .next (
    match s.pkg? pkg with
    | none => s
    | some p =>
      if !(p.slt.en && (p.setRow part).en) then s
      else
        let k := p.slt.slotNow s.aclk
        let e := p.slt.entry k part
        let q := p.part part
        let start : Bool := p.slt.slotlen != 0 && (s.aclk - p.slt.frameAt) % p.slt.slotlen.toNat == 0
        let s1 := s.modPkg pkg (fun p =>
          let p1 := p.settleSlack part s.aclk
          if start then p1.modPart part (fun q => { q with busy := false, slackEnd := 0, startAt := 0, late := 0 }) else p1)
        let s3 :=
          if start then
            if 128 ≤ e then (if s.aclk = p.slt.enAt then s1 else s1.toSlack pkg part none .edge)
            else if (p.vf e).owed = 0 then s1.toOwner pkg part e .edge
            else
              let s2 := (s1.modVf pkg e (fun v => { v with owed := 0 })).toSlack pkg part (some e) .edge
              s2.modPart pkg part (fun q => { q with startAt := s.aclk + (p.vf e).owed, late := (p.vf e).owed })
          else if q.startAt ≠ 0 && q.startAt ≤ s.aclk then s1.toOwner pkg part e .edge
          else if q.slackEnd ≠ 0 && q.slackEnd ≤ s.aclk then
            s1.toSlack pkg part (if e < 128 then some e else none) .edge
          else s1
        s3.modPart pkg part (Part.endLead s.aclk))

/-- R119: ENGINE_SUSPEND: a running command of a VF that its engines no longer serve stops at its iteration boundary, once what
it has sent has landed. -/
def execEngineSuspend (inst : Nat) (s : State) : Host.Outcome State Fault Refusal :=
  .next (
    match s.cmd? inst with
    | some c =>
      if c.phase = .running && decide (c.vf < 128) && !s.vfRuns c.pkg c.vf && !c.sent then
        s.modCmd inst (fun c => { c with phase := .suspended, since := 0 })
      else s
    | none => s)

/-- R116, R118: whether a VF is one of a partition, or its owner. -/
def Pkg.inPart (p : Pkg) (part vf : Nat) : Bool := (p.part part).owner == some vf || (p.vf vf).partNum == part

/-- R26, R27, R119: whether a command runs in a partition for a VF other than `vf`. -/
def State.runsBut (s : State) (p : Pkg) (part : Nat) (vf : Option Nat) : Bool :=
  s.cmds.any (fun c => c.pkg == p.num && c.phase == .running && decide (c.vf < 128) && p.inPart part c.vf && some c.vf != vf)

/-- R276, R290: whether what a command sends to a VF of another package cannot land now: it has no route, or a move stops the
VF's partition, or a save has recorded it (R27; DESIGN CHOICE, notes/assumptions/114.md). -/
def State.arrivalHeld (s : State) (inst pkg vf : Nat) (saved : Bool) : Bool :=
  match s.cmd? inst, s.pkg? pkg with
  | some c, some p => saved || (c.pkg != pkg && (p.moves (p.vf vf).partNum || s.cutOff c.pkg pkg))
  | _, _ => false

/-- R27: whether a merge or an increment that a command of a partition has sent, for a VF other than `vf`, can land and has
not yet. -/
def State.sendsBut (s : State) (p : Pkg) (part : Nat) (vf : Option Nat) : Bool :=
  let mine (inst : Nat) : Bool :=
    (s.cmd? inst).any (fun c => c.pkg == p.num && decide (c.vf < 128) && p.inPart part c.vf && some c.vf != vf)
  s.merges.any (fun m => mine m.inst && !s.arrivalHeld m.inst m.pkg m.vf m.saved) ||
  s.incs.any (fun x => mine x.inst && !s.arrivalHeld x.inst x.pkg x.vf x.saved)

/-- R27, R118, R119: whether nothing of a partition is on its way any longer but what its engines do for the VF they serve, and
what cannot land, which the save records. -/
def State.partQuiet (s : State) (pkg part : Nat) : Bool :=
  match s.pkg? pkg with
  | some p =>
    !s.runsBut p part (p.part part).ce && !s.sendsBut p part (p.part part).ce &&
    !(s.mmas.any (fun m => m.pkg == pkg && p.inPart part m.vf && m.busy.isSome))
  | none => false

/-- R27: the merges and increments that the commands of a VF have sent are recorded with its context, or go on with it. -/
def State.recordSends (s : State) (pkg vf : Nat) (saved : Bool) : State :=
  let mine (inst : Nat) : Bool := (s.cmd? inst).any (fun c => c.pkg == pkg && c.vf == vf)
  let merge (m : PendMerge) : PendMerge := if mine m.inst then { m with saved := saved } else m
  let inc (x : PendInc) : PendInc := if mine x.inst then { x with saved := saved } else x
  { s with merges := s.merges.map merge, incs := s.incs.map inc }

/-- R118: DRAIN_DONE. -/
def execDrainDone (pkg part : Nat) (s : State) : Host.Outcome State Fault Refusal :=
  .next (
    match s.pkg? pkg with
    | some p => if (p.part part).phase = .drain && s.partQuiet pkg part then
        s.modPart pkg part (fun q => { q with phase := .save }) else s
    | none => s)

/-- R118, R119, R123, R273: the suspended commands of a VF go on, from their last page boundary where a TLBINV waits for them,
and those that LEAD held may start (DEDUCED, notes/assumptions/88.md). -/
def State.resumeCmds (s : State) (pkg vf : Nat) : State :=
  let invd (c : Cmd) : Cmd := if s.tlbInvs.any (fun t => t.waitFor.contains c.inst) then c.rewind else c
  let up (c : Cmd) : Cmd :=
    if c.pkg == pkg && c.vf == vf then
      if c.phase == .suspended then { (invd c) with phase := .running, since := 0, held := false } else { c with held := false }
    else c
  { s with cmds := s.cmds.map up }

/-- R119: CE_HANDOVER: the engines pass to the incoming VF once the outgoing VF's commands are suspended. -/
def execCeHandover (pkg part : Nat) (s : State) : Host.Outcome State Fault Refusal :=
  .next (
    match s.pkg? pkg with
    | none => s
    | some p =>
      let q := p.part part
      match q.owner, q.incoming with
      | some v, some w =>
        if (q.phase == .drain || q.phase == .save) && v != w && q.ce.isNone && !s.runsBut p part (some w) then
          (s.modPart pkg part (fun q => { q with ce := some w })).resumeCmds pkg w
        else s
      | _, _ => s)

/-! ### Save and restore (R120 to R122, R273) -/

/-- R116: the L2 ways, of the slices of its partition, that a VF shares with no other VF of the partition. -/
def Pkg.privateWays (p : Pkg) (v : Nat) : BitVec 16 :=
  (p.vf v).cfg.l2ways &&&
    ~~~((p.partVfs (p.vf v).partNum).foldl (fun m u => if u = v then m else m ||| (p.vf u).cfg.l2ways) 0)

/-- R116, R141: the ways a mask holds, ascending. -/
def waysOf (m : BitVec 16) : List Nat := (List.range 16).filter (fun i => m.getLsbD i)

/-- R122, R141: whether a control line that a VF's copies leave for the L2 stays there: its home slice is one of the VF's
partition, and the way that holds it is private to the VF (DESIGN CHOICE, notes/assumptions/68.md). -/
def State.l2Stays (s : State) (p : Pkg) (vf line : Nat) : Bool :=
  let ways := waysOf (p.vf vf).cfg.l2ways
  decide (vf < 128) && decide (s.homeAt .ctl (128 * line) = p.num) && !ways.isEmpty &&
  (p.setRow (p.vf vf).partNum).slc.getLsbD (Config.homeSlice line % 64) &&
  (p.privateWays vf).getLsbD (ways.getD (Config.lineWay line % ways.length) 0)

/-- The number under which a copy in the L2 is kept: the 64 slices follow the cores and control cores. -/
def l2Core (line : Nat) : Nat := 4096 + Config.homeSlice line % 64

/-- R122, R192: what becomes of a HARD or PRIVATE copy when its core's caches are cleared at an owner change. -/
def State.l2Keep (s : State) (p : Pkg) (c : HardCopy) : Option HardCopy :=
  if s.l2Stays p c.vf c.line then some { c with core := l2Core c.line } else none

/-- R122: what a partition's caches hold is written back and cleared; lines in L2 ways private to a VF stay. -/
def State.clearCaches (s : State) (pkg part : Nat) : State :=
  match s.pkg? pkg with
  | none => s
  | some p =>
    let ks := p.clusters part
    let mine (core : Nat) : Bool := ks.contains (core / 4) && decide (core < 256)
    let s1 := (p.l1.filter (fun x => mine x.core)).foldl (fun s x => s.l1Flush pkg x) s
    let s1 := s1.hardHome pkg (p.hard.filter (fun c => mine c.core && (s.l2Keep p c).isNone))
    let tlbMine (t : TlbAt) : Bool :=
      match t with
      | .core n => mine n
      | .cluster n => ks.contains n
      | .cc _ => false
    let strip (p : Pkg) : Pkg :=
      { p with
        l1 := p.l1.filter (fun x => !mine x.core)
        hard := p.hard.filterMap (fun c => if mine c.core then s.l2Keep p c else some c)
        lk := p.lk.filter (fun c => !mine c.core)
        tlb := p.tlb.filter (fun t => !tlbMine t.loc)
        walks := p.walks.filter (fun x => decide (128 ≤ x.asid) || (p.vf x.asid).partNum != part) }
    s1.modPkg pkg strip

/-- R121, R176: every engine command of a VF is cancelled: held, suspended, queued and armed ones, and its MMAs. -/
def State.cancelVf (s : State) (pkg vf : Nat) : State :=
  let l := s.cmds.filter (fun c => c.pkg == pkg && c.vf == vf &&
    (c.phase == .joining || c.phase == .queued || c.phase == .suspended || c.phase == .armed))
  let colls := l.filter (fun c => c.kind == .coll)
  let sets := ((l.filter (fun c => c.kind != .coll)).map (fun c => c.set)).eraseDups
  let s1 := sets.foldl (fun s k => s.endSet (s.setOf k) (statusWord Cause.cancelled 0)) s
  let s2 := colls.foldl (fun s c =>
    match s.cmd? c.inst with
    | some d => if d.phase = .suspended then s.collAlone d Cause.cancelled else s.cancelColl d
    | none => s) s1
  (s2.mmas.filter (fun m => m.pkg == pkg && m.vf == vf)).foldl (fun s m => s.mmaDrop m) s2

/-- R116: a VF's bank gains time, up to its cap. -/
def Vf.bank (v : Vf) (n slotlen : Nat) : Vf :=
  let cap := v.cfg.bank.toNat * slotlen
  let t := v.banked.toNat + n
  { v with banked := BitVec.ofNat 24 (if cap < t then cap else t) }

/-- R120, R121: an overrun charged. -/
def State.overrun (s : State) (pkg v : Nat) (incoming : Option Nat) (n slotlen : Nat) : State :=
  let s1 := s.modVf pkg v (fun x => { x with owed := x.owed + n, overruns := x.overruns + 1 })
  let s2 := match incoming with
    | some w => s1.modVf pkg w (fun x => x.bank n slotlen)
    | none => s1
  let s3 := s2.emit (.firmware pkg Cause.slotOverrun v (toDW n))
  if (s3.vf pkg v).overruns = 3 then
    (s3.modVf pkg v (fun x => { x with cancelled := true })).cancelVf pkg v
  else s3

/-- R118, R120, R122, R273: SAVE_DONE. -/
def execSaveDone (pkg part : Nat) (s : State) : Host.Outcome State Fault Refusal :=
  .next (
    match s.pkg? pkg with
    | none => s
    | some p =>
      let q := p.part part
      if q.phase != .save || !s.partQuiet pkg part then s
      else
        let s1 := match q.owner with
          | none => s
          | some v =>
            let mine (a : Agent) : Bool := !a.isCc && a.pkg == pkg && a.vf == v
            let put (m : MmaReq) : MmaReq := if m.pkg == pkg && m.vf == v then { m with saved := true } else m
            let hold (a : Agent) : Agent := if mine a then { a with saved := true } else a
            let saved : State := ({ s with agents := s.agents.map hold, mmas := s.mmas.map put } : State).recordSends pkg v true
            let n := s.aclk - q.edgeAt
            if (q.cause == PCause.edge || q.cause == PCause.yield_) && decide (p.slt.dmax.toNat < n) then
              saved.overrun pkg v q.incoming (n - p.slt.dmax.toNat) p.slt.slotlen.toNat
            else saved
        (s1.clearCaches pkg part).modPart pkg part (fun q =>
          { q with phase := if q.incoming.isSome then .restore else .idle, owner := none }))

/-- R112: the groups of a restored VF take slots in their cores' schedulers by the rule of a dispatch. -/
def replaceAgents (pkg vf : Nat) : List (Nat × Nat) → List Agent → List Agent
  | _, [] => []
  | seen, a :: r =>
    if !a.isCc && a.pkg == pkg && a.vf == vf then
      let n := ((seen.find? (fun x => x.1 == a.core)).map (fun x => x.2)).getD 0
      { a with saved := false, sched := n % 4 } ::
        replaceAgents pkg vf ((a.core, n + 1) :: seen.filter (fun x => x.1 != a.core)) r
    else a :: replaceAgents pkg vf seen r

/-- R267: whether a wait is for a page-fault service that has not failed. -/
def State.parkedOn (s : State) (pkg : Nat) (w : Option Stall) : Bool :=
  match w with
  | some (.service r) =>
    (match s.pkg? pkg with
     | some p => p.faults.any (fun f => f.id == r && !f.failed)
     | none => false)
  | _ => false

/-- R267: after a restore a parked side issues its access again. -/
def State.unpark (s : State) (pkg : Nat) (sd : Side) : Side := if s.parkedOn pkg sd.stall then { sd with stall := none } else sd

/-- R118, R267, R273: the context of a VF loaded again. -/
def State.restoreVf (s : State) (pkg vf : Nat) : State :=
  let mine (a : Agent) : Bool := !a.isCc && a.pkg == pkg && a.vf == vf
  let free (a : Agent) : Agent :=
    if mine a then { a with prim := a.prim.map (s.unpark pkg), sec := a.sec.map (s.unpark pkg) } else a
  let again (k p v : Nat) (w : Option Stall) : Option Stall := if k == p && v == vf && s.parkedOn pkg w then none else w
  let up (m : MmaReq) : MmaReq :=
    if m.pkg == pkg && m.vf == vf && m.saved then
      { m with saved := false, posted := s.aclk, waitFrom := s.aclk, promoted := none, wait := again pkg m.pkg m.vf m.wait }
    else m
  let upC (c : Cmd) : Cmd := { c with wait := again pkg c.pkg c.vf c.wait }
  (({ s with agents := (replaceAgents pkg vf [] s.agents).map free, mmas := s.mmas.map up,
             cmds := s.cmds.map upC }).recordSends pkg vf false).resumeCmds pkg vf

/-- R118, R131, R272, R294: RESTORE_DONE. Time that a move took counts as used, so that it is not banked; after a peer's loss
the partition goes on once the homes are promoted. A restore that ends within LEAD of the next edge enters RUN, not LEAD
(DESIGN CHOICE, notes/assumptions/85.md). Every RESTORE, that of a pre-emption among them, starts the 1,024 aclk of R124 anew
(DESIGN CHOICE, notes/assumptions/115.md). -/
def execRestoreDone (pkg part : Nat) (s : State) : Host.Outcome State Fault Refusal :=
  .next (
    match s.pkg? pkg with
    | none => s
    | some p =>
      let q := p.part part
      match q.incoming with
      | some v =>
        if q.phase = .restore && s.partQuiet pkg part && !(q.cause == .peer && !s.promoting.isEmpty) then
          (s.modPart pkg part (fun q =>
            { q with phase := .run, owner := some v, incoming := none, ce := some v, idleFrom := s.aclk,
                     busy := if q.again then q.busy else q.cause == .move || q.cause == .migrate
                     runFrom := if q.again then q.runFrom else s.aclk })).restoreVf pkg v
        else s
      | none => s)

/-! ### Yields, pre-emption, enable and disable -/

/-- R124: aclk for which a VF must have nothing to do. -/
def idleTime : Nat := 1024

/-- R124: whether the VF that a slot names has been idle long enough in its own run. -/
def Pkg.idleOwner (p : Pkg) (part now : Nat) : Option Nat :=
  let q := p.part part
  let e := p.slt.entry (p.slt.slotNow now) part
  if p.slt.en && (q.phase == .run || q.phase == .lead) && q.owner == some e && q.slackOf.isNone &&
      decide (q.idleFrom + idleTime ≤ now) then some e else none

/-- R124, R126: VF_IDLE_YIELD; a slot that began late is banked without the time that its charge took (R120). -/
def execVfIdleYield (pkg part : Nat) (s : State) : Host.Outcome State Fault Refusal :=
  .next (
    match s.pkg? pkg with
    | none => s
    | some p =>
      match p.idleOwner part s.aclk with
      | none => s
      | some v =>
        if s.runnable pkg v then s
        else
          let len := p.slt.slotlen.toNat
          let into := if len = 0 then 0 else (s.aclk - p.slt.frameAt) % len
          let s1 := s.modVf pkg v (fun x => x.bank (len - (if (p.part part).busy then into else (p.part part).late)) len)
          let d := (p.vf v).cfg.donee.toNat
          if d < 128 && d != v && (p.vf d).enabled && (p.vf d).partNum == part && s.runnable pkg d then
            s1.toOwner pkg part d .yield_
          else s1.toSlack pkg part (some v) .yield_)

/-- R272: outside an edge the owner of a running partition is quiesced, saved and restored. -/
def Part.pause (q : Part) (cause : PCause) (now : Nat) : Part :=
  if q.phase = .run then { q with phase := .drain, incoming := q.owner, cause := cause, edgeAt := now, ce := none } else q

/-- R123, R272: PREEMPT_REQUEST: outside an edge the same owner is quiesced and restored. -/
def execPreemptRequest (pkg part : Nat) (s : State) : Host.Outcome State Fault Refusal :=
  .next (s.modPart pkg part (fun q => q.pause .preempt s.aclk))

/-- R118: EN set: a frame starts at slot 0 in the next aclk. -/
def Pkg.enableSlots (p : Pkg) (now : Nat) : Pkg :=
  if p.slt.en then p else { p with slt := { p.slt with en := true, slot := 0, frameAt := now + 1, enAt := now + 1 } }

/-- R118: EN cleared: every partition drains and saves, and stays idle. -/
def Pkg.disableSlots (p : Pkg) (now : Nat) : Pkg :=
  if !p.slt.en then p
  else
    let p1 := (List.range 64).foldl (fun p i => p.settleSlack i now) p
    let down (q : Part) : Part := { (q.aim none .disable now) with slackOf := none, slackEnd := 0, startAt := 0 }
    { p1 with slt := { p1.slt with en := false }, parts := p1.parts.map down }

/-- R118, R298: SLT_ENABLE. -/
def execSltEnable (pkg : Nat) (s : State) : Host.Outcome State Fault Refusal :=
  .next (s.modPkg pkg (fun p => p.ifOffers (fun p => p.enableSlots s.aclk)))

/-- R118, R298: SLT_DISABLE. -/
def execSltDisable (pkg : Nat) (s : State) : Host.Outcome State Fault Refusal :=
  .next (s.modPkg pkg (fun p => p.ifOffers (fun p => p.disableSlots s.aclk)))

/-! ### Rate limiters (R127 to R129) -/

/-- R127: aclk between two gains. -/
def refillTime : Nat := 5200

/-- R127, R128: a bucket after a gain: at most two gains, at least eight gains of debt. -/
def refill (b gain : Int) : Int :=
  let x := (if b < -8 * gain then -8 * gain else b) + gain
  if 2 * gain < x then 2 * gain else x

/-- R127: LINK_BUCKET_REFILL. -/
def execLinkBucketRefill (pkg : Nat) (s : State) : Host.Outcome State Fault Refusal :=
  .next (s.modPkg pkg (fun p =>
    let up (v : Vf) : Vf := { v with linkBucket := v.linkBucket.map (fun b => refill b ((shareOf v.cfg.linksh : Int) * 3500)) }
    { p with vfs := p.vfs.map up }))

/-- R129: HBM_BUCKET_REFILL. -/
def execHbmBucketRefill (pkg : Nat) (s : State) : Host.Outcome State Fault Refusal :=
  .next (s.modPkg pkg (fun p =>
    let up (v : Vf) : Vf :=
      { v with hbmBucket := refill v.hbmBucket ((shareOf v.cfg.hbmsh : Int) * p.channelGroups v.partNum * 6250) }
    { p with vfs := p.vfs.map up }))

end Sys2Proof.Machine
end

