-- ==== Sys2Proof/Machine/Convert.lean ====
section
/-!
DEFINITION. Sys2Proof/Machine/Convert.lean: CVT (R370 to R373) and the packing words UNPK (R467) and PACK (R434, R435).
-/
namespace Sys2Proof.Machine

/-- R371: the registers that hold an element of a format. -/
def cvtRegs (f : Fmt) (r : Nat) : List Nat := if f == .fp64 then [r, r + 1] else [r]

/-- R371: the source pattern of a lane. -/
def cvtSource (x : Agent) (f : Fmt) (r l : Nat) : Nat :=
  if f == .fp64 then (x.vpair r l).toNat else (x.vreg r l).toNat

/-- R372: the conversion of one pattern. -/
def cvtOne (sf : Fmt) (ov : Ov) (rm : Rm) (tf : Fmt) (ftz : Bool) (n : Nat) : Conv :=
  convertTo tf rm ov ftz (Fmt.valueFtz ftz sf n)

/-- R372: the flags of a conversion. -/
def Conv.flags (k : Conv) : W := stickyBits k.sov k.sinv k.sinx false

/-- R370 to R373: CVT from a format; a TRAP overflow in any active lane traps and writes nothing. -/
def cvtWord (s : State) (g : Pred) (sf : Fmt) (ov : Ov) (rm : Rm) (tf : Fmt) (d a : VReg) :
    Host.Outcome State Fault Refusal :=
  vecWord s (cvtRegs tf d.toNat ++ cvtRegs sf a.toNat) (fun x sd c =>
    let m := activeMask x sd g
    let k (l : Nat) : Conv := cvtOne sf ov rm tf (fmtFtz sd.fmt) (cvtSource x sf a.toNat l)
    match (lanesOf m).find? (fun l => (k l).trap) with
    | some l => s.trap x sd c (Trap.plain Cause.cvtOverflow (BitVec.ofNat 32 l))
    | none =>
      let x' := if tf == .fp64 then x.setVPair d.toNat m (fun l => toDW (k l).bits)
                else x.setV d.toNat m (fun l => BitVec.ofNat 32 (k l).bits)
      ((s.setAgent x').orFmt c (orFlags m (fun l => (k l).flags))).retire c)

/-- R370: CVT from F32. -/
def execCvtFromF32 (g : Pred) (ov : Ov) (rm : Rm) (tf : Fmt) (d a : VReg) (s : State) :
    Host.Outcome State Fault Refusal :=
  cvtWord s g .fp32 ov rm tf d a
/-- R370: CVT from F64. -/
def execCvtFromF64 (g : Pred) (ov : Ov) (rm : Rm) (tf : Fmt) (d a : VReg) (s : State) :
    Host.Outcome State Fault Refusal :=
  cvtWord s g .fp64 ov rm tf d a
/-- R370: CVT from BF16. -/
def execCvtFromBf16 (g : Pred) (ov : Ov) (rm : Rm) (tf : Fmt) (d a : VReg) (s : State) :
    Host.Outcome State Fault Refusal :=
  cvtWord s g .bf16 ov rm tf d a
/-- R370: CVT from F16. -/
def execCvtFromF16 (g : Pred) (ov : Ov) (rm : Rm) (tf : Fmt) (d a : VReg) (s : State) :
    Host.Outcome State Fault Refusal :=
  cvtWord s g .fp16 ov rm tf d a
/-- R370: CVT from E4M3. -/
def execCvtFromE4m3 (g : Pred) (ov : Ov) (rm : Rm) (tf : Fmt) (d a : VReg) (s : State) :
    Host.Outcome State Fault Refusal :=
  cvtWord s g .e4m3 ov rm tf d a
/-- R370: CVT from E5M2. -/
def execCvtFromE5m2 (g : Pred) (ov : Ov) (rm : Rm) (tf : Fmt) (d a : VReg) (s : State) :
    Host.Outcome State Fault Refusal :=
  cvtWord s g .e5m2 ov rm tf d a
/-- R370: CVT from I32. -/
def execCvtFromI32 (g : Pred) (ov : Ov) (rm : Rm) (tf : Fmt) (d a : VReg) (s : State) :
    Host.Outcome State Fault Refusal :=
  cvtWord s g .i32 ov rm tf d a
/-- R370: CVT from N32. -/
def execCvtFromN32 (g : Pred) (ov : Ov) (rm : Rm) (tf : Fmt) (d a : VReg) (s : State) :
    Host.Outcome State Fault Refusal :=
  cvtWord s g .n32 ov rm tf d a

/-! ### UNPK and PACK -/

/-- R434: the field width a control value names. -/
def packWidth (k : W) : Nat := 4 * 2 ^ (k.extractLsb' 0 2).toNat

/-- R434, R467: PACK and UNPK. The check of the control value's reserved bits is one of order 2 of R316, made whenever
the word issues, as R442 says of QNT's (DEDUCED, notes/assumptions/21.md). -/
def packWord (s : State) (g : Pred) (d a : VReg) (b : SSrc) (keep : W) (f : Agent → W → W → Nat → W) :
    Host.Outcome State Fault Refusal :=
  withIssuer s (fun x sd c =>
    let k := SSrc.get x b
    if (k &&& ~~~keep) != 0 || (k &&& 3) == 3 then s.trap x sd c (Trap.plain Cause.illegalInstr c.raw)
    else
      match vecCheck x c [d.toNat, a.toNat] with
      | some t => s.trap x sd c t
      | none =>
        let m := activeMask x sd g
        if m = 0 then s.retire c else (s.setAgent (x.setV d.toNat m (f x m k))).retire c)

/-- R435: the packed word of a lane. -/
def packLane (x : Agent) (a : Nat) (m k : W) (l : Nat) : W :=
  let w := packWidth k
  let f := 32 / w
  if l < 32 / f then
    (List.range f).foldl (fun r j =>
      if m.getLsbD (f * l + j) then
        r ||| ((x.vreg a (f * l + j) &&& BitVec.ofNat 32 (2 ^ w - 1)) <<< (w * j))
      else r) 0
  else 0

/-- R467: the unpacked field of a lane. -/
def unpkLane (x : Agent) (a : Nat) (m k : W) (l : Nat) : W :=
  let w := packWidth k
  let f := 32 / w
  let t : W := if m.getLsbD (l / f) then (x.vreg a (l / f) >>> (w * (l % f))) &&& BitVec.ofNat 32 (2 ^ w - 1) else 0
  if k.getLsbD 2 && t.getLsbD (w - 1) then t - BitVec.ofNat 32 (2 ^ w) else t

/-- R434, R435: PACK. -/
def execPack (g : Pred) (d a : VReg) (b : SSrc) (s : State) : Host.Outcome State Fault Refusal :=
  packWord s g d a b 3 (fun x m k l => packLane x a.toNat m k l)

/-- R467: UNPK. -/
def execUnpk (g : Pred) (d a : VReg) (b : SSrc) (s : State) : Host.Outcome State Fault Refusal :=
  packWord s g d a b 7 (fun x m k l => unpkLane x a.toNat m k l)

end Sys2Proof.Machine
end

