-- ==== Sys2Proof/Machine/CrossLane.lean ====
section
/-!
DEFINITION. Sys2Proof/Machine/CrossLane.lean: the words that combine lanes: SHFL (R453), VRED and VSCAN (R469, R470),
VMINX and VMAXX (R468).
-/
namespace Sys2Proof.Machine

/-! ### SHFL (R453) -/

/-- A SHFL whose source lane is `j`; a lane without an active source keeps vA of its own. -/
def shflWord (s : State) (g : Pred) (d a : VReg) (b : VSrc) (src : Nat → W → Option Nat) :
    Host.Outcome State Fault Refusal :=
  vecWord s (d.toNat :: a.toNat :: VSrc.regs b) (fun x sd c =>
    let m := activeMask x sd g
    (s.setAgent (x.setV d.toNat m (fun l =>
      match src l (VSrc.get x b l) with
      | some j => if m.getLsbD j then x.vreg a.toNat j else x.vreg a.toNat l
      | none => x.vreg a.toNat l))).retire c)

/-- R453: SHFL.IDX. -/
def execShflIdx (g : Pred) (d a : VReg) (b : VSrc) (s : State) : Host.Outcome State Fault Refusal :=
  shflWord s g d a b (fun _ w => some (w.toNat % 32))
/-- R453: SHFL.XOR. -/
def execShflXor (g : Pred) (d a : VReg) (b : VSrc) (s : State) : Host.Outcome State Fault Refusal :=
  shflWord s g d a b (fun l w => some (l ^^^ (w.toNat % 32)))
/-- R453: SHFL.UP. -/
def execShflUp (g : Pred) (d a : VReg) (b : VSrc) (s : State) : Host.Outcome State Fault Refusal :=
  shflWord s g d a b (fun l w => if w.toNat ≤ l then some (l - w.toNat) else none)
/-- R453: SHFL.DOWN. -/
def execShflDown (g : Pred) (d a : VReg) (b : VSrc) (s : State) : Host.Outcome State Fault Refusal :=
  shflWord s g d a b (fun l w => if l + w.toNat ≤ 31 then some (l + w.toNat) else none)

/-! ### Extremes (R468) -/

/-- The index of the lowest best value under a strict order, over those that `ok` admits. -/
def bestIdx (ok : Nat → Bool) (better : Nat → Nat → Bool) : List Nat → Option Nat
  | [] => none
  | i :: r =>
    match bestIdx ok better r with
    | none => if ok i then some i else none
    | some j => if ok i && !better j i then some i else some j

/-- R468, R470: the minimum or maximum of FP32 patterns (already flushed) with the place of the lowest that holds it;
NaNs never win against a number. -/
def extremeF (max : Bool) (xs : List W) : W × Nat :=
  let v (i : Nat) : FVal := Fmt.value .fp32 (xs.getD i 0).toNat
  match bestIdx (fun i => !(v i).isNan) (fun i j => if max then (v j).ltz (v i) else (v i).ltz (v j))
      (List.range xs.length) with
  | some i => (xs.getD i 0, i)
  | none => (0x7FC00000, 0)

/-- R468: an integer extreme. -/
def extremeI (better : W → W → Bool) (xs : List W) : W × Nat :=
  match bestIdx (fun _ => true) (fun i j => better (xs.getD i 0) (xs.getD j 0)) (List.range xs.length) with
  | some i => (xs.getD i 0, i)
  | none => (0, 0)

/-- R468: SINV for a signalling NaN. -/
def sigFlags (xs : List W) : W := stickyBits false (xs.any (fun w => (Fmt.value .fp32 w.toNat).isSig)) false false

/-- R468: a word that writes the extreme and its lane to a scalar pair. -/
def extremeWord (s : State) (g : Pred) (d : SReg) (a : VReg) (b : SSrc) (f : Bool → List W → (W × Nat) × W) :
    Host.Outcome State Fault Refusal :=
  vecWord s [a.toNat] (fun x sd c =>
    let m := activeMask x sd g
    if m = 0 then s.retire c
    else
      let xs := (List.range 32).map (fun l => if m.getLsbD l then x.vreg a.toNat l else SSrc.get x b)
      let r := f (fmtFtz sd.fmt) xs
      ((s.setAgent ((x.setS d.toNat r.1.1).setS (d.toNat + 1) (BitVec.ofNat 32 r.1.2))).orFmt c r.2).retire c)

/-- R468: VMINX.N. -/
def execVminxN (g : Pred) (d : SReg) (a : VReg) (b : SSrc) (s : State) : Host.Outcome State Fault Refusal :=
  extremeWord s g d a b (fun _ xs => (extremeI (fun x y => x.toNat < y.toNat) xs, 0))
/-- R468: VMINX.I. -/
def execVminxI (g : Pred) (d : SReg) (a : VReg) (b : SSrc) (s : State) : Host.Outcome State Fault Refusal :=
  extremeWord s g d a b (fun _ xs => (extremeI (fun x y => x.toInt < y.toInt) xs, 0))
/-- R468: VMINX.F. -/
def execVminxF (g : Pred) (d : SReg) (a : VReg) (b : SSrc) (s : State) : Host.Outcome State Fault Refusal :=
  extremeWord s g d a b (fun ftz xs => (extremeF false (xs.map (flush32 ftz)), sigFlags xs))
/-- R468: VMAXX.N. -/
def execVmaxxN (g : Pred) (d : SReg) (a : VReg) (b : SSrc) (s : State) : Host.Outcome State Fault Refusal :=
  extremeWord s g d a b (fun _ xs => (extremeI (fun x y => y.toNat < x.toNat) xs, 0))
/-- R468: VMAXX.I. -/
def execVmaxxI (g : Pred) (d : SReg) (a : VReg) (b : SSrc) (s : State) : Host.Outcome State Fault Refusal :=
  extremeWord s g d a b (fun _ xs => (extremeI (fun x y => y.toInt < x.toInt) xs, 0))
/-- R468: VMAXX.F. -/
def execVmaxxF (g : Pred) (d : SReg) (a : VReg) (b : SSrc) (s : State) : Host.Outcome State Fault Refusal :=
  extremeWord s g d a b (fun ftz xs => (extremeF true (xs.map (flush32 ftz)), sigFlags xs))

/-! ### VRED and VSCAN (R469, R470) -/

/-- R469: the identity that VSCAN.EX writes for an empty set of lanes. -/
def RedOp.identity (o : RedOp) : W :=
  match o with
  | .sumI => 0
  | .sumF => 0
  | .minI => 0x7FFFFFFF
  | .minN => 0xFFFFFFFF
  | .minF => 0x7F800000
  | .maxI => 0x80000000
  | .maxN => 0
  | .maxF => 0xFF800000
  | .and => 0xFFFFFFFF
  | .or => 0
  | .xor => 0

/-- A result without flags. -/
def plainRes (w : W) : Res := { bits := w.setWidth 64, flags := 0 }

/-- R470: the combination of a non-empty list of lane values. -/
def RedOp.combine (o : RedOp) (fmt : W) (xs : List W) : Res :=
  let ftz := fmtFtz fmt
  let fold (op : W → W → W) : Res :=
    match xs with
    | [] => plainRes (RedOp.identity o)
    | x :: r => plainRes (r.foldl op x)
  match o with
  | .sumI => fold (fun x y => x + y)
  | .sumF =>
    let vs := xs.map (fun w => Fmt.valueFtz ftz .fp32 w.toNat)
    sumRes .fp32 (fmtRm fmt) ftz (vs.any FVal.isSig) vs
  | .minI => fold minI
  | .minN => fold minN
  | .maxI => fold maxI
  | .maxN => fold maxN
  | .minF => { (plainRes (extremeF false (xs.map (flush32 ftz))).1) with flags := sigFlags xs }
  | .maxF => { (plainRes (extremeF true (xs.map (flush32 ftz))).1) with flags := sigFlags xs }
  | .and => fold (fun x y => x &&& y)
  | .or => fold (fun x y => x ||| y)
  | .xor => fold (fun x y => x ^^^ y)

/-- R470: VRED. -/
def execVred (g : Pred) (d : SReg) (a : VReg) (op : RedOp) (s : State) : Host.Outcome State Fault Refusal :=
  vecWord s [a.toNat] (fun x sd c =>
    let m := activeMask x sd g
    if m = 0 then s.retire c
    else
      let r := RedOp.combine op sd.fmt ((lanesOf m).map (x.vreg a.toNat))
      ((s.setAgent (x.setS d.toNat r.w)).orFmt c r.flags).retire c)

/-- R470: the result of VSCAN in a lane. -/
def scanLane (x : Agent) (a : Nat) (m fmt : W) (ex : Bool) (op : RedOp) (l : Nat) : Res :=
  let ls := (lanesOf m).filter (fun k => if ex then k < l else k ≤ l)
  if ls.isEmpty then plainRes (RedOp.identity op) else RedOp.combine op fmt (ls.map (x.vreg a))

/-- R470: VSCAN. -/
def execVscan (g : Pred) (d a : VReg) (ex : Bool) (op : RedOp) (s : State) : Host.Outcome State Fault Refusal :=
  vecWord s [d.toNat, a.toNat] (fun x sd c =>
    let m := activeMask x sd g
    ((s.setAgent (x.setV d.toNat m (fun l => (scanLane x a.toNat m sd.fmt ex op l).w))).orFmt c
      (orFlags m (fun l => (scanLane x a.toNat m sd.fmt ex op l).flags))).retire c)

end Sys2Proof.Machine
end

