-- ==== Sys2Proof/Machine/MpWrites.lean ====
section
/-!
DEFINITION. Sys2Proof/Machine/MpWrites.lean: writes of the MP register space and of a VF's window (R281, R488, with R114 to
R116, R191, R224, R279, R282, R284 to R288, R300, R489).
-/
namespace Sys2Proof.Machine

/-- A field of a written word. -/
def fld (v : W) (lo n : Nat) : Nat := v.toNat / 2 ^ lo % 2 ^ n

/-! ### Mailboxes (R284, R285) -/

/-- R285: bytes of a command up to the end of its parameters; none where CMD is unknown. -/
def mbxUsed (cmd : Nat) : Option Nat :=
  match cmd with
  | 1 => some 0x28
  | 2 => some 0x0A
  | 3 => some 0x0B
  | 4 => some 0x10
  | 5 => some 0x0D
  | 6 => some 0x0A
  | 7 => some 0x14
  | _ => none

/-- R284: the command code in a mailbox. -/
def Mbx.code (m : Mbx) : Nat := blkU m.cmd 0 1

/-- R285: an unknown command, or one whose unused bytes are not all zero. -/
def Mbx.malformed (m : Mbx) : Bool :=
  match mbxUsed m.code with
  | none => true
  | some n => !blkZero m.cmd 1 7 || !blkZero m.cmd n (64 - n)

/-- R284, R285: a command ends with a result and its outputs. -/
def Mbx.finish (m : Mbx) (res : Nat) (out : List Nat) : Mbx :=
  { m with go := false, res := BitVec.ofNat 8 res,
           out := Vector.ofFn (fun i : Fin 4 => BitVec.ofNat 32 (if res = 0 then out.getD i.val 0 else 0)) }

/-- R284, R285: MBX_GO: the command starts, or ends at once. -/
def Mbx.start (m : Mbx) (vf : Bool) (port : Nat) : Mbx :=
  if m.go then m
  else if m.malformed then m.finish 0x02 []
  else if vf && decide (2 < m.code) then m.finish 0x10 []
  else { m with go := true, port := port }

/-- R285: a write of a mailbox register at an offset of its window. -/
def Mbx.write (m : Mbx) (vf : Bool) (port off : Nat) (v : W) : Mbx :=
  if 0x40 ≤ off ∧ off < 0x80 then
    if m.go then m else { m with cmd := m.cmd.take (off - 0x40) ++ toLE 4 v.toNat ++ m.cmd.drop (off - 0x40 + 4) }
  else if off = 0x80 ∧ v.getLsbD 0 then m.start vf port
  else m

/-! ### Registers of a VF (R116, R224, R489) -/

/-- R116: QSLOTS over the other VFs. -/
def Pkg.otherSlots (p : Pkg) (v : Nat) : Nat :=
  ((List.range 128).map (fun k => if k = v then 0 else (p.vf k).pend.qslots.toNat)).foldl (· + ·) 0

/-- R489: ARMSH over the other VFs. -/
def Pkg.otherArmsh (p : Pkg) (v : Nat) : Nat :=
  ((List.range 128).map (fun k => if k = v then 0 else (p.vf k).armsh.toNat)).foldl (· + ·) 0

/-- R116, R488: SLT_VFCFG0 and SLT_VFCFG1 written; they take effect at the next frame start. -/
def Pkg.writeVfCfg (p : Pkg) (v i : Nat) (x : W) : Pkg :=
  if i = 0 then
    p.modVf v (fun f => { f with pend := { f.pend with
      l2ways := x.extractLsb' 0 16, linksh := x.extractLsb' 16 8, hbmsh := x.extractLsb' 24 8 } })
  else
    let bank := fld x 16 3
    let q := fld x 24 6
    let bankOk : Bool := decide (bank ≤ 4)
    let qOk : Bool := decide (q ≤ 48) && decide (p.otherSlots v + q ≤ 48)
    let p1 := p.modVf v (fun f => { f with pend := { f.pend with
      part := x.extractLsb' 0 6, scopecap := x.getLsbD 6, donee := x.extractLsb' 8 8,
      bank := if bankOk then x.extractLsb' 16 3 else f.pend.bank,
      qslots := if qOk then x.extractLsb' 24 6 else f.pend.qslots } })
    if bankOk && qOk then p1 else p1.refuse

/-- R116: the W1C bits of SLT_VFSTAT. -/
def Vf.clearStat (f : Vf) (x : W) : Vf :=
  { f with demoted := f.demoted && !x.getLsbD 0, cancelled := f.cancelled && !x.getLsbD 1 }

/-- R224: the W1C bit of CE_RPSTAT. -/
def Vf.clearFull (f : Vf) (x : W) : Vf := { f with rpFull := f.rpFull && !x.getLsbD 16 }

/-- R489, R488: XE_ARMSH. -/
def Pkg.writeArmsh (p : Pkg) (v : Nat) (x : W) : Pkg :=
  let n := fld x 0 11
  if n ≤ 1024 ∧ p.otherArmsh v + n ≤ 1024 then p.modVf v (fun f => { f with armsh := BitVec.ofNat 11 n }) else p.refuse

/-! ### Other registers -/

/-- Four bytes of a table bank. -/
def tblPut (t : Vector (Vector Byte 64) 64) (off : Nat) (v : W) : Vector (Vector Byte 64) 64 :=
  let row := (List.range 4).foldl (fun (r : Vector Byte 64) i => r.setIfInBounds (off % 64 + i) (v.extractLsb' (8 * i) 8))
    (tblRow t (off / 64))
  t.setIfInBounds (off / 64) row

/-- R114, R281: a write of a table bank; the active bank is not written. -/
def Pkg.writeTbl (p : Pkg) (one : Bool) (off : Nat) (v : W) : Pkg :=
  if p.slt.active = one then p.refuse
  else if one then { p with slt := { p.slt with tbl1 := tblPut p.slt.tbl1 off v } }
  else { p with slt := { p.slt with tbl0 := tblPut p.slt.tbl0 off v } }

/-- R115, R118: SLT_CTL: EN starts or stops the slots, SWAP is set by 1. -/
def Pkg.writeCtl (p : Pkg) (now : Nat) (v : W) : Pkg :=
  let p1 := if v.getLsbD 0 then p.enableSlots now else p.disableSlots now
  if v.getLsbD 1 then p1.requestSwap else p1

/-- R286, R488: MP_FNMODE. -/
def Pkg.writeFnmode (p : Pkg) (v : W) : Pkg :=
  let t := v.extractLsb' 16 16
  let p1 : Pkg := { p with mp := { p.mp with
    pfs := v.getLsbD 0, res := v.getLsbD 1, ret := v.getLsbD 2, coh := v.getLsbD 3, plr := v.getLsbD 4, pmv := v.getLsbD 5,
    hatmo := if t = 0 then p.mp.hatmo else t } }
  if t = 0 then p1.refuse else p1

/-- R288, R488: an event-ring register of a PF; HEAD is RO. -/
def Pkg.writeRing (p : Pkg) (port i : Nat) (v : W) : Pkg :=
  let h := p.ha[port]?.getD HaRing.reset
  let put (x : HaRing) : Pkg := { p with ha := p.ha.setIfInBounds port x }
  match i with
  | 0 => put { h with base := (hiW h.base) ++ (v &&& 0xFFFFF000) }
  | 1 => put { h with base := v ++ (loW h.base) }
  | 2 =>
    let n := fld v 0 5
    if n = 0 ∨ (6 ≤ n ∧ n ≤ 16) then put { h with log2n := BitVec.ofNat 5 n } else p.refuse
  | 4 => put { h with tail := v }
  | _ => p

/-- R282: HSEM_REL: 1 from the holder releases. -/
def Pkg.hsemRel (p : Pkg) (port : Nat) : Pkg :=
  if p.hsem.holder = port + 1 then { p with hsem := { p.hsem with holder := 0 } } else p

/-- R279, R488: ERR_CFG. -/
def Pkg.writeErrCfg (p : Pkg) (v : W) : Pkg :=
  let w := v.extractLsb' 0 16
  let p1 : Pkg := { p with mp := { p.mp with
    window := if w = 0 then p.mp.window else w, pgthr := v.extractLsb' 16 4, bkthr := v.extractLsb' 20 4 } }
  if w = 0 then p1.refuse else p1

/-- R281, R488: a write of a register outside the mailbox, from a port's PF or, with no port, a control core. -/
def Pkg.writeReg (p : Pkg) (port : Option Nat) (now off : Nat) (v : W) : Pkg :=
  if off = 0x04 then
    match port with
    | some k => if v.getLsbD 0 then p.hsemRel k else p
    | none => p
  else if off = 0x08 then
    if v.extractLsb' 0 16 = 0 then p.refuse else { p with hsem := { p.hsem with tmo := v.extractLsb' 0 16 } }
  else if off = 0x0C then
    { p with hsem := { p.hsem with broken0 := p.hsem.broken0 && !v.getLsbD 0, broken1 := p.hsem.broken1 && !v.getLsbD 1 } }
  else if off = 0x100 then p.writeFnmode v
  else if off = 0x104 then { p with mp := { p.mp with fallback := p.mp.fallback && !v.getLsbD 0 } }
  else if 0x110 ≤ off ∧ off ≤ 0x120 then p.writeRing (port.getD 0) ((off - 0x110) / 4) v
  else if off = 0x200 then
    if 600 ≤ fld v 0 12 ∧ fld v 0 12 ≤ 2400 then { p with mp := { p.mp with watts := v.extractLsb' 0 12 } } else p.refuse
  else if off = 0x300 then p.writeErrCfg v
  else if off = 0x400 then
    if 10 ≤ fld v 0 5 ∧ fld v 0 5 ≤ 30 then { p with mp := { p.mp with log2q := v.extractLsb' 0 5 } } else p.refuse
  else if off = 0x10000 then p.writeCtl now v
  else if off = 0x10004 then
    { p with slt := { p.slt with cfgerr := p.slt.cfgerr && !v.getLsbD 0, swaperr := p.slt.swaperr && !v.getLsbD 1 } }
  else if off = 0x10008 then p.writeSlotlen v
  else if off = 0x1000C then p.writeLead v
  else if off = 0x10010 then p.writeDmax v
  else if 0x11000 ≤ off ∧ off < 0x11800 then
    let k := (off - 0x11000) / 16
    match (off - 0x11000) % 16 / 4 with
    | 0 => p.writeVfCfg k 0 v
    | 1 => p.writeVfCfg k 1 v
    | 2 => p.modVf k (fun f => f.clearStat v)
    | _ => p
  else if 0x20000 ≤ off ∧ off < 0x21000 then p.writeTbl false (off - 0x20000) v
  else if 0x21000 ≤ off ∧ off < 0x22000 then p.writeTbl true (off - 0x21000) v
  else if 0x40000 ≤ off ∧ off < 0x41000 then
    match off % 32 / 4 with
    | 5 => p.modVf ((off - 0x40000) / 32) (fun f => f.clearFull v)
    | 6 => p.writeArmsh ((off - 0x40000) / 32) v
    | _ => p
  else p

/-- R281, R298: a write of a register of the MP space; in recovery only the mailbox answers. -/
def Pkg.mpWrite (p : Pkg) (port : Option Nat) (now off : Nat) (v : W) : Pkg :=
  if off % 4 ≠ 0 then p
  else if 0x40 ≤ off ∧ off < 0x98 then { p with pfMbx := p.pfMbx.write false (port.getD 0) off v }
  else if p.recovery then p
  else p.writeReg port now off v

/-- R281: a write of a VF's window. -/
def Pkg.vfWinWrite (p : Pkg) (k off : Nat) (v : W) : Pkg :=
  if off % 4 ≠ 0 || p.recovery then p
  else if off = 0 then p.modVf k (fun f => f.clearStat v)
  else if off = 0x10 then p.modVf k (fun f => f.clearFull v)
  else { p with vfMbx := p.vfMbx.setIfInBounds k ((p.vfMbx[k]?.getD Mbx.reset).write true 0 off v) }

end Sys2Proof.Machine
end

