-- ==== Sys2Proof/Machine/Mailbox.lean ====
section
/-!
DEFINITION. Sys2Proof/Machine/Mailbox.lean: host-assisted requests (R286 to R288), the hardware semaphore (R282), and the
mailbox commands (R276, R284, R285, R287, R292, R298).
-/
namespace Sys2Proof.Machine

/-! ### Mailboxes -/

/-- R284: the mailbox of a window. -/
def Pkg.mbx (p : Pkg) (win : Window) : Mbx :=
  match win with
  | .pf _ => p.pfMbx
  | .vf v => p.vfMbx[v]?.getD Mbx.reset

def Pkg.setMbx (p : Pkg) (win : Window) (m : Mbx) : Pkg :=
  match win with
  | .pf _ => { p with pfMbx := m }
  | .vf v => { p with vfMbx := p.vfMbx.setIfInBounds v m }

/-- R284, R285: the command in a window's mailbox has ended. -/
def State.mbxDone (s : State) (pkg : Nat) (win : Window) (res : Nat) (out : List Nat) : State :=
  s.modPkg pkg (fun p => p.setMbx win ((p.mbx win).finish res out))

/-- R285: the results that a refused command may have, where the rule names none of them for it. -/
def mbxErrors : List Nat := [0x02, 0x06, 0x12]

/-- R285: a command ends with one of these results; which one of several is a free value (DESIGN CHOICE,
notes/assumptions/44.md). -/
def State.mbxFail (s : State) (pkg : Nat) (win : Window) (codes : List Nat) : State :=
  match codes with
  | [x] => s.mbxDone pkg win x []
  | _ => ({ s with free := s.free + 1 } : State).mbxDone pkg win (codes.getD (Config.freeNat s.free % codes.length) 0x02) []

/-- R284: whether a started command of this code waits in a window's mailbox. -/
def Pkg.mbxGo (p : Pkg) (win : Window) (code : Nat) : Bool :=
  let m := p.mbx win
  m.go && m.code == code &&
  (match win with
   | .pf port => m.port == port
   | .vf v => decide (v < 128) && decide (code ≤ 2))

/-- A mailbox command: carried out where its window has started it, refused in recovery (R298). -/
def mbxCommand (s : State) (pkg : Nat) (win : Window) (code : Nat) (go : Pkg → List Byte → State) : State :=
  match s.pkg? pkg with
  | none => s
  | some p =>
    if !p.mbxGo win code then s
    else if p.recovery && code != 7 then s.mbxFail pkg win mbxErrors
    else go p (p.mbx win).cmd

/-! ### QCREATE and QDESTROY -/

/-- R101, R285: the descriptor fields without a value that QCREATE may take. -/
def queueMalformed (c : List Byte) : Bool :=
  !(decide (4 ≤ blkU c 0x18 1) && decide (blkU c 0x18 1 ≤ 16)) || decide (3 < blkU c 0x19 1) || blkU c 0x1B 1 != 1

/-- R30, R285: the lowest queue number that names no queue. -/
def Pkg.freeQueue (p : Pkg) : Option Nat :=
  let used := (p.queues.filter (fun q => q.st != .disabled)).map (fun q => q.num)
  if 65536 ≤ used.length then none
  else (List.range (used.length + 1)).find? (fun k => !used.contains k)

/-- R101, R108: a queue from its descriptor; the submitter's HEAD starts at 0 (DESIGN CHOICE, notes/assumptions/28.md). -/
def newQueue (pkg n now : Nat) (c : List Byte) : Queue :=
  { num := n, ring := blkA c 8, tline := blkA c 0x10, log2n := blkU c 0x18 1, prio := blkU c 0x19 1, vf := blkU c 0x1A 1,
    stb := 1, st := .idle, head := 0, pword := Config.pendingWord pkg n, pbit := (Config.pendingBit pkg n).toNat,
    pendAt := 0, bitAt := none, last := none, gate := none, emptySince := now, destroying := false, wait := none }

/-- R102, R285: whether the package can read `n` bytes of control space at a virtual address of a VF; one whose page is
not mapped yet counts as readable (DESIGN CHOICE, notes/assumptions/84.md). -/
def State.vfReads (s : State) (pkg v : Nat) (va : DW) (n : Nat) : Bool :=
  [va, va + toDW (n - 1)].all (fun a =>
    (match s.checkAddr (s.whoVf pkg v) Kind.load a 1 with
     | .bad _ _ => false
     | _ => true))

/-- R101, R285: whether the package can read the ring and the tail line of a descriptor. -/
def State.queueReads (s : State) (pkg v : Nat) (c : List Byte) : Bool :=
  blkU c 8 8 % 256 == 0 && blkU c 0x10 8 % 128 == 0 &&
  s.vfReads pkg v (blkA c 8) (256 * 2 ^ blkU c 0x18 1) && s.vfReads pkg v (blkA c 0x10) 128

/-- R101, R285: the results of the errors of a QCREATE, each once: reserved bytes that are not zero; a field without a value, or a VF
that is not the window's, for which the rule names no result; a VF that is not there; a ring or a tail line that cannot be read;
no free queue number. -/
def State.queueErrors (s : State) (p : Pkg) (win : Window) (c : List Byte) : List Nat :=
  let v := blkU c 0x1A 1
  let mine : Bool := match win with
    | .pf _ => true
    | .vf k => k == v
  if !blkZero c 0x1C 12 then [0x02]
  else
    ((if queueMalformed c || !mine then mbxErrors else []) ++
      (if 128 ≤ v || !(p.vf v).enabled then [0x12]
       else if !s.queueReads p.num v c then [0x06] else []) ++
      (if p.freeQueue.isNone then [0x12] else [])).eraseDups

/-- R285: QCREATE. -/
def execQcreate (pkg : Nat) (win : Window) (s : State) : Host.Outcome State Fault Refusal :=
  .next (mbxCommand s pkg win 1 (fun p c =>
    match s.queueErrors p win c, p.freeQueue with
    | [], some n =>
      let q := newQueue pkg n s.aclk c
      let s1 := s.modPkg pkg (fun p => { p with queues := p.queues.filter (fun x => x.num != n) ++ [q] })
      s1.mbxDone pkg win 0 [n, q.pbit, q.pword.toNat % 2 ^ 32, q.pword.toNat / 2 ^ 32]
    | l, _ => s.mbxFail pkg win l))

/-- R284, R285: QDESTROY. -/
def execQdestroy (pkg : Nat) (win : Window) (s : State) : Host.Outcome State Fault Refusal :=
  .next (mbxCommand s pkg win 2 (fun p c =>
    let n := blkU c 8 2
    let mine (q : Queue) : Bool := match win with
      | .pf _ => true
      | .vf k => q.vf == k
    match p.queues.find? (fun q => q.num == n && q.st != .disabled && mine q) with
    | none => s.mbxDone pkg win 0x06 []
    | some _ => ((s.modQueue pkg n (fun q => { q with destroying := true })).mbxDone pkg win 0 []).queueGone pkg n))

/-! ### VFJOIN, PEERDOWN, FWLOAD -/

/-- R163, R285: VFJOIN. -/
def execVfjoin (pkg : Nat) (win : Window) (s : State) : Host.Outcome State Fault Refusal :=
  .next (mbxCommand s pkg win 3 (fun _ c =>
    let v := blkU c 0x0A 1
    if 128 ≤ v then s.mbxFail pkg win mbxErrors
    else
      ((s.modVf pkg v (fun f => { f with tenant := BitVec.ofNat 16 (blkU c 8 2) })).agree pkg).mbxDone pkg win 0 []))

/-- R286, R292: a package finds a peer lost; in host-assisted mode the host is asked first. -/
def State.findLost (s : State) (pkg peer : Nat) : State :=
  if s.detected.contains (pkg, peer) || !(s.pkgs.any (fun p => p.num == peer)) || pkg = peer then s
  else
    match s.pkg? pkg with
    | none => s
    | some p =>
      if p.haOpen 4 peer then s
      else if !p.mp.plr then { s with detected := s.detected ++ [(pkg, peer)] }
      else s.raiseHa pkg 4 0xFF 0 (toDW peer) peer

/-- R285, R292: PEERDOWN. -/
def execPeerdown (pkg : Nat) (win : Window) (s : State) : Host.Outcome State Fault Refusal :=
  .next (mbxCommand s pkg win 6 (fun _ c =>
    let n := blkU c 8 2
    if 512 ≤ n then s.mbxFail pkg win mbxErrors else (s.findLost pkg n).mbxDone pkg win 0 []))

/-- R285, R298: FWLOAD. -/
def execFwload (pkg : Nat) (win : Window) (s : State) : Host.Outcome State Fault Refusal :=
  .next (mbxCommand s pkg win 7 (fun _ c =>
    let image := Memory.readN s.host (blkU c 8 8) (blkU c 0x10 4)
    if !Config.hostRange (blkU c 8 8) (blkU c 0x10 4) then s.mbxDone pkg win 0x06 []
    else if Config.verifies image then
      (s.modPkg pkg (fun p => { p with boot := { p.boot with staged := some image } })).mbxDone pkg win 0 []
    else s.mbxDone pkg win 0x12 []))

/-! ### Host-assisted requests (R287, R288) -/

/-- R287: a request leaves the list. -/
def State.dropHa (s : State) (pkg : Nat) (r : HaReq) : State :=
  s.modPkg pkg (fun p => { p with haReqs := p.haReqs.filter (fun x => !(x.func == r.func && x.ref_ == r.ref_)) })

/-- R266: a fault request is declared unresolvable. -/
def State.failFault (s : State) (pkg id : Nat) : State :=
  s.modPkg pkg (fun p => { p with faults := p.faults.map (fun f => if f.id == id then { f with failed := true } else f) })

/-- R266: a fault request has been served. -/
def State.dropFault (s : State) (pkg id : Nat) : State :=
  s.modPkg pkg (fun p => { p with faults := p.faults.filter (fun f => f.id != id) })

/-- R159, R157: a leaf written by a package, where its page-table entry stands. -/
def State.putLeaf (s : State) (pkg at_ : Nat) (e : DW) : State :=
  (s.ownWrite pkg at_ (toLE 8 e.toNat)).exchange .ctl pkg at_ (toLE 8 e.toNat) []

/-- R159, R266, R306: a leaf that a page-fault service or a return copy writes: what is written to its page from then on counts as a
write of a code page. A page that a running launch had fetched from, and that was written before its leaf went INVALID or IN_TRANSIT,
stays spoiled where it stands next. -/
def State.serveLeaf (s : State) (pkg at_ : Nat) (e : DW) : State :=
  let hit := s.launches.flatMap (fun l => (s.spoils l).filter (fun q => q.leaf == at_))
  let s1 := s.putLeaf pkg at_ e
  let s2 : State := { s1 with spoiled := hit.flatMap (fun q => [q, { q with base := leafPa e }]) ++ s1.spoiled }
  let up (q : CodePage) : CodePage := if q.leaf = at_ then { q with base := leafPa e, since := s2.wlog.length } else q
  if leafSt e = 0 then s2
  else
    { s2 with
      launches := s2.launches.map (fun l => { l with codePages := l.codePages.map up })
      served := (at_, s2.wlog.length) :: s2.served.filter (fun x => x.1 != at_) }

/-! ### Retirement (R279, R157 to R160) -/

/-- The entries of a table that are not INVALID: their indices, from the bytes that memory lists. -/
def tableEntries (m : Mem) (base width : Nat) : List Nat :=
  ((m.filter (fun x => decide (base ≤ x.1) && decide (x.1 < base + 8 * 2 ^ width))).map (fun x => (x.1 - base) / 8)).eraseDups

/-- R268: the leaves of a table and of the tables below it, each with its place, address and size. -/
def State.leaves (s : State) : List Level → Nat → Nat → List (Nat × Nat × PgSize)
  | [], _, _ => []
  | lv :: rest, base, va =>
    (tableEntries s.ctl base lv.width).flatMap (fun i =>
      let at_ := base + 8 * i
      let e := toDW (leNat (Memory.readN s.ctl at_ 8))
      let va1 := va + i * 2 ^ lv.shift
      if leafSt e = 3 && !rest.isEmpty then s.leaves rest ((e.extractLsb' 8 42).toNat * 256) va1
      else
        match lv.leaf with
        | some size => if leafSt e = 1 then [(at_, va1, size)] else []
        | none => [])

/-- R268, R295: the address spaces of a package with their table roots. -/
def State.spaces (s : State) (p : Pkg) : List (Nat × Nat × Nat) :=
  ((List.range 128).filter (fun v => (p.vf v).enabled)).map (fun v => (v, (p.vf v).croot.toNat, (p.vf v).troot.toNat)) ++
  s.agents.filterMap (fun a => if a.pkg == p.num then
    a.cc.map (fun k => (k.asid.toNat, k.croot.toNat, k.troot.toNat)) else none)

/-- R268: the leaves of an address space in one of its spaces. -/
def State.leavesIn (s : State) (sp : Space) (x : Nat × Nat × Nat) : List (Nat × Nat × PgSize) :=
  match sp with
  | .ctl => s.leaves ctlLevels x.2.1 0
  | .ten => s.leaves tenLevels x.2.2 (2 ^ 62)

/-- The size of the page that a leaf maps. -/
def leafBytes (e : DW) : Nat := 2 ^ (PgSize.ofCode (e.extractLsb' 2 2).toNat).log2

/-- The entry of a page table that stands at a control address. -/
def State.entryAt (s : State) (at_ : Nat) : DW := toDW (leNat (Memory.readN s.ctl at_ 8))

/-- R133: the leaves of every package's address spaces that name a byte of a range, each with its package. -/
def State.leavesOf (s : State) (sp : Space) (base n : Nat) : List (Nat × LeafAt) :=
  let names (l : Nat × Nat × PgSize) : Bool :=
    let e := s.entryAt l.1
    decide (leafPa e < base + n) && decide (base < leafPa e + 2 ^ l.2.2.log2)
  s.pkgs.flatMap (fun p => (s.spaces p).flatMap (fun x =>
    ((s.leavesIn sp x).filter names).map (fun l => (p.num, { at_ := l.1, asid := x.1, va := toDW l.2.1 }))))

/-- R157: a free index of the page-transit table. -/
def Pkg.freeTransit (p : Pkg) : Option Nat := (List.range 256).find? (fun k => !(p.transit.any (fun t => t.idx == k)))

/-- R157, R160: a page goes to TRANSIT with this final leaf and return copy; with no entry free it goes INVALID, and
firmware is told. -/
def State.toTransit (s : State) (pkg : Nat) (x : LeafAt) (final : DW) (inst : Nat) : State :=
  match (s.pkg? pkg).bind Pkg.freeTransit with
  | some k =>
    let t : Transit := { idx := k, leaf := final, inst := inst, leafAt := x.at_, asid := x.asid, va := x.va }
    let s1 := s.modPkg pkg (fun p => { p with transit := p.transit ++ [t] })
    (s1.putLeaf pkg x.at_ ((final &&& 0x00FFFFFFFFFFFFFC) ||| 2 ||| (toDW k <<< 56))).tlbDrop x.asid false x.va 1
  | none =>
    ((s.putLeaf pkg x.at_ (final &&& 0xFFFFFFFFFFFFFFFC)).tlbDrop x.asid false x.va 1).emit
      (.firmware pkg Cause.transitOverflow x.asid x.va)

/-- R157: firmware, or the host, fills a page-transit entry with a page's final leaf and the instance of its return copy,
and writes TRANSIT into the leaf. -/
def State.fillTransit (s : State) (pkg : Nat) (leaf : DW) (inst : Nat) (x : LeafAt) : State :=
  if leafSt leaf = 1 && inst != 0 && x.at_ % 8 == 0 && s.ctlPaOk x.at_ then s.toTransit pkg x leaf inst else s

/-- The number under which a 64 KiB page of a space is logged. -/
def pageId (sp : Space) (pa : Nat) : Nat :=
  match sp with
  | .ctl => pa / 65536
  | .ten => 2 ^ 40 + pa / 65536

/-- The space and address of a logged page. -/
def pageOfId (k : Nat) : Space × Nat := if k < 2 ^ 40 then (.ctl, 65536 * k) else (.ten, 65536 * (k - 2 ^ 40))

/-- R279: a page is counted as retired. -/
def Pkg.countRetired (p : Pkg) (k : Nat) : Pkg :=
  { p with
    retired := k :: p.retired
    ceLog := p.ceLog.filter (fun x => x.1 != k)
    mp := { p.mp with pages := if p.mp.pages = 0xFFFF then p.mp.pages else p.mp.pages + 1 } }

/-- R279: a bank is counted as retired. -/
def Pkg.countBank (p : Pkg) (b : Nat) : Pkg :=
  { p with banksGone := b :: p.banksGone
           mp := { p.mp with banks := if p.mp.banks = 0xFF then p.mp.banks else p.mp.banks + 1 } }

/-- The packages' physical address of a space. -/
def Space.pkgOf (sp : Space) (pa : Nat) : Nat :=
  match sp with
  | .ctl => pa / 2 ^ 33
  | .ten => pa / 2 ^ 40

/-- R134: whether a physical address is backed. -/
def State.paOk (s : State) (sp : Space) (pa : Nat) : Bool :=
  match sp with
  | .ctl => s.ctlPaOk pa
  | .ten => s.tenPaOk pa

/-- R279: whether a frame may take the contents of another of `n` bytes at `base`: it is backed by the same package, is in
use nowhere, and nothing of it has been retired. -/
def State.spareOk (s : State) (p : Pkg) (sp : Space) (base n new : Nat) : Bool :=
  new % n == 0 && s.paOk sp new && s.paOk sp (new + n - 1) && sp.pkgOf new == sp.pkgOf base &&
  !(decide (new < base + n) && decide (base < new + n)) &&
  (List.range (n / 65536)).all (fun i =>
    let k := pageId sp (new + 65536 * i)
    !p.retired.contains k && !p.banksGone.contains (Config.bankOf k)) &&
  (s.leavesOf sp new n).isEmpty

/-- R279: the spare frame for the one of `n` bytes at `base`, if there is one (DESIGN CHOICE, notes/assumptions/30.md). -/
def State.spare (s : State) (p : Pkg) (sp : Space) (base n : Nat) : Option Nat :=
  ((List.range (p.retired.length + 1)).map (fun i => Config.spareFrame (decide (sp = .ten)) base n i)).find?
    (fun new => s.spareOk p sp base n new)

/-- A range of memory copied to another. -/
def Memory.copy (m : Mem) (base n new : Nat) : Mem :=
  (m.filter (fun x => decide (base ≤ x.1) && decide (x.1 < base + n))).foldl
    (fun m x => Memory.write m (new + (x.1 - base)) x.2) (m.filter (fun x => decide (x.1 < new) || decide (new + n ≤ x.1)))

/-- R277: the poison of a range copied to another. -/
def poisonCopied (l : List (Nat × Nat)) (base n new : Nat) : List (Nat × Nat) :=
  (l.filter (fun x => decide (x.1 < base + n) && decide (base < x.2))).foldl
    (fun l x => rangesAdd (new + (max x.1 base - base)) (new + (min x.2 (base + n) - base)) l) (rangesDrop new (new + n) l)

/-- An address moved with the frame that it lies in. -/
def movedPa (base n new pa : Nat) : Nat := if base ≤ pa ∧ pa < base + n then new + (pa - base) else pa

/-- R133: a leaf that names the place to which its page has moved. -/
def leafMoved (base n new : Nat) (e : DW) : DW :=
  (e &&& ~~~(0x3FFFFFFFF0000 : DW)) ||| (toDW (movedPa base n new (leafPa e)) &&& 0x3FFFFFFFF0000)

/-- R279: a write noted, once a frame has moved: what it wrote stands in the new frame, and the bytes that stood there are gone.
-/
def Wrote.moved (pl : Place) (base n new : Nat) (x : Wrote) : Wrote :=
  if x.place ≠ pl then x
  else if base ≤ x.lo ∧ x.lo < base + n then { x with lo := movedPa base n new x.lo, hi := movedPa base n new x.lo + (x.hi - x.lo) }
  else if new ≤ x.lo ∧ x.lo < new + n then { x with hi := x.lo, old := [] }
  else x

/-- R279: the contents of a frame, with their poison and what the package holds of the frame's pages, move to another. The move
itself is no write of a program (R306). -/
def State.moveFrame (s : State) (sp : Space) (base n new : Nat) : State :=
  let s1 := s.recall sp base n
  let s2 := s1.setMem sp (Memory.copy (s1.mem sp) base n new)
  let poison := poisonCopied (s1.poison sp) (base / 4) (n / 4) (new / 4)
  let here (x : Space) : Bool := decide (x = sp)
  let upO (o : DirOwner) : DirOwner := if here .ctl then { o with page := movedPa base n new o.page } else o
  let upX (t : Transit) : Transit := if here (vaSpace t.va) then { t with leaf := leafMoved base n new t.leaf } else t
  let upC (c : Cmd) : Cmd := { c with snap := c.snap.map (fun x => if here x.1 then (x.1, movedPa base n new x.2.1, x.2.2) else x) }
  let upT (t : CohTr) : CohTr := if here .ctl then { t with page := movedPa base n new t.page } else t
  let upQ (q : CodePage) : CodePage :=
    { q with
      base := if q.place = sp.place then movedPa base n new q.base else q.base
      leaf := if here .ctl then movedPa base n new q.leaf else q.leaf }
  { s2 with
    wlog := s2.wlog.map (Wrote.moved sp.place base n new)
    launches := s2.launches.map (fun l => { l with codePages := l.codePages.map upQ })
    served := if here .ctl then s2.served.map (fun x => (movedPa base n new x.1, x.2)) else s2.served
    spoiled := s2.spoiled.map upQ
    ctlPoison := if here .ctl then poison else s2.ctlPoison
    tenPoison := if here .ten then poison else s2.tenPoison
    pkgs := s2.pkgs.map (fun p => { p with dirOwners := p.dirOwners.map upO, transit := p.transit.map upX })
    cmds := s2.cmds.map upC
    cohTrs := s2.cohTrs.map upT }

/-- R279: the frame that holds a retired page: the widest page of any leaf that names it. -/
def State.frameOf (s : State) (pa : Nat) (l : List (Nat × LeafAt)) : Nat × Nat :=
  let n := l.foldl (fun n x => max n (leafBytes (s.entryAt x.2.at_))) 65536
  (pa / n * n, n)

/-- R157, R160, R279: what names a 64 KiB page moves with its frame to a spare one, through transit; where no frame is
spare, its leaves go INVALID and demand paging serves them (DESIGN CHOICE, notes/assumptions/30.md). -/
def State.evacuate (s : State) (pkg : Nat) (sp : Space) (pa : Nat) : State :=
  match s.pkg? pkg with
  | none => s
  | some p =>
    let f := s.frameOf pa (s.leavesOf sp pa 65536)
    let l := s.leavesOf sp f.1 f.2
    if l.isEmpty then s
    else
      match s.spare p sp f.1 f.2 with
      | some new =>
        l.foldl (fun s x => s.toTransit x.1 x.2 (leafMoved f.1 f.2 new (s.entryAt x.2.at_)) 0) (s.moveFrame sp f.1 f.2 new)
      | none =>
        l.foldl (fun s x => (s.putLeaf x.1 x.2.at_ (s.entryAt x.2.at_ &&& 0xFFFFFFFFFFFFFFFC)).tlbDrop x.2.asid false x.2.va 1) s

/-- R279: a bank retired whole: every page of it that a leaf names moves. -/
def State.retireBank (s : State) (pkg b : Nat) : State :=
  match s.pkg? pkg with
  | none => s
  | some p =>
    if p.banksGone.contains b then s
    else
      let pages (sp : Space) : List Nat :=
        (s.leavesOf sp 0 (2 ^ 56)).filterMap (fun x =>
          let e := s.entryAt x.2.at_
          ((List.range (leafBytes e / 65536)).map (fun i => leafPa e + 65536 * i)).find?
            (fun pa => sp.pkgOf pa == pkg && Config.bankOf (pageId sp pa) == b))
      let each (sp : Space) (s : State) : State := (pages sp).foldl (fun s pa => s.evacuate pkg sp pa) s
      each .ten (each .ctl (s.modPkg pkg (fun p => p.countBank b)))

/-- R288: the model's number of a bank in a host-assisted request. -/
def bankRef (b : Nat) : Nat := 2 ^ 60 + b

/-- aclk of a second (R116). -/
def secondTime : Nat := 1300000000

/-- R279: the errors of the log within the last WINDOW seconds. -/
def Pkg.ceRecent (p : Pkg) (now : Nat) : List (Nat × Nat) :=
  p.ceLog.filter (fun x => decide (now ≤ x.2 + p.mp.window.toNat * secondTime))

/-- R279: the correctable errors of a page within the window. -/
def Pkg.ceCount (p : Pkg) (page now : Nat) : Nat := ((p.ceRecent now).filter (fun x => x.1 == page)).length

/-- R279, R286, R288: a bank with more than BKTHR retired pages is retired, by the MP or through the host. -/
def State.askRetireBank (s : State) (pkg b : Nat) : State :=
  match s.pkg? pkg with
  | none => s
  | some p =>
    if (p.retired.filter (fun k => Config.bankOf k == b)).length ≤ p.mp.bkthr.toNat || p.banksGone.contains b ||
        p.haOpen 2 (bankRef b) then s
    else if !p.mp.ret then s.retireBank pkg b
    else
      let ce := ((p.ceRecent s.aclk).filter (fun x => Config.bankOf x.1 == b)).length
      s.raiseHa pkg 2 0xFF (toDW (Config.bankAddr pkg b)) (toDW (1 + 65536 * (ce % 65536))) (bankRef b)

/-- R279: a page retired. -/
def State.retirePage (s : State) (pkg k : Nat) : State :=
  match s.pkg? pkg with
  | none => s
  | some p =>
    if p.retired.contains k then s
    else
      let x := pageOfId k
      ((s.modPkg pkg (fun p => p.countRetired k)).evacuate pkg x.1 x.2).askRetireBank pkg (Config.bankOf k)

/-! ### Partition moves (R274 to R276) -/

/-- R274: a row of the setting table from its 32 bytes. -/
def setRowOf (b : List Byte) (p : Nat) : SetRow :=
  let w (i : Nat) : Nat := blkU b (32 * p + 4 * i) 4
  { en := (w 0) % 2 == 1, clu := BitVec.ofNat 64 (w 1 + 2 ^ 32 * w 2), slc := BitVec.ofNat 64 (w 3 + 2 ^ 32 * w 4),
    hbm := BitVec.ofNat 64 (w 5 + 2 ^ 32 * w 6), base := BitVec.ofNat 9 (w 7), size := BitVec.ofNat 9 (w 7 / 2 ^ 16) }

/-- R274: whether two partitions share a unit or a part of the tensor range. -/
def SetRow.clash (a b : SetRow) : Bool :=
  a.clu &&& b.clu != 0 || a.slc &&& b.slc != 0 || a.hbm &&& b.hbm != 0 ||
  (a.size != 0 && b.size != 0 && decide (a.base.toNat < b.base.toNat + b.size.toNat) && decide (b.base.toNat < a.base.toNat + a.size.toNat))

/-- R274: a setting table that the MP refuses. -/
def setRefused (harvest : List Nat) (t : Vector SetRow 64) : Bool :=
  let row (i : Nat) : SetRow := t[i]?.getD SetRow.reset
  let on := (List.range 64).filter (fun i => (row i).en)
  on.any (fun i => on.any (fun j => decide (i < j) && (row i).clash (row j))) ||
  (List.range 64).any (fun i => harvest.any (fun k => (row i).clu.getLsbD k)) ||
  on.any (fun i => (row i).clu == 0 || (row i).slc == 0 || (row i).hbm == 0 ||
    decide (496 < (row i).base.toNat + (row i).size.toNat))

/-- R276: the partitions that a new table changes. -/
def Pkg.changed (p : Pkg) (t : Vector SetRow 64) : List Nat :=
  (List.range 64).filter (fun i => decide (p.setRow i ≠ t[i]?.getD SetRow.reset))

/-- R276 step 1: every affected partition is quiesced. -/
def Pkg.quiesce (p : Pkg) (parts : List Nat) (cause : PCause) (now : Nat) : Pkg :=
  parts.foldl (fun p i => (p.settleSlack i now).modPart i (fun q =>
    { (q.aim none cause now) with slackOf := none, slackEnd := 0, startAt := 0 })) p

/-- R276: a physical core's place after a move: the same logical core of its partition (DEDUCED, notes/assumptions/29.md). -/
def Pkg.movedCore (old new : Pkg) (parts : List Nat) (core : Nat) : Nat :=
  match old.partOfCluster (core / 4) with
  | some i =>
    if parts.contains i && new.coreCount i != 0 then
      (new.coreOf i (old.logicalCore i core % new.coreCount i)).getD core
    else core
  | none => core

/-- R157, R276: the leaves of the tensor pages whose channel groups a move changes. -/
def State.migrating (s : State) (p : Pkg) (m : Move) : List (Nat × LeafAt) :=
  (m.parts.filter (fun i => (p.setRow i).hbm != (m.rows[i]?.getD SetRow.reset).hbm)).flatMap (fun i =>
    let r := p.setRow i
    if r.size = 0 then [] else s.leavesOf .ten (p.num * 2 ^ 40 + r.base.toNat * 2 ^ 30) (r.size.toNat * 2 ^ 30))

/-- R276 steps 2 to 4: the L2 slices cleared, the table rewritten, what is bound to physical cores moved with it, TLBs and
walk caches dropped. -/
def State.moveTable (s : State) (p : Pkg) (m : Move) : State :=
  let new : Pkg := { p with sets := m.rows }
  let s := s.hardHome p.num (p.hard.filter (fun c => decide (4096 ≤ c.core) &&
    m.parts.any (fun i => (p.setRow i).slc.getLsbD (c.core - 4096))))
  let f (k : Nat) : Nat := p.movedCore new m.parts k
  let g (k : Nat) : Nat := f (4 * k) / 4
  let upA (a : Agent) : Agent := if a.pkg == p.num && !a.isCc then { a with core := f a.core } else a
  let upC (c : Crew) : Crew := if c.pkg == p.num then { c with core := f c.core } else c
  let upE (c : Cmd) : Cmd := if c.pkg == p.num && decide (c.eng < 64) then { c with eng := g c.eng } else c
  let upD (d : Desc) : Desc := { d with core := f d.core }
  let upM (q : MmaReq) : MmaReq :=
    if q.pkg == p.num then
      { q with cluster := g q.cluster, leader := f q.leader, follower := f q.follower, a := upD q.a, b := upD q.b }
    else q
  let upO (d : DirOwner) : DirOwner := if d.pkg == p.num && decide (d.core < 256) then { d with core := f d.core } else d
  let touched (k : Nat) : Bool := match p.partOfCluster k with
    | some i => m.parts.contains i
    | none => false
  let tlbGone (t : TlbAt) : Bool :=
    match t with
    | .core n => touched (n / 4)
    | .cluster n => touched n
    | .cc _ => false
  let upS (x : CoreSplit) : CoreSplit := { x with core := f x.core }
  let upP (q : Pkg) : Pkg :=
    let q1 : Pkg := { q with dirOwners := q.dirOwners.map upO }
    if q.num == p.num then
      { q1 with
        sets := m.rows, move := some { m with pages := some (s.migrating p m) }, split := q.split.map upS,
        tlb := q.tlb.filter (fun t => !tlbGone t.loc)
        walks := q.walks.filter (fun x => decide (128 ≤ x.asid) || !m.parts.contains (q.vf x.asid).partNum)
        hard := q.hard.filter (fun c => !(decide (4096 ≤ c.core) &&
          m.parts.any (fun i => (p.setRow i).slc.getLsbD (c.core - 4096)))) }
    else q1
  { s with agents := s.agents.map upA, crews := s.crews.map upC, cmds := s.cmds.map upE, mmas := s.mmas.map upM,
           pkgs := s.pkgs.map upP }

/-- R276 step 5: a partition goes on with the owner of the current slot. -/
def State.resumePart (s : State) (pkg part : Nat) : State :=
  match s.pkg? pkg with
  | none => s
  | some p =>
    if !(p.slt.en && (p.setRow part).en) then s
    else
      let e := p.slt.entry (p.slt.slotNow s.aclk) part
      if e < 128 then s.toOwner pkg part e .move else s.toSlack pkg part none .move

/-- R272: the host directs a migration: a partition is quiesced and stays so, or goes on. -/
def State.migrate (s : State) (pkg part : Nat) (stop : Bool) : State :=
  if stop then s.modPkg pkg (fun p => (p.quiesce [part] .migrate s.aclk).modPart part (fun q => { q with held := true }))
  else (s.modPart pkg part (fun q => { q with held := false })).resumePart pkg part

/-- R276: whether every partition that a move affects is quiesced. -/
def Pkg.moveQuiet (p : Pkg) (m : Move) : Bool := m.parts.all (fun i => (p.part i).phase == .idle)

/-- R157, R276: the next page of a move whose table is rewritten migrates through transit; after the last the move ends. -/
def State.migrateNext (s : State) (pkg : Nat) (win : Window) (m : Move) : List (Nat × LeafAt) → State
  | [] => (s.modPkg pkg (fun p => { p with move := none })).mbxDone pkg win 0 []
  | x :: rest =>
    let s1 := s.modPkg pkg (fun p => { p with move := some { m with pages := some rest } })
    if leafSt (s.entryAt x.2.at_) = 1 then s1.toTransit x.1 x.2 (s.entryAt x.2.at_) 0 else s1

/-- R276: the move is carried out once every affected partition is quiesced; its pages migrate one by one. -/
def State.finishMove (s : State) (pkg : Nat) (win : Window) : State :=
  match (s.pkg? pkg).bind (fun p => p.move.map (fun m => (p, m))) with
  | none => s
  | some x =>
    if x.2.host then s
    else
      match x.2.pages with
      | some l => s.migrateNext pkg win x.2 l
      | none =>
        if x.1.moveQuiet x.2 then
          let s1 := x.2.parts.foldl (fun s i => s.resumePart pkg i) (s.moveTable x.1 x.2)
          if (s.migrating x.1 x.2).isEmpty then s1.migrateNext pkg win x.2 [] else s1
        else s

/-- R276: a move that hardware carries out starts with the quiescence. -/
def State.startMove (s : State) (pkg : Nat) : State :=
  s.modPkg pkg (fun p =>
    match p.move with
    | some m => { (p.quiesce m.parts .move s.aclk) with move := some { m with host := false } }
    | none => p)

/-- R274, R276, R285: PARTMOVE: a refused table ends the command; else the move starts, and later it ends. -/
def execPartmove (pkg : Nat) (win : Window) (s : State) : Host.Outcome State Fault Refusal :=
  .next (mbxCommand s pkg win 4 (fun p c =>
    match p.move with
    | some _ => s.finishMove pkg win
    | none =>
      if blkU c 8 8 % 4 ≠ 0 || !Config.hostRange (blkU c 8 8) 2048 then s.mbxDone pkg win 0x06 []
      else
        let image := Memory.readN s.host (blkU c 8 8) 2048
        let rows : Vector SetRow 64 := Vector.ofFn (fun i : Fin 64 => setRowOf image i.val)
        if setRefused p.boot.harvest rows then s.mbxDone pkg win 0x12 []
        else
          let m : Move := { rows := rows, parts := p.changed rows, addr := blkA c 8, host := p.mp.pmv, pages := none }
          let s1 := s.modPkg pkg (fun p => { p with move := some m })
          if p.mp.pmv then s1.raiseHa pkg 5 0xFF m.addr 0 0 else (s1.startMove pkg).finishMove pkg win))

/-! ### HACOMP, HA_EVENT_WRITE, HA_TIMEOUT -/

/-- R190, R287: a transition that the host ended with a cause is dropped, and its COHSET takes that cause. -/
def State.cohFail (s : State) (t : CohTr) (cause : Nat) : State :=
  let s1 : State := { s with cohTrs := s.cohTrs.filter (fun x => x.id != t.id) }
  (match (s1.agent? t.agent).bind (fun a => a.side t.slot) with
  | some sd => s1.takeTrap t.agent t.slot sd.pt t.len
      { cause := cause, data := 0, frec := some { sub := 1, lane := 0, lanes := 1, done := 0, addr := t.va, detail := 0 } }
  | none => s1).cohWake

/-- R287: the host has completed a request (RESULT 0), or ended it with a cause. -/
def State.haDone (s : State) (pkg : Nat) (r : HaReq) (res : Nat) : State :=
  match r.func with
  | 0 => if res = 0 then s.dropFault pkg r.ref_ else s.failFault pkg r.ref_
  | 1 => if res = 0 then s.moveResident pkg r.ref_ else s
  | 2 => if res != 0 then s else if r.ref_ < bankRef 0 then s.retirePage pkg r.ref_ else s.retireBank pkg (r.ref_ - bankRef 0)
  | 3 =>
    match s.cohTrs.find? (fun t => t.id == r.ref_) with
    | some t => if res = 0 then s.cohFlip t else s.cohFail t res
    | none => s
  | 4 => if res = 0 then { s with detected := s.detected ++ [(pkg, r.ref_)] } else s
  | _ =>
    if res = 0 then s.startMove pkg
    else
      match s.pkg? pkg with
      | some p => (s.modPkg pkg (fun p => { p with move := none })).mbxDone pkg (.pf p.pfMbx.port) res []
      | none => s

/-- R287: the MP completes a request in hardware. -/
def State.haHardware (s : State) (pkg : Nat) (r : HaReq) : State :=
  let s1 := (s.dropHa pkg r).modPkg pkg (fun p => { p with mp := { p.mp with fallback := true } })
  match r.func with
  | 0 => s1.modPkg pkg (fun p =>
      { p with faults := p.faults.map (fun f => if f.id == r.ref_ then { f with host := false } else f) })
  | 3 => { s1 with cohTrs := s1.cohTrs.map (fun t => if t.id == r.ref_ then { t with host := false } else t) }
  | _ => s1.haDone pkg r 0

/-- R259: the codes with which a request may end; that of a COHSET must be one that reaches a trap. Any other RESULT is refused
(DESIGN CHOICE, notes/assumptions/83.md). -/
def haResultOk (func res : Nat) : Bool :=
  let traps : List Nat := [1, 2, 3, 4, 5, 6, 7, 8, 9, 10, 12, 13, 14, 15, 16, 17, 19, 20, 21]
  res == 0 || traps.contains res || (func != 3 && [11, 18, 22, 23, 24, 26].contains res)

/-- R285, R287: HACOMP: the request that an event of the issuing PF named ends. A PARTMOVE in progress holds the PF mailbox,
so its own completion is given through HA_TIMEOUT or a mailbox that is free (DEDUCED, notes/assumptions/31.md). -/
def execHacomp (pkg : Nat) (win : Window) (s : State) : Host.Outcome State Fault Refusal :=
  .next (mbxCommand s pkg win 5 (fun p c =>
    let ev : W := BitVec.ofNat 32 (blkU c 8 4)
    match p.haReqs.find? (fun r => r.posted == some (p.pfMbx.port, ev)) with
    | some r =>
      if haResultOk r.func (blkU c 0x0C 1) then ((s.dropHa pkg r).mbxDone pkg win 0 []).haDone pkg r (blkU c 0x0C 1)
      else s.mbxFail pkg win mbxErrors
    | none => s.mbxDone pkg win 0x17 []))

/-- R287, R288: the port whose ring takes the next event. -/
def Pkg.haPort (p : Pkg) : Nat := if p.hsem.holder = 2 then 1 else 0

/-- R288: the oldest request whose event is not yet written. -/
def Pkg.haNext (p : Pkg) : Option HaReq := p.haReqs.find? (fun r => r.posted.isNone)

/-- R288: whether a ring has room for an event. -/
def HaRing.room (h : HaRing) : Bool := decide ((h.head - h.tail).toNat < 2 ^ h.log2n.toNat)

/-- R288: the number after one, which skips 0. -/
def nextEvno (n : W) : W := if n = 0xFFFFFFFF then 1 else n + 1

/-- R288: the 64 bytes of an event. -/
def HaReq.bytes (r : HaReq) (ev : W) : List Byte :=
  toLE 4 ev.toNat ++ toLE 1 r.func ++ toLE 1 r.vf ++ toLE 2 0 ++ toLE 8 r.addr.toNat ++ toLE 8 r.data.toNat ++
  List.replicate 40 0

/-- R287, R288: HA_EVENT_WRITE. -/
def execHaEventWrite (pkg : Nat) (s : State) : Host.Outcome State Fault Refusal :=
  .next (
    match s.pkg? pkg with
    | none => s
    | some p =>
      match p.haNext with
      | none => s
      | some r =>
        let k := p.haPort
        let h := p.ha[k]?.getD HaRing.reset
        if h.log2n = 0 then s.haHardware pkg r
        else if !h.room then s
        else
          let at_ := (h.base.toNat + 64 * (h.head.toNat % 2 ^ h.log2n.toNat)) % 2 ^ 64
          let put (x : HaReq) : HaReq :=
            if x.func == r.func && x.ref_ == r.ref_ then { x with posted := some (k, h.nextEv) } else x
          let s1 : State := { s with host := Memory.writeN s.host at_ (r.bytes h.nextEv) }
          (s1.modPkg pkg (fun p =>
            { p with haReqs := p.haReqs.map put
                     ha := p.ha.setIfInBounds k { h with head := h.head + 1, nextEv := nextEvno h.nextEv } })).emit
            (.msix pkg k 0))

/-- R286, R287: whether a request has waited for the host longer than HATMO. -/
def HaReq.late (r : HaReq) (now : Nat) : Bool := decide (r.raisedAt + r.tmo < now)

/-- R287: HA_TIMEOUT. -/
def execHaTimeout (pkg : Nat) (s : State) : Host.Outcome State Fault Refusal :=
  .next (
    match s.pkg? pkg with
    | none => s
    | some p =>
      match p.haReqs.find? (fun r => r.late s.aclk) with
      | some r => s.haHardware pkg r
      | none => s)

/-! ### HSEM (R282) -/

/-- R282: a port reads HSEM; a read that returns 0 grants it. -/
def State.hsemRead (s : State) (pkg port : Nat) : State :=
  s.whenAnswers pkg port (fun p =>
    if 2 ≤ port || p.recovery then s
    else
      (s.modPkg pkg (fun p =>
        if p.hsem.holder = 0 then { p with hsem := { p.hsem with holder := port + 1, since := s.aclk } } else p)).emit
        (.readData pkg port (toLE 4 p.hsem.regRead.toNat)))

/-- R282: HSEM_ACQUIRE. -/
def execHsemAcquire (pkg port : Nat) (s : State) : Host.Outcome State Fault Refusal := .next (s.hsemRead pkg port)

/-- R281, R298: what a host port reads at an offset of the MP space, or of a VF's window; in recovery only the mailbox
answers. -/
def Pkg.hostReg (p : Pkg) (port : Nat) (vf : Option Nat) (off : Nat) : W :=
  match vf with
  | none => if p.recovery && !(decide (0x40 ≤ off) && decide (off < 0x98)) then 0 else p.mpRead port none off
  | some v => if p.recovery then 0 else p.vfWinRead v off

/-- R281, R282, R299: a host port reads `len` bytes of registers, which are zeros where they are not four. -/
def State.hostRegRead (s : State) (pkg port : Nat) (vf : Option Nat) (off len : Nat) : State :=
  if vf = none ∧ off = 0 ∧ len = 4 then s.hsemRead pkg port
  else
    s.whenAnswers pkg port (fun p =>
      if 2 ≤ port then s
      else s.emit (.readData pkg port (if len = 4 then toLE 4 (p.hostReg port vf off).toNat else toLE len 0)))

/-- R282: HSEM_RELEASE: a port writes 1 to HSEM_REL. -/
def execHsemRelease (pkg port : Nat) (s : State) : Host.Outcome State Fault Refusal :=
  .next (s.whenAnswers pkg port (fun p => if p.recovery then s else s.modPkg pkg (fun p => p.hsemRel port)))

/-- R282: whether the hold has lasted longer than TMO. -/
def Hsem.late (h : Hsem) (now : Nat) : Bool := h.holder != 0 && decide (h.since + 1300000 * h.tmo.toNat < now)

/-- R282: HSEM_TIMEOUT. -/
def execHsemTimeout (pkg : Nat) (s : State) : Host.Outcome State Fault Refusal :=
  .next (s.modPkg pkg (fun p =>
    if p.hsem.late s.aclk then
      { p with hsem := { p.hsem with
        holder := 0, broken0 := p.hsem.broken0 || p.hsem.holder == 1, broken1 := p.hsem.broken1 || p.hsem.holder == 2 } }
    else p))

end Sys2Proof.Machine
end

