-- ==== Sys2Proof/Machine/HostIo.lean ====
section
/-!
DEFINITION. Sys2Proof/Machine/HostIo.lean: the answers of the page-fault service (R266), the end of a page's return copy
(R159), and the host's accesses to control space (R195, R102, R285).
-/
namespace Sys2Proof.Machine

/-! ### Page-fault service (R266, R267) -/

/-- R266, R286: the open request of this number that hardware or firmware answers. -/
def Pkg.openFault (p : Pkg) (req : Nat) : Bool := p.faults.any (fun f => f.id == req && !f.host && !f.failed)

/-- R266, R267: PAGE_FAULT_SERVICED: the service writes a page-table entry, and the waiters issue again. -/
def execPageFaultServiced (pkg req at_ : Nat) (entry : DW) (s : State) : Host.Outcome State Fault Refusal :=
  .next (
    match s.pkg? pkg with
    | some p =>
      if p.openFault req && at_ % 8 == 0 && s.ctlPaOk at_ then (s.serveLeaf pkg at_ entry).dropFault pkg req else s
    | none => s)

/-- R266: PAGE_FAULT_UNRESOLVABLE. -/
def execPageFaultUnresolvable (pkg req : Nat) (s : State) : Host.Outcome State Fault Refusal :=
  .next (
    match s.pkg? pkg with
    | some p => if p.openFault req then s.failFault pkg req else s
    | none => s)

/-! ### Return copies (R157 to R159) -/

/-- R88, R157, R404: the status of the return copy of an entry: of an instance that is neither open nor available it is
HANDLE. A move that the MP makes itself has no copy and is done. -/
def State.transitStatus (s : State) (t : Transit) : Option W :=
  if t.inst = 0 then some 1
  else
    match s.inst? t.inst with
    | some x => x.status
    | none => some (statusWord Cause.handle 0)

/-- R159: TRANSIT_COPY_RESOLVE: the final leaf is written, or INVALID on an error; the page's translations go, and the
entry is free. -/
def execTransitCopyResolve (pkg idx : Nat) (s : State) : Host.Outcome State Fault Refusal :=
  .next (
    match s.transitFind pkg idx with
    | none => s
    | some t =>
      match s.transitStatus t with
      | none => s
      | some st =>
        let e := if st.getLsbD 1 then t.leaf &&& 0xFFFFFFFFFFFFFFFC else t.leaf
        let size : Nat := 2 ^ (PgSize.ofCode (t.leaf.extractLsb' 2 2).toNat).log2
        let s1 := (s.serveLeaf pkg t.leafAt e).tlbDrop t.asid false t.va size
        s1.modPkg pkg (fun p => { p with transit := p.transit.filter (fun x => x.idx != idx) }))

/-! ### Host accesses (R195) -/

/-- R102, R285: whether a control address lies in the pending word of a queue. -/
def State.inPending (s : State) (a : Nat) : Bool :=
  s.pkgs.any (fun p => p.queues.any (fun q =>
    match s.pendingPa p.num q with
    | some w => decide (w ≤ a) && decide (a < w + 4)
    | none => false))

/-- R102, R285: a byte as a host write leaves it: in a pending word it is an OR. -/
def State.hostByte (s : State) (a : Nat) (b : Byte) : Byte :=
  if s.inPending a then Memory.read s.ctl a ||| b else b

/-- R162, R189, R293: whether something holds a host access to a control address. -/
def State.hostHeld (s : State) (a : Nat) (write : Bool) : Bool :=
  (s.transitionOf a).isSome || s.promoting.contains (a / 2 ^ 33) || (write && (s.snapOf .ctl a).isSome)

/-- R134: whether every byte of a range is backed control space. -/
def State.ctlRangeOk (s : State) (a n : Nat) : Bool := n != 0 && s.ctlPaOk a && s.ctlPaOk (a + n - 1)

/-- R195: a host access carried out. -/
def State.hostDo (s : State) (r : HostReq) : State :=
  if r.write then
    let n := r.bytes.length
    let bs := (List.range n).map (fun i => s.hostByte (r.addr + i) (r.bytes.getD i 0))
    (((s.homeWrite .ctl r.addr bs).hostLines r.pkg r.addr n true).clearPoison [(.ctl r.addr 0, n)]).exchange
      .ctl r.pkg r.addr bs []
  else
    let bs := s.homeRead .ctl r.addr r.len
    ((s.hostLines r.pkg r.addr r.len false).exchange .ctl r.pkg r.addr [] bs).emit (.readData r.pkg r.port bs)

/-- R189, R195: whether a host access waits: something holds one of its lines, or a write that its port has posted
before it still waits (DESIGN CHOICE, notes/assumptions/52.md). -/
def State.hostWaits (s : State) (before : List HostReq) (r : HostReq) : Bool :=
  before.any (fun x => x.pkg == r.pkg && x.port == r.port && x.write) ||
  (linesOf r.addr (if r.write then r.bytes.length else r.len)).any (fun l => s.hostHeld (128 * l) r.write)

/-- R189, R195: a host access comes in: it is carried out, or waits. -/
def State.hostAsk (s : State) (r : HostReq) : State :=
  if s.hostWaits s.hostQ r then { s with hostQ := s.hostQ ++ [r] } else s.hostDo r

/-- R189, R195: the first waiting access that may be carried out now, with the list that then still waits. -/
def State.hostNext (s : State) : List HostReq → List HostReq → Option (HostReq × List HostReq)
  | _, [] => none
  | before, r :: rest =>
    if s.hostWaits before r then s.hostNext (before ++ [r]) rest else some (r, before ++ rest)

/-- R298, R299: whether a package offers its host ports more than a recovery function. -/
def State.offers (s : State) (pkg : Nat) : Bool := (s.pkg? pkg).any Pkg.offers

/-- R102, R195, R285: HOST_MEMORY_WRITE: a posted write of a host port to a control physical address. -/
def execHostMemoryWrite (pkg port addr : Nat) (bytes : List Byte) (s : State) : Host.Outcome State Fault Refusal :=
  .next (
    if 2 ≤ port || !s.offers pkg || !s.ctlRangeOk addr bytes.length then s
    else s.hostAsk { pkg := pkg, port := port, write := true, addr := addr, bytes := bytes, len := 0 })

/-- R195: HOST_MEMORY_READ. -/
def execHostMemoryRead (pkg port addr len : Nat) (s : State) : Host.Outcome State Fault Refusal :=
  .next (
    if 2 ≤ port || !s.offers pkg || !s.ctlRangeOk addr len then s
    else s.hostAsk { pkg := pkg, port := port, write := false, addr := addr, bytes := [], len := len })

end Sys2Proof.Machine
end

