-- ==== Sys2Proof/Machine/Errors.lean ====
section
/-!
DEFINITION. Sys2Proof/Machine/Errors.lean: errors and retirement (R277, R279, R297), bring-up (R298, R299), the function-level
reset of a VF (R116, R220) and power (R300).
-/
namespace Sys2Proof.Machine

/-! ### ECC (R277, R279) -/

/-- R277: whether the unit of an error lies on a package. -/
def State.unitOn (s : State) (pkg : Nat) (u : EccUnit) : Bool :=
  match u with
  | .ctl l => s.ctlPaOk (128 * l) && s.homeOf (128 * l / 2 ^ 33) == pkg
  | .ten l => s.tenPaOk (128 * l) && 128 * l / 2 ^ 40 == pkg
  | .bead k n =>
    match s.crew? k with
    | some c => c.pkg == pkg && decide (16 * (n + 1) ≤ c.size)
    | none => false
  | .reg i r l =>
    match s.agent? i with
    | some a => a.pkg == pkg && !a.isCc && decide (r < a.nregs) && decide (l < 32)
    | none => false
  | .sreg i r =>
    match s.agent? i with
    | some a => a.pkg == pkg && decide (r < 64)
    | none => false
  | .l1 core ten line =>
    match s.pkg? pkg with
    | some p => (p.l1Find core (if ten then .ten else .ctl) line).isSome ||
        (!ten && p.hard.any (fun c => c.core == core && c.line == line))
    | none => false
  | .l2 ten l =>
    if ten then s.tenPaOk (128 * l) && 128 * l / 2 ^ 40 == pkg
    else s.ctlPaOk (128 * l) && s.homeOf (128 * l / 2 ^ 33) == pkg
  | .table => (s.pkg? pkg).isSome

/-- R279: the 64 KiB page of a unit in HBM; an L1 or L2 copy of a line counts to no page (DESIGN CHOICE,
notes/assumptions/110.md). -/
def unitPage (u : EccUnit) : Option Nat :=
  match u with
  | .ctl l => some (pageId .ctl (128 * l))
  | .ten l => some (pageId .ten (128 * l))
  | .bead _ _ => none
  | .reg _ _ _ => none
  | .sreg _ _ => none
  | .l1 _ _ _ => none
  | .l2 _ _ => none
  | .table => none

/-- A counter that saturates. -/
def satInc (x : W) : W := if x = 0xFFFFFFFF then x else x + 1

/-- R279: a correctable error of a page logged; errors older than the longest window are forgotten. -/
def Pkg.logCe (p : Pkg) (page now : Nat) : Pkg :=
  { p with ceLog := (page, now) :: p.ceLog.filter (fun x => decide (now ≤ x.2 + 65535 * secondTime)) }

/-- R279, R286, R288: a page is retired, by the MP or through the host. -/
def State.askRetire (s : State) (pkg page : Nat) : State :=
  match s.pkg? pkg with
  | none => s
  | some p =>
    if p.retired.contains page || p.haOpen 2 page then s
    else if !p.mp.ret then s.retirePage pkg page
    else s.raiseHa pkg 2 0xFF (toDW (pageOfId page).2) (toDW (65536 * (p.ceCount page s.aclk % 65536))) page

/-- R279: a page retired if its errors within the window are more than PGTHR. -/
def State.testPage (s : State) (pkg page : Nat) : State :=
  match s.pkg? pkg with
  | some p => if p.mp.pgthr.toNat < p.ceCount page s.aclk then s.askRetire pkg page else s
  | none => s

/-- R279: every page with errors and every bank with retired pages held to the thresholds. -/
def State.testThresholds (s : State) (pkg : Nat) : State :=
  match s.pkg? pkg with
  | some p =>
    let s1 := (p.ceLog.map (fun x => x.1)).eraseDups.foldl (fun s k => s.testPage pkg k) s
    (p.retired.map Config.bankOf).eraseDups.foldl (fun s b => s.askRetireBank pkg b) s1
  | none => s

/-- R281, R299, R488: a register of the MP space written. WINDOW, PGTHR and BKTHR count from the write on (R279). -/
def State.mpWrite (s : State) (pkg : Nat) (port : Option Nat) (off : Nat) (v : W) : State :=
  let s1 := s.modPkg pkg (fun p => p.mpWrite port s.aclk off v)
  if off = 0x300 then s1.testThresholds pkg else s1

/-- The host port that an access through a window comes from; a VF's come through port 0. -/
def windowPort (win : Window) : Nat :=
  match win with
  | .pf port => port
  | .vf _ => 0

/-- R281, R299, R488: CONFIG_REGISTER_WRITE: a host write through a PF or a VF; only one of four bytes reaches a register. -/
def execConfigRegisterWrite (pkg : Nat) (win : Window) (off : Nat) (bytes : List Byte) (s : State) :
    Host.Outcome State Fault Refusal :=
  .next (s.whenAnswers pkg (windowPort win) (fun p =>
    if bytes.length ≠ 4 then s
    else
      let v : W := BitVec.ofNat 32 (leNat bytes)
      match win with
      | .pf port => s.mpWrite pkg (some port) off v
      | .vf k => s.modPkg pkg (fun _ => p.vfWinWrite k off v)))

/-- R277, R279: ECC_CORRECTABLE. -/
def execEccCorrectable (pkg : Nat) (u : EccUnit) (s : State) : Host.Outcome State Fault Refusal :=
  .next (
    if !s.unitOn pkg u then s
    else
      let s1 := s.modPkg pkg (fun p => { p with mp := { p.mp with errCe := satInc p.mp.errCe } })
      match unitPage u with
      | none => s1
      | some k =>
        (s1.modPkg pkg (fun p => p.logCe k s.aclk)).testPage pkg k)

/-- R277: what a poisoned granule reads as. -/
def poisonWord : W := 0x7FC00BAD

/-- R277: a core's copy poisoned: an L1 copy of a tensor or SOFT line; of a HARD or PRIVATE line a clean copy, or the line
itself where the copy is the only one (M, O). -/
def State.poisonCopy (s : State) (pkg core : Nat) (sp : Space) (line : Nat) : State :=
  match s.pkg? pkg with
  | none => s
  | some p =>
    if (p.l1Find core sp line).isSome then s.l1Map pkg core sp line (fun x => { x with poison := true })
    else if p.hard.any (fun c => c.core == core && c.line == line && (c.st == .m || c.st == .o)) then s.poisonLine sp line
    else s.modPkg pkg (fun p => { p with hard := p.hard.map (fun c =>
      if c.core == core && c.line == line then { c with poison := true } else c) })

/-- R277: a lane of a register poisoned: no write of the group, so that an operand of an MMA stays one (R182, R426). -/
def Agent.poisonLane (a : Agent) (r l : Nat) : Agent :=
  match a.v[r]? with
  | some row =>
    { a with v := a.v.setIfInBounds r (row.setIfInBounds l poisonWord), vpoison := setInsert (32 * r + l) a.vpoison }
  | none => a

/-- R277: a unit poisoned. A poisoned register reads as 0x7FC00BAD. The rule gives a table memory no unit, so an error
there is counted only (DEDUCED, notes/assumptions/67.md). -/
def State.poisonUnit (s : State) (pkg : Nat) (u : EccUnit) : State :=
  match u with
  | .ctl l => s.poisonLine .ctl l
  | .ten l => s.poisonLine .ten l
  | .bead k n => s.modCrew k (fun c => c.poisonBeads (16 * n) 16)
  | .reg i r l => s.modAgent i (fun a => a.poisonLane r l)
  | .sreg i r => s.modAgent i (fun a => a.setS r poisonWord)
  | .l1 core ten line => s.poisonCopy pkg core (if ten then .ten else .ctl) line
  | .l2 ten line => s.poisonLine (if ten then .ten else .ctl) line
  | .table => s

/-- R277, R279: ECC_UNCORRECTABLE. -/
def execEccUncorrectable (pkg : Nat) (u : EccUnit) (s : State) : Host.Outcome State Fault Refusal :=
  .next (
    if !s.unitOn pkg u then s
    else
      let s1 := (s.modPkg pkg (fun p => { p with mp := { p.mp with errUe := satInc p.mp.errUe } })).poisonUnit pkg u
      match unitPage u with
      | none => s1
      | some k => s1.askRetire pkg k)

/-- R297: PATROL_SCRUB: a read of all of HBM changes nothing; an error that it finds is an event of its own. -/
def execPatrolScrub (_pkg : Nat) (s : State) : Host.Outcome State Fault Refusal := .next s

/-! ### Bring-up (R298, R299) -/

/-- R5, R224, R247: table and replay bases without the bits that are reserved. -/
def Vf.legal (v : Vf) : Vf :=
  { v with lkBase := v.lkBase >>> 16 <<< 16, rpBase := v.rpBase >>> 22 <<< 22 }

/-- R10, R17, R299 steps 1 to 4: the registers of a package with what fuses and firmware supply; its VFs follow in step 6. -/
def Pkg.bringUp (p : Pkg) (now : Nat) : Pkg :=
  let b : Boot := { p.boot with
    image := match p.boot.staged with
      | some i => i
      | none => p.boot.image
    staged := none }
  let ok := Config.verifies b.image
  { Pkg.reset with
    num := p.num, mirror := p.num, recovery := !ok, boot := b, clk0 := now,
    sets := if ok then b.sets else Pkg.reset.sets,
    vfs := if ok then b.vfs.map (fun v => { v.legal with enabled := false }) else Pkg.reset.vfs,
    slt := { Slt.reset with slotlen := b.slotlen, pSlotlen := b.slotlen } }

/-- The memory that a package holds is gone. -/
def Mem.clear (m : Mem) (lo hi : Nat) : Mem := m.filter (fun x => decide (x.1 < lo) || decide (hi ≤ x.1))

/-- R292: everything of a package that is not its registers goes: its agents, crews, launches, commands and what is on its way
to it. The merges and increments that its commands have sent to other packages have been accepted there, and land. -/
def State.dropPkgWork (s : State) (pkg : Nat) : State :=
  let s := (s.launches.filter (fun l => l.pkg == pkg)).foldl State.spoilBy s
  { s with
    agents := s.agents.filter (fun a => a.pkg != pkg)
    crews := s.crews.filter (fun c => c.pkg != pkg)
    launches := s.launches.filter (fun l => l.pkg != pkg)
    insts := s.insts.filter (fun x => s.agents.any (fun a => a.id == x.agent && a.pkg != pkg))
    cmds := s.cmds.filter (fun c => c.pkg != pkg)
    mmas := s.mmas.filter (fun m => m.pkg != pkg)
    accRes := s.accRes.filter (fun m => s.crews.any (fun c => c.id == m.crew && c.pkg != pkg))
    cohTrs := s.cohTrs.filter (fun t => t.pkg != pkg)
    tlbInvs := s.tlbInvs.filter (fun t => t.pkg != pkg)
    merges := s.merges.filter (fun m => m.pkg != pkg)
    incs := s.incs.filter (fun x => x.pkg != pkg)
    hostQ := s.hostQ.filter (fun x => x.pkg != pkg) }

/-- R295: the sixteen control cores of a package, numbered from `id` on as agents. -/
def Pkg.cores (p : Pkg) (id : Nat) (start : Bool) : List Agent :=
  (List.range 16).map (fun k => { Agent.controlCore p.boot p.num k start with id := id + k })

/-- R299: what a package that starts anew leaves of its work and its memory: nothing. -/
def State.wipe (s : State) (pkg : Nat) : State :=
  let s1 := s.dropPkgWork pkg
  { s1 with
    ctl := s1.ctl.clear (pkg * 2 ^ 33) ((pkg + 1) * 2 ^ 33)
    ten := s1.ten.clear (pkg * 2 ^ 40) ((pkg + 1) * 2 ^ 40)
    ctlPoison := rangesDrop (pkg * 2 ^ 31) ((pkg + 1) * 2 ^ 31) s1.ctlPoison
    tenPoison := rangesDrop (pkg * 2 ^ 38) ((pkg + 1) * 2 ^ 38) s1.tenPoison
    traffic := s1.traffic.filter (fun x => x.1 != pkg)
    spoiled := s1.spoiled.filter (fun q => !(q.place == .ctl && q.base / 2 ^ 33 == pkg || q.place == .ten && q.base / 2 ^ 40 == pkg)) }

/-- R299: PACKAGE_RESET: power-on bring-up up to step 4; its links are down, and its control cores start when its domain is
formed (R291). -/
def execPackageReset (pkg : Nat) (s : State) : Host.Outcome State Fault Refusal :=
  .next (
    match s.pkg? pkg with
    | none => s
    | some p =>
      let q := p.bringUp s.aclk
      let s1 := ((s.wipe pkg).modPkg pkg (fun _ => q)).cohWake
      { s1 with agents := s1.agents ++ q.cores s1.nextId false, nextId := s1.nextId + 16 })

/-! ### Function-level reset and power -/

/-- R116, R220: VF_FLR. -/
def execVfFlr (pkg vf : Nat) (s : State) : Host.Outcome State Fault Refusal :=
  .next (s.modVf pkg vf (fun v => { v with ctrs := [], demotes := 0 }))

/-- R300: POWER_THROTTLING: PWR_STAT takes the part of the issue slots gated in the last window; gating adds stall cycles
only (R28). -/
def execPowerThrottling (pkg : Nat) (gated : BitVec 8) (s : State) : Host.Outcome State Fault Refusal :=
  .next (s.modPkg pkg (fun p => { p with mp := { p.mp with gated := gated } }))

end Sys2Proof.Machine
end

