-- ==== Sys2Proof/Machine/Fabric.lean ====
section
/-!
DEFINITION. Sys2Proof/Machine/Fabric.lean: SPDM (R283), Bubuzar links (R289, R290), the formation of a domain (R291), and the
loss of a peer (R292, R293).
-/
namespace Sys2Proof.Machine

/-! ### SPDM (R283) -/

/-- R283: an SPDM response of a PF, by DMTF SPDM 1.3 (PRESUMED, notes/assumptions/17.md): a request out of its place in the
negotiation, or with bytes that are not to be had, gets ERROR. `need` is the stage of the port before it, `then_` the
stage after it. -/
def State.spdmAnswer (s : State) (pkg port code : Nat) (need : Nat → Bool) (then_ : Option Nat)
    (bytes : Pkg → Option (List Byte)) : State :=
  s.whenAnswers pkg port (fun p =>
    if 2 ≤ port || p.recovery then s
    else if !need (p.spdm[port]?.getD 0) then s.emit (.spdm pkg port 0x7F [0x04, 0x00])
    else
      match bytes p with
      | none => s.emit (.spdm pkg port 0x7F [0x01, 0x00])
      | some b =>
        (s.modPkg pkg (fun p => { p with spdm := match then_ with
          | some n => p.spdm.setIfInBounds port n
          | none => p.spdm })).emit (.spdm pkg port code b))

/-- R283: a measurement: 1 the image's digest, 2 the fuse state, 3 the digest of the setting table and MP_FNMODE; index 0
asks for their number and 0xFF for all of them. -/
def Pkg.measurement (p : Pkg) (i : Nat) : Option (List Byte) :=
  let one := Config.digest p.boot.image
  let two := toLE 8 p.boot.serial ++ p.boot.harvest.flatMap (fun k => toLE 1 k)
  let three :=
    Config.digest ((List.range 64).flatMap (fun k => (List.range 8).flatMap (fun i => toLE 4 ((p.setRow k).regRead i).toNat)) ++
      toLE 4 (p.mpRead 0 none 0x100).toNat)
  match i with
  | 0 => some [3]
  | 1 => some one
  | 2 => some two
  | 3 => some three
  | 0xFF => some (one ++ two ++ three)
  | _ => none

/-- R283: a signature with the package's identity key, which its fuse serial number names. -/
def Pkg.sign (p : Pkg) (m : List Byte) : List Byte := Config.signature (toLE 8 p.boot.serial ++ m)

/-- R283: SPDM_GET_VERSION: version 1.3; the negotiation starts anew. -/
def execSpdmGetVersion (pkg port : Nat) (s : State) : Host.Outcome State Fault Refusal :=
  .next (s.spdmAnswer pkg port 0x04 (fun _ => true) (some 1) (fun _ => some [0x13]))

/-- R283: SPDM_GET_CAPABILITIES: certificates, challenge, and measurements with signatures. -/
def execSpdmGetCapabilities (pkg port : Nat) (s : State) : Host.Outcome State Fault Refusal :=
  .next (s.spdmAnswer pkg port 0x61 (fun n => n == 1) (some 2) (fun _ => some (0x13 :: toLE 4 0x16)))

/-- R283: SPDM_NEGOTIATE_ALGORITHMS: the only algorithms are ECDSA on P-521 and SHA-512 (PRESUMED, notes/assumptions/17.md). -/
def execSpdmNegotiateAlgorithms (pkg port : Nat) (s : State) : Host.Outcome State Fault Refusal :=
  .next (s.spdmAnswer pkg port 0x63 (fun n => n == 2) (some 3) (fun _ => some (toLE 4 0x100 ++ toLE 4 4)))

/-- R283: SPDM_GET_DIGESTS: the digest of the chain in slot 0. -/
def execSpdmGetDigests (pkg port : Nat) (s : State) : Host.Outcome State Fault Refusal :=
  .next (s.spdmAnswer pkg port 0x01 (fun n => n == 3) none (fun p => some (Config.digest (Config.certChain p.boot.serial))))

/-- R283: SPDM_GET_CERTIFICATE: the chain in slot 0. -/
def execSpdmGetCertificate (pkg port : Nat) (s : State) : Host.Outcome State Fault Refusal :=
  .next (s.spdmAnswer pkg port 0x02 (fun n => n == 3) none (fun p => some (Config.certChain p.boot.serial)))

/-- R283: SPDM_CHALLENGE: the chain's digest and a signature over it and the nonce. -/
def execSpdmChallenge (pkg port : Nat) (nonce : List Byte) (s : State) : Host.Outcome State Fault Refusal :=
  .next (s.spdmAnswer pkg port 0x03 (fun n => n == 3) none (fun p =>
    let d := Config.digest (Config.certChain p.boot.serial)
    some (d ++ p.sign (nonce ++ d))))

/-- R283: SPDM_GET_MEASUREMENTS: a measurement and a signature over it and the nonce. -/
def execSpdmGetMeasurements (pkg port index : Nat) (nonce : List Byte) (s : State) : Host.Outcome State Fault Refusal :=
  .next (s.spdmAnswer pkg port 0x60 (fun n => n == 3) none (fun p =>
    (p.measurement index).map (fun m => m ++ p.sign (nonce ++ m))))

/-! ### Links and routes (R289 to R291) -/

def Pkg.link (p : Pkg) (k : Nat) : Link := p.links[k]?.getD Link.reset
def Pkg.modLink (p : Pkg) (k : Nat) (f : Link → Link) : Pkg := { p with links := p.links.setIfInBounds k (f (p.link k)) }

/-- R291: the package and the link at the far end of a link that is up at both ends. -/
def State.farEnd (s : State) (p : Pkg) (k : Nat) : Option (Nat × Nat) :=
  if !(p.link k).up then none
  else
    (Config.linkPeer p.boot.serial k).bind (fun x =>
      (s.pkgs.find? (fun q => q.boot.serial == x.1 && q.formed && (q.link x.2).up)).map (fun q => (q.num, x.2)))

/-- R291: the links of a package with the packages that they lead to. -/
def State.neighbours (s : State) (n : Nat) : List (Nat × Nat) :=
  match s.pkg? n with
  | none => []
  | some p => (List.range 18).filterMap (fun k => (s.farEnd p k).map (fun x => (k, x.1)))

/-- R291: whether a route of at most so many hops leads from one package to another. -/
def State.reaches (s : State) (dst : Nat) : Nat → Nat → Bool
  | 0, n => n == dst
  | k + 1, n => n == dst || (s.neighbours n).any (fun x => s.reaches dst k x.2)

/-- R291: the link on which a package sends towards another: the first of a shortest route of at most four hops. -/
def State.nextHop (s : State) (n dst : Nat) : Option Nat :=
  (List.range 4).findSome? (fun h => ((s.neighbours n).find? (fun x => s.reaches dst h x.2)).map (fun x => x.1))

/-- R291, R292: the routes recomputed: each package notes since when it has had no route to another. -/
def State.noteRoutes (s : State) : State :=
  let gone (p : Pkg) : List (Nat × Nat) :=
    ((s.pkgs.filter (fun q => q.num != p.num && q.formed)).filter (fun q => !s.reaches q.num 4 p.num)).map (fun q =>
      (p.unreach.find? (fun x => x.1 == q.num)).getD (q.num, s.aclk))
  { s with pkgs := s.pkgs.map (fun p => if p.formed then { p with unreach := gone p } else p) }

/-! ### Flits (R289, R290) -/

/-- R289: the code of a KIND (DESIGN CHOICE, notes/assumptions/18.md: in the order in which the rule lists them). -/
def FlitKind.code (k : FlitKind) : Nat :=
  match k with
  | .request => 0
  | .response => 1
  | .data => 2
  | .atomic => 3
  | .credit => 4
  | .keepAlive => 5

/-- R289: the KIND of a code. -/
def flitKindOf (n : Nat) : FlitKind :=
  match n with
  | 0 => .request
  | 1 => .response
  | 2 => .data
  | 3 => .atomic
  | 4 => .credit
  | _ => .keepAlive

/-- R289: the first 248 bytes of a flit. -/
def Flit.body (f : Flit) (seq : Nat) : List Byte :=
  toLE 1 f.vc ++ toLE 1 f.kind.code ++ toLE 2 f.dst ++ toLE 2 f.src ++ toLE 2 seq ++ toLE 8 f.addr.toNat ++
  (f.payload ++ List.replicate (232 - f.payload.length) 0).take 232

/-- R289: the 256 bytes of a flit. -/
def Flit.bytes (f : Flit) (seq : Nat) : List Byte := f.body seq ++ toLE 8 (Config.crc (f.body seq)).toNat

/-- R289: the fields of a flit. -/
def flitOf (b : List Byte) : Flit :=
  { vc := blkU b 0 1 % 8, kind := flitKindOf (blkU b 1 1), dst := blkU b 2 2 % 512, src := blkU b 4 2 % 512,
    addr := blkA b 8, payload := (b.drop 16).take 232 }

/-- R289: whether a flit's CHK is the CRC of its other bytes. -/
def flitOk (b : List Byte) : Bool := blkU b 248 8 == (Config.crc (b.take 248)).toNat

/-- R289: whether a flit takes a credit of its virtual channel; credits and keep-alives take none. -/
def Flit.counted (f : Flit) : Bool := f.kind != .credit && f.kind != .keepAlive

/-- R289: whether a virtual channel of a link has a credit left. -/
def Link.credit (l : Link) (vc : Nat) : Bool := decide (l.used[vc]?.getD 0 < Config.linkCredits vc)

/-- R289, R290: the books of a link's end for a flit that it sends, which stays in its replay buffer where the far end is there.
-/
def Link.sent (l : Link) (f : Flit) (now : Nat) (far : Bool) : Link :=
  { l with
    txSeq := l.txSeq + 1
    lastTx := now
    used := if f.counted then l.used.setIfInBounds f.vc (l.used[f.vc]?.getD 0 + 1) else l.used
    replay := if far then l.replay ++ [(l.txSeq, f)] else l.replay }

/-- R289, R290: a flit goes out on a link, and is received at the far end. -/
def State.putFlit (s : State) (pkg k : Nat) (f : Flit) : State :=
  match s.pkg? pkg with
  | none => s
  | some p =>
    let far := s.farEnd p k
    let bs := f.bytes (p.link k).txSeq.toNat
    let s1 := (s.modPkg pkg (fun p => p.modLink k (fun l => l.sent f s.aclk far.isSome))).emit (.flit pkg k bs)
    match far with
    | some x => { s1 with agenda := s1.agenda ++ [.flit x.1 x.2 bs] }
    | none => s1

/-- R289: a flit is sent on a link, or waits there behind others of its channel for a credit. -/
def State.sendFlit (s : State) (pkg k : Nat) (f : Flit) : State :=
  match s.pkg? pkg with
  | none => s
  | some p =>
    let l := p.link k
    if !f.counted || (l.credit f.vc && !(l.wait.any (fun g => g.vc == f.vc))) then s.putFlit pkg k f
    else s.modPkg pkg (fun p => p.modLink k (fun l => { l with wait := l.wait ++ [f] }))

/-- R291: the links of the route from a package to another, of at most so many hops. -/
def State.routeLinks (s : State) (dst : Nat) : Nat → Nat → List (Nat × Nat)
  | 0, _ => []
  | h + 1, n =>
    match s.nextHop n dst, s.pkg? n with
    | some k, some p =>
      (n, k) :: (match s.farEnd p k with
        | some x => if x.1 = dst then [] else s.routeLinks dst h x.1
        | none => [])
    | _, _ => []

/-- R291: whether a flit is an earlier one than another of its VC from its source to its destination. -/
def Flit.before (g f : Flit) : Bool :=
  g.vc == f.vc && g.src == f.src && g.dst == f.dst && g.counted && f.counted && decide (g.ord < f.ord)

/-- R291: whether a flit that a package sends on its route might overtake an earlier one, which has still to be sent or is on
a link that the route does not take. -/
def State.overtakes (s : State) (pkg : Nat) (f : Flit) : Bool :=
  let route := s.routeLinks f.dst 4 pkg
  s.traffic.any (fun x => x.2.before f) ||
  s.pkgs.any (fun p => (List.range 18).any (fun k => !(route.contains (p.num, k)) && (p.link k).flits.any (fun g => g.before f)))

/-- R289: whether a flit serves a control line: on VC0 or VC1, or bytes that are written back or mirrored. -/
def Flit.ofCtl (f : Flit) : Bool := f.vc == 0 || f.vc == 1 || f.vc == 4 && f.kind == .data

/-- R293: whether a flit is for a control line whose new home is not promoted yet. -/
def State.homeStalls (s : State) (f : Flit) : Bool := f.ofCtl && s.promoting.contains (f.addr.toNat / 2 ^ 33)

/-- R290 to R293: a package sends, or forwards, a flit towards its destination; with no route, while it might overtake another, or
while its line waits for a home, the flit stays there. What goes to a lost package, or comes from one, is gone. -/
def State.forward (s : State) (pkg : Nat) (f : Flit) : State :=
  if s.lost.contains f.dst || s.lost.contains f.src then s
  else
    match if s.overtakes pkg f || s.homeStalls f then none else s.nextHop pkg f.dst with
    | some k => s.sendFlit pkg k f
    | none => { s with traffic := s.traffic ++ [(pkg, f)] }

/-- R291: whether a flit that a package has still to send can go. -/
def State.canGo (s : State) (x : Nat × Flit) : Bool :=
  s.lost.contains x.2.dst || s.lost.contains x.2.src || (!s.overtakes x.1 x.2 && !s.homeStalls x.2 && (s.nextHop x.1 x.2.dst).isSome)

/-- R291: a flit among others in the order of sending. -/
def inOrder (x : Nat × Flit) : List (Nat × Flit) → List (Nat × Flit)
  | [] => [x]
  | y :: r => if y.2.ord < x.2.ord then y :: inOrder x r else x :: y :: r

/-- R289, R291: what the packages have to send goes on its links, in order. -/
def State.sendTraffic (s : State) : State :=
  (s.traffic.foldr inOrder []).foldl (fun s x => s.forward x.1 x.2) { s with traffic := [] }

/-- R289: a credit of a virtual channel comes back: the oldest flit of the channel that waits is sent. -/
def State.takeCredit (s : State) (pkg k vc : Nat) : State :=
  let s1 := s.modPkg pkg (fun p => p.modLink k (fun l =>
    { l with used := l.used.setIfInBounds vc (l.used[vc]?.getD 0 - 1) }))
  match (s1.pkg? pkg).bind (fun p => (p.link k).wait.find? (fun g => g.vc == vc)) with
  | some f =>
    (s1.modPkg pkg (fun p => p.modLink k (fun l => { l with wait := l.wait.erase f }))).putFlit pkg k f
  | none => s1

/-- R290: the flits of a link's end that its far end has not accepted. Credits and keep-alives are the link's own. -/
def Link.unaccepted (l : Link) : List Flit := l.flits.filter Flit.counted

/-- R290 to R292: a link goes down at both ends: routes are recomputed, and what has not been accepted is sent on other routes. -/
def State.linkDown (s : State) (pkg k : Nat) : State :=
  match s.pkg? pkg with
  | none => s
  | some p =>
    let ends := (pkg, k) :: (s.farEnd p k).toList
    let again := ends.flatMap (fun x =>
      match s.pkg? x.1 with
      | some q => (q.link x.2).unaccepted.map (fun f => (x.1, f))
      | none => [])
    let down (s : State) (x : Nat × Nat) : State :=
      s.modPkg x.1 (fun q => q.modLink x.2 (fun l =>
        { l with up := false, fails := 0, used := Vector.replicate 6 0, wait := [], replay := [] }))
    { (ends.foldl down s).noteRoutes with traffic := s.traffic ++ again }.sendTraffic

/-- R290: a chunk dropped after eight failures: its command, which has not got past it, stops there with ENGINE_FAULT; that of
a participant whose collective has not started fails the collective (R216). The flit of an access of a core is of no command's chunk (DESIGN CHOICE, notes/assumptions/18.md). -/
def State.dropChunk (s : State) (f : Flit) : State :=
  match f.cmd.bind (fun i => s.cmd? i) with
  | none => s
  | some c =>
    if c.kind == .coll && !c.started && (c.phase == .queued || c.phase == .joining) then s.collStop c Cause.engineFault
    else if c.phase == .running || c.phase == .suspended || c.phase == .queued then
      let r := s.fresh
      r.2.modCmd c.inst (fun c => { (c.stopped r.1 Cause.engineFault 0) with sent := false })
    else s

/-- R289, R291, R292: what a good flit brings: a credit; a flit for another package goes on towards it; what a core's flit for
this package carries was performed when it was sent, and what a command's carries is performed once all of its chunk's have been
accepted (DESIGN CHOICE, notes/assumptions/9.md). Flits of a lost package bring nothing. A flit that took a credit gives it
back. -/
def State.acceptFlit (s : State) (pkg k : Nat) (f : Flit) : State :=
  let back : Flit := { vc := f.vc, kind := .credit, dst := f.src, src := pkg, addr := 0, payload := [] }
  let s1 := if f.counted then s.putFlit pkg k back else s
  if s.lost.contains f.src then s1
  else if f.kind = .credit then s.takeCredit pkg k f.vc
  else if f.dst = pkg || !f.counted then s1 else s1.forward pkg f

/-- R290: the flits that the far end of a package's link has sent and the package has not accepted. -/
def State.sentTo (s : State) (p : Pkg) (k : Nat) : List (BitVec 16 × Flit) :=
  match s.farEnd p k with
  | some x => ((s.pkg? x.1).map (fun q => (q.link x.2).replay)).getD []
  | none => []

/-- R290: the flit of 256 good bytes: as the far end's replay buffer keeps it, else as its fields say. -/
def State.arrived (s : State) (p : Pkg) (k : Nat) (bs : List Byte) : Flit :=
  (((s.sentTo p k).find? (fun y => y.2.bytes y.1.toNat == bs)).map (fun y => y.2)).getD (flitOf bs)

/-- R290: a flit leaves the replay buffer of the end that sent it. -/
def State.unreplay (s : State) (p : Pkg) (k : Nat) (seq : BitVec 16) : State :=
  match s.farEnd p k with
  | some x => s.modPkg x.1 (fun q => q.modLink x.2 (fun l => { l with replay := l.replay.filter (fun y => y.1 != seq) }))
  | none => s

/-- R289, R290: the credit of a flit that is dropped in the replay buffer of the end that sent it comes back there. -/
def State.dropCredit (s : State) (p : Pkg) (k : Nat) (x : BitVec 16 × Flit) : State :=
  match s.farEnd p k with
  | some y => if (s.sentTo p k).contains x && x.2.counted then s.takeCredit y.1 y.2 x.2.vc else s
  | none => s

/-- R290: a flit whose CHK failed is sent again from the replay buffer, unless it is on its way already. -/
def State.resend (s : State) (pkg k : Nat) (x : BitVec 16 × Flit) : State :=
  let again : Turn := .flit pkg k (x.2.bytes x.1.toNat)
  if s.agenda.contains again then s else { s with agenda := s.agenda ++ [again] }

/-- R290: a flit that is dropped at its eighth failure comes no more: it leaves its sender's replay buffer, which gets its credit
back, and no copy of it is on its way. -/
def State.dropFlit (s : State) (p : Pkg) (k : Nat) (x : BitVec 16 × Flit) : State :=
  let s1 := (s.dropCredit p k x).unreplay p k x.1
  ({ s1 with agenda := s1.agenda.filter (fun t => t != .flit p.num k (x.2.bytes x.1.toNat)) } : State).dropChunk x.2

/-- R289, R290, R292: FLIT_RECEIVE: a good flit is accepted; one whose CHK fails is retried from the sender's replay buffer, and
its eighth failure drops its chunk or the link. The flit that failed is the oldest of that buffer; where the model holds none,
its own VC, SRC and DST say what it was (DEDUCED, notes/assumptions/98.md). -/
def execFlitReceive (pkg link : Nat) (flit : List Byte) (s : State) : Host.Outcome State Fault Refusal :=
  .next (
    match s.pkg? pkg with
    | none => s
    | some p =>
      if 18 ≤ link || !(p.link link).up || flit.length ≠ 256 then s
      else
        let seq : BitVec 16 := BitVec.ofNat 16 (blkU flit 6 2)
        let got (fails : Nat) (seq : BitVec 16) : State :=
          s.modPkg pkg (fun p => p.modLink link (fun l => { l with lastRx := s.aclk, fails := fails, seq := seq }))
        let l := p.link link
        if flitOk flit then ((got 0 seq).unreplay p link seq).acceptFlit pkg link (s.arrived p link flit)
        else
          let x := ((s.sentTo p link).head?).getD (seq, flitOf flit)
          if l.fails + 1 < 8 then
            if (s.sentTo p link).isEmpty then got (l.fails + 1) l.seq else (got (l.fails + 1) l.seq).resend pkg link x
          else if x.2.vc = 2 ∨ x.2.vc = 3 then (got 0 l.seq).dropFlit p link x
          else s.linkDown pkg link)

/-- R290: aclk in 16 µs. -/
def linkQuiet : Nat := 20800

/-- R290: whether a link has been without a flit for too long. -/
def Link.silent (l : Link) (now : Nat) : Bool := l.up && decide (l.lastRx + linkQuiet ≤ now)

/-- R290: LINK_TIMEOUT. -/
def execLinkTimeout (pkg link : Nat) (s : State) : Host.Outcome State Fault Refusal :=
  .next (
    match s.pkg? pkg with
    | some p => if decide (link < 18) && (p.link link).silent s.aclk then s.linkDown pkg link else s
    | none => s)

/-- R290: aclk in 1 µs. -/
def keepTime : Nat := 1300

/-- R290: KEEPALIVE_SEND: an idle link sends a keep-alive flit on VC5 to its far end. -/
def execKeepaliveSend (pkg link : Nat) (s : State) : Host.Outcome State Fault Refusal :=
  .next (
    match s.pkg? pkg with
    | some p =>
      if decide (link < 18) && (p.link link).up && decide ((p.link link).lastTx + keepTime ≤ s.aclk) then
        s.putFlit pkg link { vc := 5, kind := .keepAlive, dst := ((s.farEnd p link).map (fun x => x.1)).getD pkg, src := pkg,
                             addr := 0, payload := [] }
      else s
    | none => s)

/-! ### The domain (R291) -/

/-- R293: the homes that a package holds. -/
def State.homesAt (s : State) (n : Nat) : List Nat :=
  ((n :: (s.homes.filter (fun x => x.2 == n)).map (fun x => x.1)).filter (fun h => s.homeOf h == n)).eraseDups

/-- R291: serial numbers in rising order, each once. -/
def serialOrder (l : List Nat) : List Nat := l.foldl (fun r n => setInsert n r) []

/-- R291, R299: a package that is brought up for the first time, with this fuse serial number. -/
def newPkg (serial now : Nat) : Pkg := ({ Pkg.reset with boot := { Boot.reset with serial := serial } }).bringUp now

/-- R298, R299: a member of a domain brought up again without a package reset: its image stays, and a staged one still waits for
the reset. -/
def Pkg.anew (p : Pkg) (now : Nat) : Pkg :=
  let q := ({ p with boot := { p.boot with staged := none } } : Pkg).bringUp now
  { q with boot := { q.boot with staged := p.boot.staged } }

/-- R291, R299: the package of a fuse serial number, as it stands before it joins a domain: that which has been reset, that which
a domain leaves out or renumbers, brought up again, or a new one. -/
def State.candidate (s : State) (serial : Nat) : Pkg :=
  match s.pkgs.find? (fun p => p.boot.serial == serial) with
  | some p => if p.formed then p.anew s.aclk else p
  | none => newPkg serial s.aclk

/-- R291, R298: the fuse serial numbers of a domain, in order: those of packages whose image verifies. -/
def State.admitted (s : State) (serials : List Nat) : List Nat :=
  (serialOrder serials).filter (fun n => !(s.candidate n).recovery)

/-- R291: whether a member of the domain keeps its place in this order. -/
def Pkg.keeps (p : Pkg) (order : List Nat) : Bool := p.formed && order[p.num]? == some p.boot.serial

/-- R291: a link of a member of a domain of these serial numbers: it is up where it leads to another member. -/
def Link.joined (l : Link) (up keep : Bool) (now : Nat) : Link :=
  if up && keep && l.up then l else { Link.reset with up := up, lastRx := now, lastTx := now }

/-- R17, R291: a member of a domain of these serial numbers. Its mirror partner is the next in number (DESIGN CHOICE,
notes/assumptions/99.md), and its links to other members are up. -/
def Pkg.joined (p : Pkg) (order : List Nat) (now : Nat) : Pkg :=
  let up (k : Nat) : Bool := (Config.linkPeer p.boot.serial k).any (fun x => order.contains x.1)
  { p with mirror := (p.num + 1) % order.length, formed := true, unreach := [],
           links := Vector.ofFn (fun k : Fin 18 => (p.link k.val).joined (up k.val) (p.keeps order) now) }

/-- R299 step 6: the VFs follow SR-IOV enabling, as the model presumes it (DESIGN CHOICE, notes/assumptions/3.md). -/
def Pkg.enumerated (p : Pkg) : Pkg :=
  { p with vfs := Vector.ofFn (fun k : Fin 128 => { p.vf k.val with enabled := (p.boot.vfs[k.val]?.getD Vf.reset).enabled }) }

/-- R291: the packages that join a domain of these serial numbers, by number. -/
def State.joining (s : State) (order : List Nat) : List Pkg :=
  ((List.range order.length).filter (fun i => !(s.pkgs.any (fun p => p.keeps order && p.num == i)))).map (fun i =>
    ({ s.candidate (order.getD i 0) with num := i } : Pkg).enumerated)

/-- R298: the packages whose image did not verify keep outside the domain, numbered after its members (DESIGN CHOICE,
notes/assumptions/18.md). -/
def State.aside (s : State) (order : List Nat) : List Pkg :=
  let l := s.pkgs.filter (fun p => !p.formed && p.recovery)
  ((List.range l.length).zip l).map (fun x => { x.2 with num := order.length + x.1 })

/-- R299 step 7: the control cores of packages that join; those whose image did not verify stay halted (R298). -/
def startCores : Nat → List Pkg → List Agent
  | _, [] => []
  | id, p :: r => p.cores id (!p.recovery) ++ startCores (id + 16) r

/-- R291, R293: the homes whose mirror copies are still to be made: those of members whose mirror partner changes. -/
def State.unmirrored (s : State) (order : List Nat) : List Nat :=
  ((s.pkgs.filter (fun p => p.keeps order && p.mirror != (p.num + 1) % order.length)).flatMap (fun p => s.homesAt p.num)).foldl
    (fun l h => setInsert h l) s.rebuilding

/-- R291, R292, R299: DOMAIN_FORM: the packages with these fuse serial numbers form one domain, numbered in their order; a lost
one among them is readmitted. A member that keeps its number goes on as it is. Every other package takes its number in step 5 of
its bring-up and starts anew, with its control cores at EVEC (DESIGN CHOICE, notes/assumptions/18.md: also one that was a member
under another number). -/
def execDomainForm (serials : List Nat) (s : State) : Host.Outcome State Fault Refusal :=
  .next (
    let order := s.admitted serials
    if order.isEmpty || decide (512 < order.length) then s
    else
      let old := s.pkgs.filter (fun p => p.keeps order)
      let add := s.joining order
      let out := s.aside order
      let s1 := (s.pkgs.filter (fun p => !p.keeps order)).foldl (fun s p => s.wipe p.num) s
      let stays (k : Nat) : Bool := old.any (fun p => p.num == k)
      let s2 := ({ s1 with
        pkgs := (old ++ add).map (fun p => p.joined order s.aclk) ++ out
        agents := s1.agents ++ startCores s1.nextId (add ++ out)
        nextId := s1.nextId + 16 * (add ++ out).length
        lost := s1.lost.filter (fun k => !decide (k < order.length))
        detected := s1.detected.filter (fun x => stays x.1 && stays x.2)
        promoting := s1.promoting.filter (fun k => decide (order.length ≤ k) || stays k)
        homes := s1.homes.filter (fun x => decide (order.length ≤ x.1) && stays x.2 || stays x.1 && stays x.2)
        rebuilding := s.unmirrored order } : State).noteRoutes
      (order.zipIdx.foldl (fun s x => s.agree x.2) s2).cohWake)

/-! ### Peer loss (R292, R293) -/

/-- R292: aclk in 100 µs. -/
def routeTime : Nat := 130000

/-- R292: whether every route to a peer has been down for long enough. -/
def Pkg.routeGone (p : Pkg) (peer now : Nat) : Bool :=
  p.unreach.any (fun x => x.1 == peer && decide (x.2 + routeTime ≤ now))

/-- R292: PEER_ROUTE_TIMEOUT. -/
def execPeerRouteTimeout (pkg peer : Nat) (s : State) : Host.Outcome State Fault Refusal :=
  .next (
    match s.pkg? pkg with
    | some p => if p.routeGone peer s.aclk then s.findLost pkg peer else s
    | none => s)

/-- R291: the next package after one, among those that are there. -/
def State.nextPkg (s : State) (n : Nat) : Option Nat :=
  let members := s.pkgs.filter (fun p => p.formed)
  let later := members.filter (fun p => decide (n < p.num))
  let least (l : List Pkg) : Option Nat :=
    l.foldl (fun (b : Option Nat) p => match b with
      | none => some p.num
      | some k => if p.num < k then some p.num else some k) none
  match least later with
  | some k => some k
  | none => least members

/-- R293: the lines of a home poisoned. -/
def poisonHome (l : List (Nat × Nat)) (h : Nat) : List (Nat × Nat) := rangesAdd (h * 2 ^ 31) ((h + 1) * 2 ^ 31) l

/-- R293: what becomes of one home that the lost package held: its mirror is promoted, or, where that is lost too or not
yet complete, its lines are poisoned and a survivor takes the home. Until its new mirror is complete it has none. -/
def State.loseHome (s : State) (mirror h : Nat) : State :=
  let goes (s : State) (k : Nat) : State :=
    { s with homes := (h, k) :: s.homes.filter (fun x => x.1 != h), rebuilding := setInsert h s.rebuilding }
  if s.pkgs.any (fun p => p.num == mirror) && !s.rebuilding.contains h then
    goes { s with promoting := setInsert h s.promoting } mirror
  else
    match s.nextPkg h with
    | some k => goes { s with ctlPoison := poisonHome s.ctlPoison h, promoting := s.promoting.filter (· != h) } k
    | none => s

/-- R292: armed sends whose DST lies on a lost package resolve with PEER_LOST. -/
def State.fenceSends (s : State) : State :=
  (s.cmds.filter (fun c => c.kind == .tsend && c.phase == .armed && s.dstLost c)).foldl
    (fun s c => s.refuseSend c Cause.peerLost 0) s

/-- R292, R219: collectives whose list names a lost package resolve with PEER_LOST at every survivor, whose destinations
are unpredictable. -/
def State.fenceColls (s : State) (peer : Nat) : State :=
  let named := s.cmds.filter (fun c => c.kind == .coll && c.pkg != peer && c.plist.contains peer)
  let live := named.filter (fun c => c.phase != .dead && c.phase != .reporting)
  let s1 := (live.foldl State.scramble s).collEnd live (fun _ => Cause.peerLost)
  { s1 with cmds := s1.cmds.filter (fun c => !(c.kind == .coll && c.phase == .dead && c.plist.contains peer)) }

/-- R292: a command whose increment or merge was on its way to a lost package ends with PEER_LOST. -/
def State.fenceIncs (s : State) (peer : Nat) : State :=
  let hit := (s.incs.filter (fun x => x.pkg == peer)).map (fun x => x.inst) ++
    (s.merges.filter (fun m => m.pkg == peer)).map (fun m => m.inst)
  let s1 := hit.eraseDups.foldl (fun s i =>
    let r := s.fresh
    r.2.modCmd i (fun c => c.stopped r.1 Cause.peerLost (blkDst c.blk))) s
  { s1 with incs := s1.incs.filter (fun x => x.pkg != peer), merges := s1.merges.filter (fun m => m.pkg != peer) }

/-- R291, R293: packages whose mirror partner is lost get a new one, and the copies of all the homes that they hold are rebuilt.
-/
def State.newMirrors (s : State) (peer : Nat) : State :=
  let up (p : Pkg) : Pkg := if p.mirror == peer then { p with mirror := (s.nextPkg p.num).getD p.num } else p
  let homes := (s.pkgs.filter (fun p => p.mirror == peer)).flatMap (fun p => s.homesAt p.num)
  { s with rebuilding := homes.foldl (fun l h => setInsert h l) s.rebuilding, pkgs := s.pkgs.map up }

/-- R27, R272: peer-loss recovery quiesces the running partitions of the survivors (DESIGN CHOICE, notes/assumptions/82.md). -/
def Pkg.peerPause (p : Pkg) (now : Nat) : Pkg := { p with parts := p.parts.map (fun q => q.pause .peer now) }

/-- R292: whether a flit like one of a command's chunk is still on its way. -/
def State.underway (s : State) (inst : Nat) (f : Flit) : Bool :=
  s.flits.any (fun g => g.cmd == some inst && g.vc == f.vc && g.kind == f.kind && g.src == f.src && g.dst == f.dst && g.addr == f.addr)

/-- R292: the bytes of `s`, with their poison, back in `t` where a flit would have written. -/
def State.unland (s t : State) (f : Flit) : State :=
  if f.kind = .atomic then t
  else
    let sp : Space := if f.vc = 2 then .ten else .ctl
    let a := f.addr.toNat
    let n := f.payload.length
    let back (l : List (Nat × Nat)) (g : Nat) : List (Nat × Nat) :=
      if rangesHas (s.poison sp) g then rangesAdd g (g + 1) l else rangesDrop g (g + 1) l
    (t.setMem sp (Memory.writeN (t.mem sp) a (Memory.readN (s.mem sp) a n))).setPoison sp
      (if n = 0 then t.poison sp else (rangeIncl (a / 4) ((a + n - 1) / 4)).foldl back (t.poison sp))

/-- R292: of a chunk that a lost package sent, what its accepted flits carry lands: their bytes, and a merge or an increment all
of whose flits were accepted (DESIGN CHOICE, notes/assumptions/50.md). -/
def State.landPart (c : Cmd) (go : State → State) (s : State) : State :=
  let t := go s
  let late := ((s.flitsFor t c.inst).map (fun x => x.2)).filter (fun f => f.src == c.pkg && s.underway c.inst f)
  let lateAt (pkg a n : Nat) : Bool :=
    late.any (fun f => f.kind == .atomic && f.dst == pkg && decide (a ≤ f.addr.toNat) && decide (f.addr.toNat < a + n))
  let u := late.foldl s.unland t
  { u with
    traffic := s.traffic
    merges := s.merges ++ (t.merges.drop s.merges.length).filter (fun m =>
      !lateAt m.pkg (s.lkAddr m.pkg m.vf m.idx) (8 * m.vals.length))
    incs := s.incs ++ (t.incs.drop s.incs.length).filter (fun x => !lateAt x.pkg (4096 * x.vf + x.ctr) 8) }

/-- R292: the chunks that a package's running commands have sent come about as far as their flits have been accepted. -/
def State.landChunks (s : State) (pkg : Nat) : State :=
  (s.cmds.filter (fun c => c.pkg == pkg && c.phase == .running && c.sent)).foldl (fun s c =>
    s.landPart c (fun s =>
      if c.kind = .coll then
        let r := State.collWrite c.inst chunkBytes s
        r.2.chunkMerge c r.1
      else State.oneChunk c chunkBytes s)) s

/-- R293: what becomes of a flit for a control line whose home was on a lost package: what a survivor sent goes to the new home,
also a store that the lost home had accepted and whose mirror update had not come, and the new home answers. -/
def State.rehome (s : State) (peer : Nat) (f : Flit) : Option Flit :=
  let home := s.homeAt .ctl f.addr.toNat
  let f1 : Option Flit :=
    if f.dst = peer then some { f with dst := home }
    else if f.src ≠ peer then none
    else
      match f.owner with
      | none => some { f with src := home }
      | some x => some { f with vc := 0, kind := .request, src := x, dst := home, owner := none }
  f1.filter (fun g => g.src != g.dst && !s.lost.contains g.src && !s.lost.contains g.dst)

/-- R293: the flits of `l` for the control lines of these homes are sent again. -/
def State.resendLost (s : State) (peer : Nat) (held : List Nat) (l : List Flit) : State :=
  let mine := l.filter (fun f => f.ofCtl && f.counted && held.contains (f.addr.toNat / 2 ^ 33))
  s.sendOut (((mine.map (fun f => (peer, f))).foldr inOrder []).filterMap (fun x => s.rehome peer x.2))

/-- R292, R293: PEER_LOSS_AGREE: the survivors agree on a lost package: what it sent and they have accepted lands, its tensor
traffic is fenced, their partitions are quiesced, its homes go to their mirrors, to which what was on its way to it is sent again. -/
def execPeerLossAgree (peer : Nat) (s : State) : Host.Outcome State Fault Refusal :=
  .next (
    match s.pkg? peer with
    | none => s
    | some p =>
      if !(s.detected.any (fun x => x.2 == peer)) then s
      else
        let held := s.homesAt peer
        let s1 := ((s.landChunks peer).fenceColls peer).fenceIncs peer
        let s2 : State := { s1.dropPkgWork peer with
          pkgs := (s1.pkgs.filter (fun q => q.num != peer)).map (fun q =>
            ({ q with unreach := q.unreach.filter (fun x => x.1 != peer) }).peerPause s.aclk)
          lost := setInsert peer s1.lost
          traffic := s1.traffic.filter (fun x => x.1 != peer && x.2.src != peer && x.2.dst != peer)
          detected := s1.detected.filter (fun x => x.1 != peer && x.2 != peer) }
        let s3 := held.foldl (fun s h => s.loseHome p.mirror h) s2
        let s4 := (((s3.newMirrors peer).fenceSends).cohWake).resendLost peer held s1.flits
        (s4.pkgs.filter (fun q => q.formed)).foldl (fun s q => s.agree q.num) s4)

/-- R293: HOME_PROMOTED: accesses to the home go on; its new mirror is built in the background. -/
def execHomePromoted (peer : Nat) (s : State) : Host.Outcome State Fault Refusal :=
  .next (
    if s.promoting.contains peer then
      { s with promoting := s.promoting.filter (· != peer) }
    else s)

/-- R293: MIRROR_REBUILD_DONE. -/
def execMirrorRebuildDone (peer : Nat) (s : State) : Host.Outcome State Fault Refusal :=
  .next ({ s with rebuilding := s.rebuilding.filter (· != peer) })

end Sys2Proof.Machine
end

