-- ==== Sys2Proof/Machine/Pred.lean ====
section
/-!
DEFINITION. Sys2Proof/Machine/Pred.lean: the words of class ALU that write or read predicates: ICMP (R410), FCMP (R383
to R385), PLOP (R438), BALLOT (R338) and PMOV (R439, R440).
-/
namespace Sys2Proof.Machine

/-- R313: the relation of ICMP. -/
def ICond.holds (c : ICond) (a b : W) : Bool :=
  match c with
  | .eq => a == b
  | .ne => a != b
  | .lt => decide (a.toInt < b.toInt)
  | .le => decide (a.toInt ≤ b.toInt)
  | .gt => decide (b.toInt < a.toInt)
  | .ge => decide (b.toInt ≤ a.toInt)
  | .ltn => decide (a.toNat < b.toNat)
  | .len => decide (a.toNat ≤ b.toNat)
  | .gtn => decide (b.toNat < a.toNat)
  | .gen => decide (b.toNat ≤ a.toNat)

/-- R313, R384: the relation of FCMP on values. -/
def FCond.holds (c : FCond) (a b : FVal) : Bool :=
  let un := a.isNan || b.isNan
  match c with
  | .eq => !un && a.eqv b
  | .ne => un || !a.eqv b
  | .lt => !un && a.lt b
  | .le => !un && !b.lt a
  | .gt => !un && b.lt a
  | .ge => !un && !a.lt b
  | .ltn => un || a.lt b
  | .len => un || !b.lt a
  | .gtn => un || b.lt a
  | .gen => un || !a.lt b
  | .un => un
  | .ord => !un

/-- R385: whether the relation sets SINV for a quiet NaN. -/
def FCond.signals (c : FCond) : Bool :=
  match c with
  | .lt | .le | .gt | .ge => true
  | _ => false

/-- R385: the flags of one comparison. -/
def FCond.flags (c : FCond) (a b : FVal) : W :=
  stickyBits false (a.isSig || b.isSig || (FCond.signals c && (a.isNan || b.isNan))) false false

/-- The lanes of a mask in which a test holds, as a mask. -/
def laneBits (m : W) (f : Nat → Bool) : W := maskOf ((lanesOf m).filter f)

/-- R410: ICMP, vector form. -/
def execIcmpV (g pd : Pred) (cc : ICond) (a : VReg) (b : VSrc) (s : State) : Host.Outcome State Fault Refusal :=
  vecWord s (a.toNat :: VSrc.regs b) (fun x sd c =>
    let m := activeMask x sd g
    (s.setAgent (x.setPred pd.toNat m
      (laneBits m (fun l => ICond.holds cc (x.vreg a.toNat l) (VSrc.get x b l))))).retire c)

/-- R410, R313: ICMP, scalar form: the one result in every active lane. -/
def execIcmpS (g pd : Pred) (cc : ICond) (a : SReg) (b : SSrc) (s : State) : Host.Outcome State Fault Refusal :=
  scalarWord s g (fun x sd c =>
    (s.setAgent (x.setPred pd.toNat (activeMask x sd g)
      (if ICond.holds cc (x.sreg a.toNat) (SSrc.get x b) then BitVec.allOnes 32 else 0))).retire c)

/-- R383 to R385: FCMP over the two values of each lane. -/
def fcmpWord (s : State) (g pd : Pred) (cc : FCond) (regs : List Nat) (va vb : Agent → Bool → Nat → FVal) :
    Host.Outcome State Fault Refusal :=
  vecWord s regs (fun x sd c =>
    let m := activeMask x sd g
    let ftz := fmtFtz sd.fmt
    ((s.setAgent (x.setPred pd.toNat m
      (laneBits m (fun l => FCond.holds cc (va x ftz l) (vb x ftz l))))).orFmt c
      (orFlags m (fun l => FCond.flags cc (va x ftz l) (vb x ftz l)))).retire c)

/-- R383: FCMP.F32. -/
def execFcmpF32 (g pd : Pred) (cc : FCond) (a : VReg) (b : VSrc) (s : State) : Host.Outcome State Fault Refusal :=
  fcmpWord s g pd cc (a.toNat :: VSrc.regs b)
    (fun x ftz l => Fmt.valueFtz ftz .fp32 (x.vreg a.toNat l).toNat)
    (fun x ftz l => Fmt.valueFtz ftz .fp32 (VSrc.get x b l).toNat)

/-- R383: FCMP.F64. -/
def execFcmpF64 (g pd : Pred) (cc : FCond) (a : VReg) (b : VSrc) (s : State) : Host.Outcome State Fault Refusal :=
  fcmpWord s g pd cc (a.toNat :: (a.toNat + 1) :: VSrc.regsD b)
    (fun x _ l => Fmt.value .fp64 (x.vpair a.toNat l).toNat)
    (fun x _ l => VSrc.valF64 x b l)

/-- R438: PLOP. -/
def execPlop (g pd : Pred) (lut : BitVec 4) (pa pb : Pred) (s : State) : Host.Outcome State Fault Refusal :=
  vecWord s [] (fun x sd c =>
    let m := activeMask x sd g
    (s.setAgent (x.setPred pd.toNat m (laneBits m (fun l =>
      lut.getLsbD ((if (x.pred pa.toNat).getLsbD l then 2 else 0) +
                   (if (x.pred pb.toNat).getLsbD l then 1 else 0)))))).retire c)

/-- R338: BALLOT. -/
def execBallot (g : Pred) (d : SReg) (p : Pred) (s : State) : Host.Outcome State Fault Refusal :=
  vecWord s [] (fun x sd c =>
    let m := activeMask x sd g
    (s.setAgent (if m = 0 then x else x.setS d.toNat (m &&& x.pred p.toNat))).retire c)

/-- R440: the predicates p7 to p0 of a lane in bits [7:0]. -/
def predByte (x : Agent) (l : Nat) : W :=
  (List.range 8).foldl (fun acc k => if (x.pred k).getLsbD l then acc ||| ((1 : W) <<< k) else acc) 0

/-- R440: PMOV.GET. -/
def execPmovGet (g : Pred) (d : VReg) (s : State) : Host.Outcome State Fault Refusal :=
  vecOp s g d.toNat [] predByte

/-- R440: p1 to p7 of the lanes of a mask from bits [7:1] of each lane's value. -/
def putPreds (x : Agent) (m : W) (f : Nat → W) : Agent :=
  [1, 2, 3, 4, 5, 6, 7].foldl (fun x k => x.setPred k m (laneBits m (fun l => (f l).getLsbD k))) x

/-- R440: PMOV.PUT. -/
def execPmovPut (g : Pred) (b : VSrc) (s : State) : Host.Outcome State Fault Refusal :=
  vecWord s (VSrc.regs b) (fun x sd c =>
    (s.setAgent (putPreds x (activeMask x sd g) (VSrc.get x b))).retire c)

/-- R440: PMOV.NZ. -/
def execPmovNz (g pd : Pred) (b : VSrc) (s : State) : Host.Outcome State Fault Refusal :=
  vecWord s (VSrc.regs b) (fun x sd c =>
    let m := activeMask x sd g
    (s.setAgent (x.setPred pd.toNat m (laneBits m (fun l => VSrc.get x b l != 0)))).retire c)

/-- R440: PMOV.MASK, the inverse of BALLOT. -/
def execPmovMask (g pd : Pred) (b : SSrc) (s : State) : Host.Outcome State Fault Refusal :=
  vecWord s [] (fun x sd c =>
    (s.setAgent (x.setPred pd.toNat (activeMask x sd g) (SSrc.get x b))).retire c)

end Sys2Proof.Machine
end

