-- ==== Sys2Proof/Machine/Qnt.lean ====
section
/-!
DEFINITION. Sys2Proof/Machine/Qnt.lean: QNT (R40, R254 to R258, R442, R443).
-/
namespace Sys2Proof.Machine

/-- One quantised value: the pattern, its flags, and whether it overflows. -/
structure Quant where
  bits : W
  flags : W
  ovf : Bool
deriving DecidableEq, Repr

/-- R255: a value quantised to a format other than E2M1X. -/
def quantOne (tf : Fmt) (rm : Rm) (ov : Ov) (ftz : Bool) (y : FVal) : Quant :=
  let k := convertTo tf rm ov ftz y
  { bits := BitVec.ofNat 32 k.bits, flags := k.flags, ovf := k.sov }

/-- R40: a magnitude compared with another, infinities included. -/
def magLt (a b : FVal) : Bool := a.abs.lt b.abs

/-- R40 step 3: the overflowing element of largest magnitude, the lowest on a tie. -/
def extraOf (ys : List FVal) (ovfs : List Bool) : Option Nat :=
  (List.range ys.length).foldl (fun best i =>
    if ovfs.getD i false then
      match best with
      | none => some i
      | some j => if magLt (ys.getD j (.fin false 0 0)) (ys.getD i (.fin false 0 0)) then some i else some j
    else best) none

/-- R40, R255: the E2M1X block of 32 scaled values: code in [3:0], SCALE in [15:8], X in [23:16] of each. -/
def quantBlock (rm : Rm) (ov : Ov) (scale : Byte) (ys : List FVal) : List Quant :=
  if ys.any FVal.isNan then
    ys.map (fun _ => { bits := 0xFF00, flags := stickyBits false true false false, ovf := false })
  else
    let es := ys.map (convertTo .e2m1 rm ov false)
    let extra := extraOf ys (es.map Conv.sov)
    let x : Conv :=
      match extra with
      | some i => convertTo .e4m3 .rne ov false (ys.getD i (.fin false 0 0))
      | none => Conv.plain 0
    let word (code : Nat) : W := BitVec.ofNat 32 (code + 256 * scale.toNat + 65536 * x.bits)
    (List.range ys.length).map (fun i =>
      if extra = some i then { bits := word 8, flags := x.flags, ovf := x.sov }
      else
        let e := es.getD i (Conv.plain 0)
        { bits := word (if e.bits = 8 then 0 else e.bits), flags := e.flags, ovf := e.sov })

/-- R255, R256: rows of 32 values quantised. -/
def quantRow (tf : Fmt) (rm : Rm) (ov : Ov) (ftz : Bool) (scale : Byte) (ys : List FVal) : List Quant :=
  if tf == .e2m1x then quantBlock rm ov scale ys else ys.map (quantOne tf rm ov ftz)

/-- R255: x × 2^(127 − SCALE), exactly. -/
def scaled (scale : Byte) (v : FVal) : FVal :=
  match v with
  | .fin n m e => .fin n m (e + 127 - scale.toNat)
  | _ => v

/-- R254: the control bits that must be zero. -/
def qntReserved : W := 0xFEF00000

/-- R255, R258, R442, R443: checks 4 and 5, the automatic rescale between them, which discards the core's copy so that the
group's next QNT quantises at the new scale, and the writing of the rows. Where only a spare of an inactive lane overflowed
(R256), TRAPDATA names the lowest lane that did (DEDUCED, notes/assumptions/70.md). `rows` pairs a register with the 32 values
of its lanes; `extra` is a further register with one word for every lane, `fl` flags that reading the record raised. -/
def qntRows (s : State) (a : Agent) (sd : Side) (c : Cursor) (m : W) (idx : Nat) (r : LkRec) (tf : Fmt) (ov : Ov)
    (rows : List (Nat × List FVal)) (extra : List (Nat × W)) (fl : W) : State :=
  let rm := fmtRm sd.fmt
  let ftz := fmtFtz sd.fmt
  let qs := rows.map (fun x => (x.1, quantRow tf rm ov ftz r.scale (x.2.map (scaled r.scale))))
  let isOver (l : Nat) : Bool :=
    qs.any (fun q => match q.2[l]? with
      | some k => k.ovf
      | none => false)
  let overs := (List.range 32).filter isOver
  if !overs.isEmpty && r.pol.getLsbD 6 then s.trap a sd c (Trap.plain Cause.rescale (BitVec.ofNat 32 idx))
  else
    let s1 :=
      if !overs.isEmpty && r.pol.getLsbD 7 then
        (s.autoRescale a.pkg a.vf idx r tf (rows.flatMap (fun x =>
          ((List.range 32).filter (fun l => m.getLsbD l)).map (fun l => x.2.getD l (.fin false 0 0))))).lkDrop a idx
      else s
    if !overs.isEmpty && ov == .trap then
      s1.trap a sd c (Trap.plain Cause.cvtOverflow
        (BitVec.ofNat 32 ((overs.filter (fun l => m.getLsbD l)).headD (overs.headD 0))))
    else
      let a1 := qs.foldl (fun a q => a.setV q.1 m (fun l => match q.2[l]? with
        | some k => k.bits
        | none => 0)) a
      let a2 := extra.foldl (fun a e => a.setV e.1 m (fun _ => e.2)) a1
      ((s1.setAgent a2).orFmt c (qs.foldl (fun f q => f ||| orFlags m (fun l => match q.2[l]? with
        | some k => k.flags
        | none => 0)) fl)).retire c

/-- R256: the channels to split, up to four, by descending cmax with ties to the lowest. -/
def splitPick (cand : List (Nat × FVal)) : Nat → List Nat
  | 0 => []
  | n + 1 =>
    match cand.foldl (fun best x =>
        match best with
        | none => some x
        | some b => if b.2.lt x.2 then some x else some b) none with
    | none => []
    | some b => b.1 :: splitPick (cand.filter (fun x => x.1 != b.1)) n

/-- R256, R243: the map word of the chosen channels. -/
def mapWord (cs : List Nat) : W :=
  BitVec.ofNat 32 ((cs.zip (List.range 4)).foldl (fun w x => w + (64 + x.1) * 2 ^ (7 * x.2)) 0)

/-- R256: the rows of a split: channels 0 to 31 and 32 to 63, with the chosen channels. The operand of channel maxima is only
compared: a signalling NaN in it sets no flag (DESIGN CHOICE, notes/assumptions/118.md). Half of a NaN is that NaN: it stays
signalling for the encoding that follows (R37). -/
def splitRows (a : Agent) (m fmt : W) (va : Nat) (amax : FVal) (tsh : Nat) : List FVal × List FVal × List Nat :=
  let chan (r c : Nat) : FVal := v32 fmt (a.vreg (r + c / 32) (c % 32))
  let act (c : Nat) : Bool := m.getLsbD (c % 32)
  let lim := amax.mul (.fin false 1 (-(tsh : Int)))
  let cand := ((List.range 60).filter (fun c => act c && lim.lt (chan (va + 2) c))).map (fun c => (c, chan (va + 2) c))
  let cs := splitPick cand 4
  let half (v : FVal) : FVal :=
    match v with
    | .nan sig => .nan sig
    | _ => v.mul (.fin false 1 (-1))
  let x (c : Nat) : FVal :=
    if 60 ≤ c then
      match cs[c - 60]? with
      | some k => half (chan va k)
      | none => .fin false 0 0
    else if cs.contains c then half (chan va c)
    else if act c then chan va c else .fin false 0 0
  ((List.range 32).map x, (List.range 32).map (fun l => x (32 + l)), cs)

/-- R442, R443: QNT. A POL format that is no QF code, in a record that no LKBIND has written, gives ILLEGAL_INSTR where it comes
to be used, after the checks of the record's index and of its poison (DEDUCED, notes/assumptions/101.md). -/
def execQnt (g : Pred) (d a : VReg) (b : SSrc) (s : State) : Host.Outcome State Fault Refusal :=
  withIssuer s (fun x sd c =>
    let k := SSrc.get x b
    let split := fmtSplit sd.fmt
    let da := d.toNat
    let va := a.toNat
    if x.isCc || (k &&& qntReserved) != 0 then s.trap x sd c (Trap.plain Cause.illegalInstr c.raw)
    else
      match vecCheck x c (if split then [da, da + 1, da + 2, va, va + 1, va + 2, va + 3] else [da, va]) with
      | some t => s.trap x sd c t
      | none =>
        let m := activeMask x sd g
        if m = 0 then s.retire c
        else
          let idx := (k.extractLsb' 0 20).toNat
          if s.lkNrec x.pkg x.vf ≤ idx then s.trap x sd c (lkAccess 0 (lowLane m) m 0 idx)
          else
            let bad := s.isPoisoned .ten (s.lkAddr x.pkg x.vf idx) 64
            let v := s.lkView x idx
            let r := LkRec.ofBytes v.1
            let code := if k.getLsbD 24 then r.pol.toNat % 16 else fmtQf sd.fmt
            let ov := if k.getLsbD 24 then Ov.ofCode (r.pol.toNat / 16 % 4) else fmtOv sd.fmt
            if bad && x.errtrap then s.trap x sd c (memTrap c 0 Cause.poison (lowLane m) m 0 0)
            else
            match (if qfOk code then Fmt.ofCode code else none) with
            | none => s.trap x sd c (Trap.plain Cause.illegalInstr c.raw)
            | some tf =>
              if split then
                let rows := splitRows x m sd.fmt va (Fmt.value .fp32 r.amax.toNat) (r.margin.toNat / 16)
                qntRows v.2 x sd c m idx r tf ov [(da, rows.1), (da + 1, rows.2.1)] [(da + 2, mapWord rows.2.2)]
                  (if bad then spoi else 0)
              else
                qntRows v.2 x sd c m idx r tf ov
                  [(da, (List.range 32).map (fun l =>
                    if m.getLsbD l then v32 sd.fmt (x.vreg va l) else .fin false 0 0))] [] (if bad then spoi else 0))

end Sys2Proof.Machine
end

