-- ==== Sys2Proof/Machine/Dispatch.lean ====
section
/-!
DEFINITION. Sys2Proof/Machine/Dispatch.lean: one arm per constructor of Instr, each one call of its meaning.
-/
namespace Sys2Proof.Machine

/-- The effect of an instruction or event on a state. -/
def exec (i : Instr) (s : State) : Host.Outcome State Fault Refusal :=
  match i with
  | .iaddV x0 x1 x2 x3 => Sys2Proof.Machine.execIaddV x0 x1 x2 x3 s
  | .iaddS x0 x1 x2 x3 => Sys2Proof.Machine.execIaddS x0 x1 x2 x3 s
  | .iaddDV x0 x1 x2 x3 => Sys2Proof.Machine.execIaddDV x0 x1 x2 x3 s
  | .iaddDS x0 x1 x2 x3 => Sys2Proof.Machine.execIaddDS x0 x1 x2 x3 s
  | .isubV x0 x1 x2 x3 => Sys2Proof.Machine.execIsubV x0 x1 x2 x3 s
  | .isubS x0 x1 x2 x3 => Sys2Proof.Machine.execIsubS x0 x1 x2 x3 s
  | .isubDV x0 x1 x2 x3 => Sys2Proof.Machine.execIsubDV x0 x1 x2 x3 s
  | .isubDS x0 x1 x2 x3 => Sys2Proof.Machine.execIsubDS x0 x1 x2 x3 s
  | .imulV x0 x1 x2 x3 => Sys2Proof.Machine.execImulV x0 x1 x2 x3 s
  | .imulS x0 x1 x2 x3 => Sys2Proof.Machine.execImulS x0 x1 x2 x3 s
  | .imulhIV x0 x1 x2 x3 => Sys2Proof.Machine.execImulhIV x0 x1 x2 x3 s
  | .imulhIS x0 x1 x2 x3 => Sys2Proof.Machine.execImulhIS x0 x1 x2 x3 s
  | .imulhNV x0 x1 x2 x3 => Sys2Proof.Machine.execImulhNV x0 x1 x2 x3 s
  | .imulhNS x0 x1 x2 x3 => Sys2Proof.Machine.execImulhNS x0 x1 x2 x3 s
  | .imadV x0 x1 x2 x3 => Sys2Proof.Machine.execImadV x0 x1 x2 x3 s
  | .imadS x0 x1 x2 x3 => Sys2Proof.Machine.execImadS x0 x1 x2 x3 s
  | .iminIV x0 x1 x2 x3 => Sys2Proof.Machine.execIminIV x0 x1 x2 x3 s
  | .iminIS x0 x1 x2 x3 => Sys2Proof.Machine.execIminIS x0 x1 x2 x3 s
  | .iminNV x0 x1 x2 x3 => Sys2Proof.Machine.execIminNV x0 x1 x2 x3 s
  | .iminNS x0 x1 x2 x3 => Sys2Proof.Machine.execIminNS x0 x1 x2 x3 s
  | .imaxIV x0 x1 x2 x3 => Sys2Proof.Machine.execImaxIV x0 x1 x2 x3 s
  | .imaxIS x0 x1 x2 x3 => Sys2Proof.Machine.execImaxIS x0 x1 x2 x3 s
  | .imaxNV x0 x1 x2 x3 => Sys2Proof.Machine.execImaxNV x0 x1 x2 x3 s
  | .imaxNS x0 x1 x2 x3 => Sys2Proof.Machine.execImaxNS x0 x1 x2 x3 s
  | .iabsV x0 x1 x2 => Sys2Proof.Machine.execIabsV x0 x1 x2 s
  | .iabsS x0 x1 x2 => Sys2Proof.Machine.execIabsS x0 x1 x2 s
  | .andV x0 x1 x2 x3 => Sys2Proof.Machine.execAndV x0 x1 x2 x3 s
  | .andS x0 x1 x2 x3 => Sys2Proof.Machine.execAndS x0 x1 x2 x3 s
  | .orV x0 x1 x2 x3 => Sys2Proof.Machine.execOrV x0 x1 x2 x3 s
  | .orS x0 x1 x2 x3 => Sys2Proof.Machine.execOrS x0 x1 x2 x3 s
  | .xorV x0 x1 x2 x3 => Sys2Proof.Machine.execXorV x0 x1 x2 x3 s
  | .xorS x0 x1 x2 x3 => Sys2Proof.Machine.execXorS x0 x1 x2 x3 s
  | .notV x0 x1 x2 => Sys2Proof.Machine.execNotV x0 x1 x2 s
  | .notS x0 x1 x2 => Sys2Proof.Machine.execNotS x0 x1 x2 s
  | .shlV x0 x1 x2 x3 => Sys2Proof.Machine.execShlV x0 x1 x2 x3 s
  | .shlS x0 x1 x2 x3 => Sys2Proof.Machine.execShlS x0 x1 x2 x3 s
  | .shrV x0 x1 x2 x3 => Sys2Proof.Machine.execShrV x0 x1 x2 x3 s
  | .shrS x0 x1 x2 x3 => Sys2Proof.Machine.execShrS x0 x1 x2 x3 s
  | .sarV x0 x1 x2 x3 => Sys2Proof.Machine.execSarV x0 x1 x2 x3 s
  | .sarS x0 x1 x2 x3 => Sys2Proof.Machine.execSarS x0 x1 x2 x3 s
  | .rotV x0 x1 x2 x3 => Sys2Proof.Machine.execRotV x0 x1 x2 x3 s
  | .rotS x0 x1 x2 x3 => Sys2Proof.Machine.execRotS x0 x1 x2 x3 s
  | .popcV x0 x1 x2 => Sys2Proof.Machine.execPopcV x0 x1 x2 s
  | .popcS x0 x1 x2 => Sys2Proof.Machine.execPopcS x0 x1 x2 s
  | .clzV x0 x1 x2 => Sys2Proof.Machine.execClzV x0 x1 x2 s
  | .clzS x0 x1 x2 => Sys2Proof.Machine.execClzS x0 x1 x2 s
  | .brevV x0 x1 x2 => Sys2Proof.Machine.execBrevV x0 x1 x2 s
  | .brevS x0 x1 x2 => Sys2Proof.Machine.execBrevS x0 x1 x2 s
  | .bfeNV x0 x1 x2 x3 => Sys2Proof.Machine.execBfeNV x0 x1 x2 x3 s
  | .bfeNS x0 x1 x2 x3 => Sys2Proof.Machine.execBfeNS x0 x1 x2 x3 s
  | .bfeIV x0 x1 x2 x3 => Sys2Proof.Machine.execBfeIV x0 x1 x2 x3 s
  | .bfeIS x0 x1 x2 x3 => Sys2Proof.Machine.execBfeIS x0 x1 x2 x3 s
  | .bfiV x0 x1 x2 x3 => Sys2Proof.Machine.execBfiV x0 x1 x2 x3 s
  | .bfiS x0 x1 x2 x3 => Sys2Proof.Machine.execBfiS x0 x1 x2 x3 s
  | .selV x0 x1 x2 x3 => Sys2Proof.Machine.execSelV x0 x1 x2 x3 s
  | .selS x0 x1 x2 x3 => Sys2Proof.Machine.execSelS x0 x1 x2 x3 s
  | .movV x0 x1 x2 => Sys2Proof.Machine.execMovV x0 x1 x2 s
  | .movS x0 x1 x2 => Sys2Proof.Machine.execMovS x0 x1 x2 s
  | .icmpV x0 x1 x2 x3 x4 => Sys2Proof.Machine.execIcmpV x0 x1 x2 x3 x4 s
  | .icmpS x0 x1 x2 x3 x4 => Sys2Proof.Machine.execIcmpS x0 x1 x2 x3 x4 s
  | .fcmpF32 x0 x1 x2 x3 x4 => Sys2Proof.Machine.execFcmpF32 x0 x1 x2 x3 x4 s
  | .fcmpF64 x0 x1 x2 x3 x4 => Sys2Proof.Machine.execFcmpF64 x0 x1 x2 x3 x4 s
  | .plop x0 x1 x2 x3 x4 => Sys2Proof.Machine.execPlop x0 x1 x2 x3 x4 s
  | .ballot x0 x1 x2 => Sys2Proof.Machine.execBallot x0 x1 x2 s
  | .faddF32V x0 x1 x2 x3 => Sys2Proof.Machine.execFaddF32V x0 x1 x2 x3 s
  | .faddF32S x0 x1 x2 x3 => Sys2Proof.Machine.execFaddF32S x0 x1 x2 x3 s
  | .faddF64 x0 x1 x2 x3 => Sys2Proof.Machine.execFaddF64 x0 x1 x2 x3 s
  | .faddH2 x0 x1 x2 x3 => Sys2Proof.Machine.execFaddH2 x0 x1 x2 x3 s
  | .faddB2 x0 x1 x2 x3 => Sys2Proof.Machine.execFaddB2 x0 x1 x2 x3 s
  | .fsubF32 x0 x1 x2 x3 => Sys2Proof.Machine.execFsubF32 x0 x1 x2 x3 s
  | .fsubF64 x0 x1 x2 x3 => Sys2Proof.Machine.execFsubF64 x0 x1 x2 x3 s
  | .fmulF32V x0 x1 x2 x3 => Sys2Proof.Machine.execFmulF32V x0 x1 x2 x3 s
  | .fmulF32S x0 x1 x2 x3 => Sys2Proof.Machine.execFmulF32S x0 x1 x2 x3 s
  | .fmulF64 x0 x1 x2 x3 => Sys2Proof.Machine.execFmulF64 x0 x1 x2 x3 s
  | .fmulH2 x0 x1 x2 x3 => Sys2Proof.Machine.execFmulH2 x0 x1 x2 x3 s
  | .fmulB2 x0 x1 x2 x3 => Sys2Proof.Machine.execFmulB2 x0 x1 x2 x3 s
  | .ffmaF32V x0 x1 x2 x3 => Sys2Proof.Machine.execFfmaF32V x0 x1 x2 x3 s
  | .ffmaF32S x0 x1 x2 x3 => Sys2Proof.Machine.execFfmaF32S x0 x1 x2 x3 s
  | .ffmaF64 x0 x1 x2 x3 => Sys2Proof.Machine.execFfmaF64 x0 x1 x2 x3 s
  | .ffmaH2 x0 x1 x2 x3 => Sys2Proof.Machine.execFfmaH2 x0 x1 x2 x3 s
  | .ffmaB2 x0 x1 x2 x3 => Sys2Proof.Machine.execFfmaB2 x0 x1 x2 x3 s
  | .fminF32 x0 x1 x2 x3 => Sys2Proof.Machine.execFminF32 x0 x1 x2 x3 s
  | .fmaxF32 x0 x1 x2 x3 => Sys2Proof.Machine.execFmaxF32 x0 x1 x2 x3 s
  | .fminF64 x0 x1 x2 x3 => Sys2Proof.Machine.execFminF64 x0 x1 x2 x3 s
  | .fmaxF64 x0 x1 x2 x3 => Sys2Proof.Machine.execFmaxF64 x0 x1 x2 x3 s
  | .fdot2 x0 x1 x2 x3 => Sys2Proof.Machine.execFdot2 x0 x1 x2 x3 s
  | .frcp x0 x1 x2 => Sys2Proof.Machine.execFrcp x0 x1 x2 s
  | .frsq x0 x1 x2 => Sys2Proof.Machine.execFrsq x0 x1 x2 s
  | .fsqrt x0 x1 x2 => Sys2Proof.Machine.execFsqrt x0 x1 x2 s
  | .fex2 x0 x1 x2 => Sys2Proof.Machine.execFex2 x0 x1 x2 s
  | .flg2 x0 x1 x2 => Sys2Proof.Machine.execFlg2 x0 x1 x2 s
  | .fsin x0 x1 x2 => Sys2Proof.Machine.execFsin x0 x1 x2 s
  | .fcos x0 x1 x2 => Sys2Proof.Machine.execFcos x0 x1 x2 s
  | .cvtFromF32 x0 x1 x2 x3 x4 x5 => Sys2Proof.Machine.execCvtFromF32 x0 x1 x2 x3 x4 x5 s
  | .cvtFromF64 x0 x1 x2 x3 x4 x5 => Sys2Proof.Machine.execCvtFromF64 x0 x1 x2 x3 x4 x5 s
  | .cvtFromBf16 x0 x1 x2 x3 x4 x5 => Sys2Proof.Machine.execCvtFromBf16 x0 x1 x2 x3 x4 x5 s
  | .cvtFromF16 x0 x1 x2 x3 x4 x5 => Sys2Proof.Machine.execCvtFromF16 x0 x1 x2 x3 x4 x5 s
  | .cvtFromE4m3 x0 x1 x2 x3 x4 x5 => Sys2Proof.Machine.execCvtFromE4m3 x0 x1 x2 x3 x4 x5 s
  | .cvtFromE5m2 x0 x1 x2 x3 x4 x5 => Sys2Proof.Machine.execCvtFromE5m2 x0 x1 x2 x3 x4 x5 s
  | .cvtFromI32 x0 x1 x2 x3 x4 x5 => Sys2Proof.Machine.execCvtFromI32 x0 x1 x2 x3 x4 x5 s
  | .cvtFromN32 x0 x1 x2 x3 x4 x5 => Sys2Proof.Machine.execCvtFromN32 x0 x1 x2 x3 x4 x5 s
  | .qnt x0 x1 x2 x3 => Sys2Proof.Machine.execQnt x0 x1 x2 x3 s
  | .unpk x0 x1 x2 x3 => Sys2Proof.Machine.execUnpk x0 x1 x2 x3 s
  | .pack x0 x1 x2 x3 => Sys2Proof.Machine.execPack x0 x1 x2 x3 s
  | .shflIdx x0 x1 x2 x3 => Sys2Proof.Machine.execShflIdx x0 x1 x2 x3 s
  | .shflXor x0 x1 x2 x3 => Sys2Proof.Machine.execShflXor x0 x1 x2 x3 s
  | .shflUp x0 x1 x2 x3 => Sys2Proof.Machine.execShflUp x0 x1 x2 x3 s
  | .shflDown x0 x1 x2 x3 => Sys2Proof.Machine.execShflDown x0 x1 x2 x3 s
  | .vred x0 x1 x2 x3 => Sys2Proof.Machine.execVred x0 x1 x2 x3 s
  | .vminxN x0 x1 x2 x3 => Sys2Proof.Machine.execVminxN x0 x1 x2 x3 s
  | .vminxI x0 x1 x2 x3 => Sys2Proof.Machine.execVminxI x0 x1 x2 x3 s
  | .vminxF x0 x1 x2 x3 => Sys2Proof.Machine.execVminxF x0 x1 x2 x3 s
  | .vmaxxN x0 x1 x2 x3 => Sys2Proof.Machine.execVmaxxN x0 x1 x2 x3 s
  | .vmaxxI x0 x1 x2 x3 => Sys2Proof.Machine.execVmaxxI x0 x1 x2 x3 s
  | .vmaxxF x0 x1 x2 x3 => Sys2Proof.Machine.execVmaxxF x0 x1 x2 x3 s
  | .vscan x0 x1 x2 x3 x4 => Sys2Proof.Machine.execVscan x0 x1 x2 x3 x4 s
  | .pmovGet x0 x1 => Sys2Proof.Machine.execPmovGet x0 x1 s
  | .pmovPut x0 x1 => Sys2Proof.Machine.execPmovPut x0 x1 s
  | .pmovNz x0 x1 x2 => Sys2Proof.Machine.execPmovNz x0 x1 x2 s
  | .pmovMask x0 x1 x2 => Sys2Proof.Machine.execPmovMask x0 x1 x2 s
  | .nop => Sys2Proof.Machine.execNop s
  | .ldB8 x0 x1 x2 x3 x4 x5 => Sys2Proof.Machine.execLdB8 x0 x1 x2 x3 x4 x5 s
  | .ldX8 x0 x1 x2 x3 x4 x5 => Sys2Proof.Machine.execLdX8 x0 x1 x2 x3 x4 x5 s
  | .ldB16 x0 x1 x2 x3 x4 x5 => Sys2Proof.Machine.execLdB16 x0 x1 x2 x3 x4 x5 s
  | .ldX16 x0 x1 x2 x3 x4 x5 => Sys2Proof.Machine.execLdX16 x0 x1 x2 x3 x4 x5 s
  | .ldB32 x0 x1 x2 x3 x4 x5 => Sys2Proof.Machine.execLdB32 x0 x1 x2 x3 x4 x5 s
  | .ldB64 x0 x1 x2 x3 x4 x5 => Sys2Proof.Machine.execLdB64 x0 x1 x2 x3 x4 x5 s
  | .ldB128 x0 x1 x2 x3 x4 x5 => Sys2Proof.Machine.execLdB128 x0 x1 x2 x3 x4 x5 s
  | .ldB32Scalar x0 x1 x2 x3 x4 x5 => Sys2Proof.Machine.execLdB32Scalar x0 x1 x2 x3 x4 x5 s
  | .ldB64Scalar x0 x1 x2 x3 x4 x5 => Sys2Proof.Machine.execLdB64Scalar x0 x1 x2 x3 x4 x5 s
  | .stB8 x0 x1 x2 x3 x4 x5 => Sys2Proof.Machine.execStB8 x0 x1 x2 x3 x4 x5 s
  | .stB16 x0 x1 x2 x3 x4 x5 => Sys2Proof.Machine.execStB16 x0 x1 x2 x3 x4 x5 s
  | .stB32 x0 x1 x2 x3 x4 x5 => Sys2Proof.Machine.execStB32 x0 x1 x2 x3 x4 x5 s
  | .stB64 x0 x1 x2 x3 x4 x5 => Sys2Proof.Machine.execStB64 x0 x1 x2 x3 x4 x5 s
  | .stB128 x0 x1 x2 x3 x4 x5 => Sys2Proof.Machine.execStB128 x0 x1 x2 x3 x4 x5 s
  | .stB32Scalar x0 x1 x2 x3 x4 x5 => Sys2Proof.Machine.execStB32Scalar x0 x1 x2 x3 x4 x5 s
  | .stB64Scalar x0 x1 x2 x3 x4 x5 => Sys2Proof.Machine.execStB64Scalar x0 x1 x2 x3 x4 x5 s
  | .atomAdd x0 x1 x2 x3 x4 => Sys2Proof.Machine.execAtomAdd x0 x1 x2 x3 x4 s
  | .atomAnd x0 x1 x2 x3 x4 => Sys2Proof.Machine.execAtomAnd x0 x1 x2 x3 x4 s
  | .atomOr x0 x1 x2 x3 x4 => Sys2Proof.Machine.execAtomOr x0 x1 x2 x3 x4 s
  | .atomXor x0 x1 x2 x3 x4 => Sys2Proof.Machine.execAtomXor x0 x1 x2 x3 x4 s
  | .atomMinI x0 x1 x2 x3 x4 => Sys2Proof.Machine.execAtomMinI x0 x1 x2 x3 x4 s
  | .atomMinN x0 x1 x2 x3 x4 => Sys2Proof.Machine.execAtomMinN x0 x1 x2 x3 x4 s
  | .atomMaxI x0 x1 x2 x3 x4 => Sys2Proof.Machine.execAtomMaxI x0 x1 x2 x3 x4 s
  | .atomMaxN x0 x1 x2 x3 x4 => Sys2Proof.Machine.execAtomMaxN x0 x1 x2 x3 x4 s
  | .atomExch x0 x1 x2 x3 x4 => Sys2Proof.Machine.execAtomExch x0 x1 x2 x3 x4 s
  | .atomFadd x0 x1 x2 x3 x4 => Sys2Proof.Machine.execAtomFadd x0 x1 x2 x3 x4 s
  | .atomFmax x0 x1 x2 x3 x4 => Sys2Proof.Machine.execAtomFmax x0 x1 x2 x3 x4 s
  | .atomFmin x0 x1 x2 x3 x4 => Sys2Proof.Machine.execAtomFmin x0 x1 x2 x3 x4 s
  | .redAdd x0 x1 x2 x3 x4 => Sys2Proof.Machine.execRedAdd x0 x1 x2 x3 x4 s
  | .redAnd x0 x1 x2 x3 x4 => Sys2Proof.Machine.execRedAnd x0 x1 x2 x3 x4 s
  | .redOr x0 x1 x2 x3 x4 => Sys2Proof.Machine.execRedOr x0 x1 x2 x3 x4 s
  | .redXor x0 x1 x2 x3 x4 => Sys2Proof.Machine.execRedXor x0 x1 x2 x3 x4 s
  | .redMinI x0 x1 x2 x3 x4 => Sys2Proof.Machine.execRedMinI x0 x1 x2 x3 x4 s
  | .redMinN x0 x1 x2 x3 x4 => Sys2Proof.Machine.execRedMinN x0 x1 x2 x3 x4 s
  | .redMaxI x0 x1 x2 x3 x4 => Sys2Proof.Machine.execRedMaxI x0 x1 x2 x3 x4 s
  | .redMaxN x0 x1 x2 x3 x4 => Sys2Proof.Machine.execRedMaxN x0 x1 x2 x3 x4 s
  | .redExch x0 x1 x2 x3 x4 => Sys2Proof.Machine.execRedExch x0 x1 x2 x3 x4 s
  | .redFadd x0 x1 x2 x3 x4 => Sys2Proof.Machine.execRedFadd x0 x1 x2 x3 x4 s
  | .redFmax x0 x1 x2 x3 x4 => Sys2Proof.Machine.execRedFmax x0 x1 x2 x3 x4 s
  | .redFmin x0 x1 x2 x3 x4 => Sys2Proof.Machine.execRedFmin x0 x1 x2 x3 x4 s
  | .cas x0 x1 x2 x3 x4 => Sys2Proof.Machine.execCas x0 x1 x2 x3 x4 s
  | .casD x0 x1 x2 x3 x4 => Sys2Proof.Machine.execCasD x0 x1 x2 x3 x4 s
  | .gtswap x0 x1 x2 x3 x4 => Sys2Proof.Machine.execGtswap x0 x1 x2 x3 x4 s
  | .gtswapD x0 x1 x2 x3 x4 => Sys2Proof.Machine.execGtswapD x0 x1 x2 x3 x4 s
  | .vswap x0 x1 x2 x3 x4 => Sys2Proof.Machine.execVswap x0 x1 x2 x3 x4 s
  | .tagswap x0 x1 x2 x3 x4 => Sys2Proof.Machine.execTagswap x0 x1 x2 x3 x4 s
  | .fence x0 x1 x2 => Sys2Proof.Machine.execFence x0 x1 x2 s
  | .clasp x0 x1 x2 => Sys2Proof.Machine.execClasp x0 x1 x2 s
  | .pfetch x0 x1 x2 x3 => Sys2Proof.Machine.execPfetch x0 x1 x2 x3 s
  | .cflush x0 x1 x2 => Sys2Proof.Machine.execCflush x0 x1 x2 s
  | .cinv x0 x1 x2 => Sys2Proof.Machine.execCinv x0 x1 x2 s
  | .femark x0 x1 x2 x3 x4 => Sys2Proof.Machine.execFemark x0 x1 x2 x3 x4 s
  | .cohset x0 x1 x2 x3 => Sys2Proof.Machine.execCohset x0 x1 x2 x3 s
  | .lkread x0 x1 x2 => Sys2Proof.Machine.execLkread x0 x1 x2 s
  | .lkbind x0 x1 x2 => Sys2Proof.Machine.execLkbind x0 x1 x2 s
  | .lkrst x0 x1 => Sys2Proof.Machine.execLkrst x0 x1 s
  | .mma x0 x1 x2 x3 x4 => Sys2Proof.Machine.execMma x0 x1 x2 x3 x4 s
  | .mmaX x0 x1 x2 x3 x4 x5 => Sys2Proof.Machine.execMmaX x0 x1 x2 x3 x4 x5 s
  | .oprdy x0 => Sys2Proof.Machine.execOprdy x0 s
  | .mkdesc x0 x1 x2 x3 => Sys2Proof.Machine.execMkdesc x0 x1 x2 x3 s
  | .copy x0 x1 x2 => Sys2Proof.Machine.execCopy x0 x1 x2 s
  | .gather x0 x1 x2 => Sys2Proof.Machine.execGather x0 x1 x2 s
  | .scatter x0 x1 x2 => Sys2Proof.Machine.execScatter x0 x1 x2 s
  | .mgt x0 x1 x2 => Sys2Proof.Machine.execMgt x0 x1 x2 s
  | .coll x0 x1 x2 => Sys2Proof.Machine.execColl x0 x1 x2 s
  | .tsend x0 x1 x2 => Sys2Proof.Machine.execTsend x0 x1 x2 s
  | .ctrset x0 x1 x2 => Sys2Proof.Machine.execCtrset x0 x1 x2 s
  | .ctradd x0 x1 x2 => Sys2Proof.Machine.execCtradd x0 x1 x2 s
  | .ctrrd x0 x1 x2 => Sys2Proof.Machine.execCtrrd x0 x1 x2 s
  | .chsend x0 x1 x2 => Sys2Proof.Machine.execChsend x0 x1 x2 s
  | .chrecv x0 x1 x2 => Sys2Proof.Machine.execChrecv x0 x1 x2 s
  | .hwait x0 x1 x2 => Sys2Proof.Machine.execHwait x0 x1 x2 s
  | .htest x0 x1 x2 => Sys2Proof.Machine.execHtest x0 x1 x2 s
  | .hcancel x0 x1 => Sys2Proof.Machine.execHcancel x0 x1 s
  | .hsave x0 x1 x2 => Sys2Proof.Machine.execHsave x0 x1 x2 s
  | .hload x0 x1 x2 => Sys2Proof.Machine.execHload x0 x1 x2 s
  | .hmov x0 x1 x2 => Sys2Proof.Machine.execHmov x0 x1 x2 s
  | .bra x0 => Sys2Proof.Machine.execBra x0 s
  | .bany x0 x1 => Sys2Proof.Machine.execBany x0 x1 s
  | .ball x0 x1 => Sys2Proof.Machine.execBall x0 x1 s
  | .bnone x0 x1 => Sys2Proof.Machine.execBnone x0 x1 s
  | .bdiv x0 x1 => Sys2Proof.Machine.execBdiv x0 x1 s
  | .call x0 x1 => Sys2Proof.Machine.execCall x0 x1 s
  | .ret x0 => Sys2Proof.Machine.execRet x0 s
  | .brx x0 x1 => Sys2Proof.Machine.execBrx x0 x1 s
  | .rejoin x0 => Sys2Proof.Machine.execRejoin x0 s
  | .exit x0 => Sys2Proof.Machine.execExit x0 s
  | .yield x0 => Sys2Proof.Machine.execYield x0 s
  | .bar x0 x1 x2 => Sys2Proof.Machine.execBar x0 x1 x2 s
  | .binit x0 x1 x2 x3 => Sys2Proof.Machine.execBinit x0 x1 x2 x3 s
  | .setfmt x0 x1 => Sys2Proof.Machine.execSetfmt x0 x1 s
  | .getfmt x0 x1 => Sys2Proof.Machine.execGetfmt x0 x1 s
  | .sread x0 x1 x2 => Sys2Proof.Machine.execSread x0 x1 x2 s
  | .swrite x0 x1 x2 => Sys2Proof.Machine.execSwrite x0 x1 x2 s
  | .trap x0 x1 => Sys2Proof.Machine.execTrap x0 x1 s
  | .eret x0 => Sys2Proof.Machine.execEret x0 s
  | .eretNext x0 => Sys2Proof.Machine.execEretNext x0 s
  | .tlbinv x0 x1 x2 x3 => Sys2Proof.Machine.execTlbinv x0 x1 x2 x3 s
  | .locketMerge x0 => Sys2Proof.Machine.execLocketMerge x0 s
  | .locketCacheExpire x0 x1 => Sys2Proof.Machine.execLocketCacheExpire x0 x1 s
  | .mmaPassGrant x0 => Sys2Proof.Machine.execMmaPassGrant x0 s
  | .mmaPromote x0 => Sys2Proof.Machine.execMmaPromote x0 s
  | .mmaPassDone x0 => Sys2Proof.Machine.execMmaPassDone x0 s
  | .copySetStart x0 => Sys2Proof.Machine.execCopySetStart x0 s
  | .engineTransferChunk x0 x1 => Sys2Proof.Machine.execEngineTransferChunk x0 x1 s
  | .engineTranslationCheck x0 => Sys2Proof.Machine.execEngineTranslationCheck x0 s
  | .engineCommandDone x0 => Sys2Proof.Machine.execEngineCommandDone x0 s
  | .collStart x0 => Sys2Proof.Machine.execCollStart x0 s
  | .collResolve x0 => Sys2Proof.Machine.execCollResolve x0 s
  | .tsendFire x0 => Sys2Proof.Machine.execTsendFire x0 s
  | .tsendComplete x0 => Sys2Proof.Machine.execTsendComplete x0 s
  | .counterIncrement x0 => Sys2Proof.Machine.execCounterIncrement x0 s
  | .yieldHoldExpire x0 x1 => Sys2Proof.Machine.execYieldHoldExpire x0 x1 s
  | .barrierWake x0 => Sys2Proof.Machine.execBarrierWake x0 s
  | .regang x0 => Sys2Proof.Machine.execRegang x0 s
  | .sideStarvationIssue x0 x1 => Sys2Proof.Machine.execSideStarvationIssue x0 x1 s
  | .groupMark x0 => Sys2Proof.Machine.execGroupMark x0 s
  | .recordFetch x0 x1 => Sys2Proof.Machine.execRecordFetch x0 x1 s
  | .queueSweep x0 => Sys2Proof.Machine.execQueueSweep x0 s
  | .residencyScan x0 => Sys2Proof.Machine.execResidencyScan x0 s
  | .queueEmptyTimeout x0 x1 => Sys2Proof.Machine.execQueueEmptyTimeout x0 x1 s
  | .evictionComplete x0 x1 => Sys2Proof.Machine.execEvictionComplete x0 x1 s
  | .gangDispatch x0 x1 => Sys2Proof.Machine.execGangDispatch x0 x1 s
  | .launchComplete x0 => Sys2Proof.Machine.execLaunchComplete x0 s
  | .markerComplete x0 => Sys2Proof.Machine.execMarkerComplete x0 s
  | .channelOccupancySample x0 => Sys2Proof.Machine.execChannelOccupancySample x0 s
  | .frameStart x0 => Sys2Proof.Machine.execFrameStart x0 s
  | .slotLeadStart x0 x1 => Sys2Proof.Machine.execSlotLeadStart x0 x1 s
  | .slotEdge x0 x1 => Sys2Proof.Machine.execSlotEdge x0 x1 s
  | .engineSuspend x0 => Sys2Proof.Machine.execEngineSuspend x0 s
  | .drainDone x0 x1 => Sys2Proof.Machine.execDrainDone x0 x1 s
  | .ceHandover x0 x1 => Sys2Proof.Machine.execCeHandover x0 x1 s
  | .saveDone x0 x1 => Sys2Proof.Machine.execSaveDone x0 x1 s
  | .restoreDone x0 x1 => Sys2Proof.Machine.execRestoreDone x0 x1 s
  | .vfIdleYield x0 x1 => Sys2Proof.Machine.execVfIdleYield x0 x1 s
  | .sltEnable x0 => Sys2Proof.Machine.execSltEnable x0 s
  | .sltDisable x0 => Sys2Proof.Machine.execSltDisable x0 s
  | .sltSwapRequest x0 => Sys2Proof.Machine.execSltSwapRequest x0 s
  | .sltFrameWrite x0 x1 => Sys2Proof.Machine.execSltFrameWrite x0 x1 s
  | .sltLeadWrite x0 x1 => Sys2Proof.Machine.execSltLeadWrite x0 x1 s
  | .configRegisterWrite x0 x1 x2 x3 => Sys2Proof.Machine.execConfigRegisterWrite x0 x1 x2 x3 s
  | .linkBucketRefill x0 => Sys2Proof.Machine.execLinkBucketRefill x0 s
  | .hbmBucketRefill x0 => Sys2Proof.Machine.execHbmBucketRefill x0 s
  | .preemptRequest x0 x1 => Sys2Proof.Machine.execPreemptRequest x0 x1 s
  | .pageFaultServiced x0 x1 x2 x3 => Sys2Proof.Machine.execPageFaultServiced x0 x1 x2 x3 s
  | .pageFaultUnresolvable x0 x1 => Sys2Proof.Machine.execPageFaultUnresolvable x0 x1 s
  | .transitCopyResolve x0 x1 => Sys2Proof.Machine.execTransitCopyResolve x0 x1 s
  | .cohTransitionFlip x0 => Sys2Proof.Machine.execCohTransitionFlip x0 s
  | .dirRegionMerge x0 x1 x2 => Sys2Proof.Machine.execDirRegionMerge x0 x1 x2 s
  | .clusterSleep x0 x1 => Sys2Proof.Machine.execClusterSleep x0 x1 s
  | .clusterWake x0 x1 => Sys2Proof.Machine.execClusterWake x0 x1 s
  | .hostMemoryWrite x0 x1 x2 x3 => Sys2Proof.Machine.execHostMemoryWrite x0 x1 x2 x3 s
  | .hostMemoryRead x0 x1 x2 x3 => Sys2Proof.Machine.execHostMemoryRead x0 x1 x2 x3 s
  | .qcreate x0 x1 => Sys2Proof.Machine.execQcreate x0 x1 s
  | .qdestroy x0 x1 => Sys2Proof.Machine.execQdestroy x0 x1 s
  | .vfjoin x0 x1 => Sys2Proof.Machine.execVfjoin x0 x1 s
  | .partmove x0 x1 => Sys2Proof.Machine.execPartmove x0 x1 s
  | .hacomp x0 x1 => Sys2Proof.Machine.execHacomp x0 x1 s
  | .peerdown x0 x1 => Sys2Proof.Machine.execPeerdown x0 x1 s
  | .fwload x0 x1 => Sys2Proof.Machine.execFwload x0 x1 s
  | .hsemAcquire x0 x1 => Sys2Proof.Machine.execHsemAcquire x0 x1 s
  | .hsemRelease x0 x1 => Sys2Proof.Machine.execHsemRelease x0 x1 s
  | .hsemTimeout x0 => Sys2Proof.Machine.execHsemTimeout x0 s
  | .haEventWrite x0 => Sys2Proof.Machine.execHaEventWrite x0 s
  | .haTimeout x0 => Sys2Proof.Machine.execHaTimeout x0 s
  | .xeSubSubmit x0 x1 x2 => Sys2Proof.Machine.execXeSubSubmit x0 x1 x2 s
  | .spdmGetVersion x0 x1 => Sys2Proof.Machine.execSpdmGetVersion x0 x1 s
  | .spdmGetCapabilities x0 x1 => Sys2Proof.Machine.execSpdmGetCapabilities x0 x1 s
  | .spdmNegotiateAlgorithms x0 x1 => Sys2Proof.Machine.execSpdmNegotiateAlgorithms x0 x1 s
  | .spdmGetDigests x0 x1 => Sys2Proof.Machine.execSpdmGetDigests x0 x1 s
  | .spdmGetCertificate x0 x1 => Sys2Proof.Machine.execSpdmGetCertificate x0 x1 s
  | .spdmChallenge x0 x1 x2 => Sys2Proof.Machine.execSpdmChallenge x0 x1 x2 s
  | .spdmGetMeasurements x0 x1 x2 x3 => Sys2Proof.Machine.execSpdmGetMeasurements x0 x1 x2 x3 s
  | .flitReceive x0 x1 x2 => Sys2Proof.Machine.execFlitReceive x0 x1 x2 s
  | .linkTimeout x0 x1 => Sys2Proof.Machine.execLinkTimeout x0 x1 s
  | .keepaliveSend x0 x1 => Sys2Proof.Machine.execKeepaliveSend x0 x1 s
  | .domainForm x0 => Sys2Proof.Machine.execDomainForm x0 s
  | .peerRouteTimeout x0 x1 => Sys2Proof.Machine.execPeerRouteTimeout x0 x1 s
  | .peerLossAgree x0 => Sys2Proof.Machine.execPeerLossAgree x0 s
  | .homePromoted x0 => Sys2Proof.Machine.execHomePromoted x0 s
  | .mirrorRebuildDone x0 => Sys2Proof.Machine.execMirrorRebuildDone x0 s
  | .eccCorrectable x0 x1 => Sys2Proof.Machine.execEccCorrectable x0 x1 s
  | .eccUncorrectable x0 x1 => Sys2Proof.Machine.execEccUncorrectable x0 x1 s
  | .patrolScrub x0 => Sys2Proof.Machine.execPatrolScrub x0 s
  | .packageReset x0 => Sys2Proof.Machine.execPackageReset x0 s
  | .vfFlr x0 x1 => Sys2Proof.Machine.execVfFlr x0 x1 s
  | .lineEviction x0 x1 x2 x3 => Sys2Proof.Machine.execLineEviction x0 x1 x2 x3 s
  | .powerThrottling x0 x1 => Sys2Proof.Machine.execPowerThrottling x0 x1 s

end Sys2Proof.Machine
end

