-- ==== Sys2Proof/Machine/Events.lean ====
section
/-!
DEFINITION. Sys2Proof/Machine/Events.lean: which event comes about by itself now, in a fixed order (DESIGN CHOICE, notes/assumptions/5.md).
An event is due only where it changes the state, so that it does not come about for ever.
-/
namespace Sys2Proof.Machine

/-- The outcome of a step. -/
abbrev Next := Host.Outcome State Fault Refusal

/-! ### Pages, counters, Lockets, coherence -/

/-- R159: a return copy that has resolved. -/
def State.dueTransit (s : State) : Option Next :=
  s.pkgs.findSome? (fun p =>
    (p.transit.find? (fun t => (s.transitStatus t).isSome)).map (fun t => execTransitCopyResolve p.num t.idx s))

/-- R222, R250: what is on its way arrives. -/
def State.dueArrival (s : State) : Option Next :=
  match (List.range s.merges.length).find? (fun i => s.merges[i]?.any (fun m => !s.arrivalHeld m.inst m.pkg m.vf m.saved)) with
  | some i => some (execLocketMerge i s)
  | none =>
    ((List.range s.incs.length).find? (fun i => s.incs[i]?.any (fun x => !s.arrivalHeld x.inst x.pkg x.vf x.saved))).map
      (fun i => execCounterIncrement i s)

/-- R189: a transition that hardware carries out. -/
def State.dueCoh (s : State) : Option Next :=
  (s.cohTrs.find? (fun t => !t.host && !t.queued)).map (fun t => execCohTransitionFlip t.id s)

/-- R195: the oldest host access that nothing holds any longer. -/
def State.dueHostQ (s : State) : Option Next :=
  (s.hostNext [] s.hostQ).map (fun x => .next (({ s with hostQ := x.2 }).hostDo x.1))

/-- R257: Locket copies that are too old. -/
def State.dueLocket (s : State) : Option Next :=
  s.pkgs.findSome? (fun p =>
    (p.lk.find? (fun c => decide (c.since + lkCacheTime < s.aclk))).map (fun c => execLocketCacheExpire p.num c.core s))

/-- R191: directory units that have been quiet. -/
def State.dueDir (s : State) : Option Next :=
  s.pkgs.findSome? (fun p =>
    (p.dirUnits.find? (fun u => p.dirQuiet s.aclk u)).map (fun u =>
      execDirRegionMerge p.num u.base u.size s))

/-! ### Issue -/

/-- R82: woken sides, in the aclk after their wake. -/
def State.dueWake (s : State) : Option Next :=
  if !s.issued.isEmpty then none
  else
    (s.agents.find? (fun a => [a.prim, a.sec].any (fun x => x.any (fun sd => sd.wokenBy.isSome)))).map (fun a =>
      execBarrierWake a.id s)

/-- R72: two sides that stand at one header. -/
def State.dueRegang (s : State) : Option Next :=
  (s.agents.find? (fun a => a.canRegang)).map (fun a => execRegang a.id s)

/-- Sides of an agent that a test picks. -/
def Agent.pick (a : Agent) (f : Side → Bool) : Option Bool :=
  [false, true].find? (fun k => (a.side k).any f)

/-- R100: holds that are over. -/
def State.dueHold (s : State) : Option Next :=
  s.agents.findSome? (fun a =>
    (a.pick (fun sd => sd.hold.any (fun h => s.holdOver h))).map (fun k => execYieldHoldExpire a.id k s))

/-- R75: sides that have waited too long. -/
def State.dueStarved (s : State) : Option Next :=
  s.agents.findSome? (fun a =>
    (a.pick (fun sd => decide (starveAfter ≤ sd.waited) && !sd.starved)).map (fun k => execSideStarvationIssue a.id k s))

/-- R112: groups that have waited too long. -/
def State.dueMark (s : State) : Option Next :=
  (s.agents.find? (fun a => decide (markAfter ≤ a.waited) && !a.marked)).map (fun a => execGroupMark a.id s)

/-! ### The matrix engines -/

/-- R113: whether a request's pass, or its merge, is at its end. -/
def State.passOver (s : State) (m : MmaReq) : Bool :=
  match m.busy with
  | some t => decide (t ≤ s.aclk)
  | none => !m.saved && (if m.failed.isSome then !s.chained m else decide (m.passes ≤ m.done) && s.mmaReady m)

def State.duePassDone (s : State) : Option Next :=
  (s.mmas.find? (fun m => s.passOver m)).map (fun m => execMmaPassDone m.inst s)

def State.duePromote (s : State) : Option Next :=
  (s.mmas.find? (fun m => !m.saved && m.busy.isNone && m.promoted.isNone && m.failed.isNone && decide (m.done < m.passes) &&
    decide (m.waitFrom + promoteAfter ≤ s.aclk))).map (fun m => execMmaPromote m.inst s)

/-- R113: whether a request may be granted a pass, or reads its map again. -/
def State.grantNow (s : State) (m : MmaReq) : Bool :=
  if m.needsMap then !m.saved && s.mmaReady m
  else s.grantable m && !(s.mmas.any (fun n => n.pkg == m.pkg && n.cluster == m.cluster && s.grantable n && n.before m))

def State.dueGrant (s : State) : Option Next :=
  (s.mmas.find? (fun m => s.grantNow m)).map (fun m => execMmaPassGrant m.inst s)

/-! ### The engines -/

/-- R119: commands of VFs that their engines no longer serve. -/
def State.dueSuspend (s : State) : Option Next :=
  (s.cmds.find? (fun c => c.phase == .running && decide (c.vf < 128) && !s.vfRuns c.pkg c.vf && !c.sent)).map (fun c =>
    execEngineSuspend c.inst s)

/-- R205: a set whose slices may all start. -/
def State.dueCopySet (s : State) : Option Next :=
  (s.cmds.find? (fun c => c.kind == .copy && c.phase == .queued &&
    ((s.setOf c.set).filter (fun d => d.kind == .copy)).all (fun d => s.canStart d && s.cmdReady d))).map (fun c =>
      execCopySetStart c.set s)

/-- R216: a collective every participant of which has joined. -/
def State.dueCollStart (s : State) : Option Next :=
  (s.cmds.find? (fun c => c.kind == .coll && c.phase == .joining &&
    decide ((s.collMembers c.set).length = collNpart c.blk))).map (fun c => execCollStart c.set s)

/-- The iterations of one chunk step. -/
def chunkSteps : Nat := 4096

/-- Whether a command has a chunk to move, a block to read, or a collective to join. -/
def State.chunkNow (s : State) (c : Cmd) : Bool :=
  if c.blk.isEmpty || c.phase == .reporting then s.cmdReady c
  else if c.phase == .running then
    s.chunkFree c && c.since == 0 && s.engFree c && !s.ordHeld c
  else if c.phase == .queued then
    if c.kind == .coll then s.chunkFree c && s.canStart c
    else c.kind != .copy && c.kind != .tsend && s.canStart c
  else false

def State.dueChunk (s : State) : Option Next :=
  (s.cmds.find? (fun c => s.chunkNow c)).map (fun c => execEngineTransferChunk c.inst chunkSteps s)

/-- R228: a command at its check point. -/
def State.dueCheck (s : State) : Option Next :=
  (s.cmds.find? (fun c => c.phase == .running && c.since != 0)).map (fun c => execEngineTranslationCheck c.inst s)

/-- R226, R251: a set whose slices have all ended and whose merges have arrived. -/
def State.dueDone (s : State) : Option Next :=
  (s.cmds.find? (fun c =>
    let l := s.setOf c.set
    c.kind != .coll && c.kind != .tsend && l.all (fun d => d.phase == .ended && !s.ordHeld d) &&
      !s.merging l && s.statusReady l)).map (fun c => execEngineCommandDone c.inst s)

/-- R219, R222: participants and sends that have ended. -/
def State.dueResolve (s : State) : Option Next :=
  (s.cmds.find? (fun c => c.phase == .ended && (c.kind == .coll || c.kind == .tsend) &&
    !(s.merges.any (fun m => m.inst == c.inst)) && !(s.incs.any (fun x => x.inst == c.inst)) &&
    (c.kind == .coll || (s.statusWait [c]).isNone))).map (fun c =>
      if c.kind == .coll then execCollResolve c.inst s else execTsendComplete c.inst s)

/-- R123, R222: sends whose trigger is met and whose VF runs. -/
def State.dueFire (s : State) : Option Next :=
  (s.cmds.find? (fun c => c.kind == .tsend && c.phase == .armed && c.due && s.mayFire c)).map (fun c =>
      execTsendFire c.inst s)

/-! ### Queues and launches -/

/-- R101: whether reading a queue's TAIL leads on: a TAIL that a test picks, a fault, or a wait. -/
def State.tailSays (s : State) (pkg : Nat) (q : Queue) (f : Nat → Bool) : Bool :=
  match s.readTail pkg q with
  | .ok t => f t || !q.tailOk t
  | .bad _ => true
  | .wait _ _ => true

/-- R107 to R109: fetches, empty queues and evictions. -/
def State.dueQueue (s : State) : Option Next :=
  s.pkgs.findSome? (fun p =>
    match p.queues.find? (fun q => s.mayFetch p.num q && s.tailSays p.num q (fun t => t != q.head)) with
    | some q => some (execRecordFetch p.num q.num s)
    | none =>
      match p.queues.find? (fun q => q.st == .evicting && s.waitOver p.num q.wait) with
      | some q => some (execEvictionComplete p.num q.num s)
      | none =>
        let asked (q : Queue) : Bool := p.haOpen 1 q.num
        match (List.range 128).find? (fun v => (s.evictable p.num v).any (fun q => !asked q)) with
        | some v => some (.next (s.evictFor p.num v))
        | none =>
        (p.queues.find? (fun q => q.st == .resident && !asked q && decide (q.emptySince + emptyTime ≤ s.aclk) &&
          (p.nextPending q.vf).isSome && p.spareSlots q.vf == 0 && s.waitOver p.num q.wait &&
          s.tailSays p.num q (fun t => t == q.head))).map (fun q => execQueueEmptyTimeout p.num q.num s))

/-- R103, R104, R106: completions and dispatch. -/
def State.dueLaunch (s : State) : Option Next :=
  match s.launches.find? (fun l => s.mayFinish l) with
  | some l => some (execLaunchComplete l.id s)
  | none =>
    match s.launches.find? (fun l => s.markerDone l) with
    | some l => some (execMarkerComplete l.id s)
    | none =>
      s.pkgs.findSome? (fun p =>
        (s.nextLaunch p.num).map (fun l =>
          execGangDispatch l.id ((match l.phase with
            | .running => (s.nextGang l).map Prod.fst
            | _ => (none : Option Nat)).getD 0) s))

/-! ### Partitions -/

/-- R119: whether a partition's engines pass to the incoming VF now. -/
def State.handover (s : State) (p : Pkg) (part : Nat) : Bool :=
  let q := p.part part
  (q.phase == .drain || q.phase == .save) && q.ce.isNone &&
  (match q.owner, q.incoming with
   | some v, some w => v != w && !s.runsBut p part (some w)
   | _, _ => false)

/-- R118, R120, R125: whether a time that lies inside a slot has come for a partition. -/
def Pkg.midSlot (p : Pkg) (part now : Nat) : Bool :=
  let q := p.part part
  p.slt.en && (p.setRow part).en && !p.moves part &&
  ((q.startAt != 0 && decide (q.startAt ≤ now)) || (q.slackEnd != 0 && decide (q.slackEnd ≤ now)) ||
   (q.phase == .lead && decide (q.leadTo ≤ now)))

/-- R118 to R125: what a partition does by itself now. -/
def State.duePart (s : State) (p : Pkg) (part : Nat) : Option Next :=
  let q := p.part part
  if s.handover p part then some (execCeHandover p.num part s)
  else if q.phase == .drain && s.partQuiet p.num part then some (execDrainDone p.num part s)
  else if q.phase == .save && s.partQuiet p.num part then some (execSaveDone p.num part s)
  else if q.phase == .restore && q.incoming.isSome && s.partQuiet p.num part then some (execRestoreDone p.num part s)
  else if p.midSlot part s.aclk then some (execSlotEdge p.num part s)
  else
    match p.idleOwner part s.aclk with
    | some v => if s.runnable p.num v then none else some (execVfIdleYield p.num part s)
    | none => none

def State.dueParts (s : State) : Option Next :=
  s.pkgs.findSome? (fun p => (List.range 64).findSome? (fun i => s.duePart p i))

/-! ### The MP -/

/-- R157, R276: whether a PARTMOVE has something to do. -/
def State.moveNow (s : State) (p : Pkg) : Bool :=
  match p.move with
  | none => true
  | some m =>
    !m.host &&
    (match m.pages with
     | none => p.moveQuiet m
     | some [] => true
     | some (x :: _) => ((s.pkg? x.1).bind Pkg.freeTransit).isSome)

/-- R284: the command that a PF mailbox has started. -/
def State.duePf (s : State) (p : Pkg) : Option Next :=
  let w : Window := .pf p.pfMbx.port
  if !p.pfMbx.go then none
  else
    match p.pfMbx.code with
    | 1 => some (execQcreate p.num w s)
    | 2 => some (execQdestroy p.num w s)
    | 3 => some (execVfjoin p.num w s)
    | 4 => if p.recovery || s.moveNow p then some (execPartmove p.num w s) else none
    | 5 => some (execHacomp p.num w s)
    | 6 => some (execPeerdown p.num w s)
    | 7 => some (execFwload p.num w s)
    | _ => none

/-- R284: the command that a VF mailbox has started. -/
def State.dueVfMbx (s : State) (p : Pkg) : Option Next :=
  ((List.range 128).find? (fun v => (p.mbx (.vf v)).go && ((p.mbx (.vf v)).code == 1 || (p.mbx (.vf v)).code == 2))).map
    (fun v => if (p.mbx (.vf v)).code == 1 then execQcreate p.num (.vf v) s else execQdestroy p.num (.vf v) s)

/-- R282, R287, R288: HSEM and the host-assisted requests. -/
def State.dueHost (s : State) (p : Pkg) : Option Next :=
  if p.hsem.late s.aclk then some (execHsemTimeout p.num s)
  else if p.haReqs.any (fun r => r.late s.aclk) then some (execHaTimeout p.num s)
  else
    match p.haNext with
    | some _ =>
      let h := p.ha[p.haPort]?.getD HaRing.reset
      if h.log2n = 0 || h.room then some (execHaEventWrite p.num s) else none
    | none => none

def State.dueMp (s : State) : Option Next :=
  s.pkgs.findSome? (fun p => [s.duePf p, s.dueVfMbx p, s.dueHost p].findSome? id)

/-! ### Links and peers -/

/-- R290, R292: links and routes. -/
def State.dueLink (s : State) : Option Next :=
  s.pkgs.findSome? (fun p =>
    match (List.range 18).find? (fun k => (p.link k).silent s.aclk) with
    | some k => some (execLinkTimeout p.num k s)
    | none =>
      (p.unreach.find? (fun x => decide (x.2 + routeTime ≤ s.aclk) && !(s.detected.contains (p.num, x.1)) &&
        s.pkgs.any (fun q => q.num == x.1) && p.num != x.1 && !(p.haOpen 4 x.1))).map (fun x =>
          execPeerRouteTimeout p.num x.1 s))

/-- R289, R291: what packages have still to send, once a route is there. -/
def State.dueTraffic (s : State) : Option Next :=
  if s.traffic.any (fun x => s.canGo x) then some (.next s.sendTraffic) else none

/-- R292, R293: the survivors agree, and the mirrors of a lost package's homes are promoted. -/
def State.duePeer (s : State) : Option Next :=
  match s.detected.find? (fun x => s.pkgs.any (fun p => p.num == x.2)) with
  | some x => some (execPeerLossAgree x.2 s)
  | none =>
    match s.promoting with
    | n :: _ => some (execHomePromoted n s)
    | [] => none

/-! ### All of them -/

/-- The event that comes about now, if one does. -/
def State.dueEvent (s : State) : Option Next :=
  [State.dueTransit, State.dueArrival, State.dueCoh, State.dueHostQ, State.dueLocket, State.dueDir, State.dueWake, State.dueRegang,
   State.dueHold, State.dueStarved, State.dueMark, State.duePassDone, State.duePromote, State.dueGrant, State.dueSuspend,
   State.dueFire, State.dueCopySet, State.dueCollStart, State.dueChunk, State.dueCheck, State.dueDone, State.dueResolve,
   State.dueQueue, State.dueLaunch, State.dueParts, State.dueMp, State.dueTraffic, State.dueLink, State.duePeer].findSome? (fun f => f s)

end Sys2Proof.Machine
end

