-- ==== Sys2Proof/Machine/Sched.lean ====
section
/-!
DEFINITION. Sys2Proof/Machine/Sched.lean: the choice of the side that issues next (R75, R112), the clock, and the events that
it brings about (R102, R107, R111, R115, R118, R127, R129, R290, R297).
-/
namespace Sys2Proof.Machine

/-! ### The scheduler -/

/-- R112, R295: the issue scheduler of an agent: four to a core, one to a control core. -/
def Agent.scheduler (a : Agent) : Nat :=
  match a.cc with
  | some cc => 2 ^ 32 + 16 * a.pkg + cc.num
  | none => 4 * (256 * a.pkg + a.core) + a.sched

/-- The sides of an agent that may be tried now. -/
def State.readySlots (s : State) (a : Agent) : List Bool := [false, true].filter (fun k => s.ready a k)

/-- R112: whether an agent may issue now: one of its sides is eligible, and its scheduler has not issued in this aclk. -/
def State.mayIssue (s : State) (a : Agent) : Bool :=
  !(s.issued.any (fun x => x.1 == a.scheduler)) && !(s.readySlots a).isEmpty

/-- R112: marked groups first, then the oldest; among equals the one that has waited longest (DESIGN CHOICE,
notes/assumptions/5.md). -/
def Agent.sooner (a b : Agent) : Bool :=
  if a.marked != b.marked then a.marked
  else decide (a.age < b.age) || (a.age == b.age && (decide (b.waited < a.waited) ||
    (a.waited == b.waited && decide (a.id < b.id))))

/-- R75: the slot of an agent that issues: a starved side, else the one with the lower PC; of two at one PC the primary
(DESIGN CHOICE, notes/assumptions/72.md: R75 names only the lower PC). -/
def State.pickSlot (s : State) (a : Agent) : Bool :=
  match s.readySlots a with
  | [k] => k
  | _ =>
    match a.prim, a.sec with
    | some p, some q =>
      if p.starved != q.starved then q.starved else decide (q.pt.addr.toNat < p.pt.addr.toNat)
    | _, _ => false

/-- R112: the side that issues next. -/
def State.nextIssue (s : State) : Option (Nat × Bool) :=
  match s.agents.find? (fun a => s.mayIssue a) with
  | none => none
  | some a =>
    (firstBy Agent.sooner (s.agents.filter (fun b => b.scheduler == a.scheduler && s.mayIssue b))).map (fun b =>
      (b.id, s.pickSlot b))

/-! ### The clock -/

/-- R75, R112: the counts of an aclk that ends: sides and groups that were eligible and did not issue. -/
def State.countWaits (s : State) (a : Agent) : Agent :=
  if !s.runs a then a
  else
    let one (k : Bool) (x : Option Side) : Option Side :=
      x.map (fun sd =>
        if s.issued.any (fun y => y.2.1 == a.id && y.2.2 == some k) then sd
        else { sd with waited := if s.eligible a k then sd.waited + 1 else 0 })
    { a with prim := one false a.prim, sec := one true a.sec,
             waited := if s.issued.any (fun y => y.2.1 == a.id) then a.waited
                       else if s.eligible a false || s.eligible a true then a.waited + 1 else 0 }

/-- R124: a partition whose owner has something to do is not idle. -/
def State.noteIdle (s : State) (p : Pkg) : Pkg :=
  (List.range 64).foldl (fun p i =>
    let q := p.part i
    match q.owner with
    | some v =>
      if (q.phase == .run || q.phase == .lead) && s.runnable p.num v then
        p.modPart i (fun q => { q with idleFrom := s.aclk + 1, busy := true })
      else p
    | none => p) p

/-- R266: whether anything still waits for a fault request. -/
def State.faultWanted (s : State) (id : Nat) : Bool :=
  let w : Stall := .service id
  s.agents.any (fun a => [a.prim, a.sec].any (fun x => x.any (fun sd => sd.stall == some w))) ||
  s.cmds.any (fun c => c.wait == some w) || s.mmas.any (fun m => m.wait == some w) ||
  s.launches.any (fun l => l.wait == some w) ||
  s.pkgs.any (fun p => p.queues.any (fun q => q.wait == some w))

/-- R266: a declaration answers only those that waited, and is not remembered. -/
def State.forgetFailed (s : State) (p : Pkg) : Pkg :=
  { p with faults := p.faults.filter (fun f => !f.failed || s.faultWanted f.id) }

/-- R107: since when the pending bit of each queue has been set. -/
def State.noteBits (s : State) (p : Pkg) : Pkg :=
  let up (q : Queue) : Queue :=
    if q.stb == 1 then
      { q with bitAt := if s.pendingBit p.num q then some (q.bitAt.getD s.aclk) else none }
    else q
  { p with queues := p.queues.map up }

/-- R115: SLT_STAT.SLOT at an aclk. -/
def Pkg.slotAt (p : Pkg) (t : Nat) : Pkg :=
  if p.slt.en && decide (p.slt.frameAt ≤ t) then { p with slt := { p.slt with slot := BitVec.ofNat 6 (p.slt.slotNow t) } }
  else p

/-- The partitions that exist. -/
def Pkg.partList (p : Pkg) : List Nat := (List.range 64).filter (fun i => (p.setRow i).en)

/-- R115, R118: the frame, edge and lead events of a package at an aclk. -/
def Pkg.slotDue (p : Pkg) (t : Nat) : List Due :=
  let len := p.slt.slotlen.toNat
  if !p.slt.en || len = 0 || t < p.slt.frameAt then []
  else
    let k := t - p.slt.frameAt
    (if k = 0 || k = 64 * len then [.frame p.num] else []) ++
    (if k % len = 0 then p.partList.map (fun i => .edge p.num i) else []) ++
    (if p.slt.lead = 0 then []
     else (p.partList.filter (fun i => (k + p.slt.lead.toNat) % len == 0 || p.leadsMid i t)).map (fun i => .lead p.num i))

/-- R297: aclk of 24 h. -/
def scrubTime : Nat := 24 * 3600 * 1300000000

/-- R102, R107, R127, R129, R290, R297: the periodic events of a package at an aclk. -/
def Pkg.clockDue (p : Pkg) (t : Nat) : List Due :=
  p.slotDue t ++
  (if t % sweepTime = 0 then [.sweep p.num] else []) ++
  (if t % scanTime = 0 then [.scan p.num] else []) ++
  (if t % refillTime = 0 then [.links p.num, .hbm p.num] else []) ++
  (if t % scrubTime = 0 then [.scrub p.num] else []) ++
  ((List.range 18).filter (fun k => (p.link k).up && decide ((p.link k).lastTx + keepTime ≤ t))).map (fun k => .alive p.num k)

/-- The events that a new aclk brings about. -/
def State.clockEvents (s : State) (t : Nat) : List Turn :=
  let samples : List Due :=
    if t % sampleTime = 0 then (s.launches.filter (fun l => l.phase == .running)).map (fun l => .sample l.id) else []
  ((s.pkgs.flatMap (fun p => p.clockDue t)) ++ samples).map Turn.due

/-- The next aclk. -/
def State.tick (s : State) : State :=
  let s0 := s.pruneHolds.reapCrews
  let s1 : State := { s0 with
    agents := s0.agents.map s.countWaits
    pkgs := s0.pkgs.map (fun p => (s.forgetFailed (s.noteBits (s.noteIdle p))).slotAt (s.aclk + 1))
    issued := [] }
  { s1 with aclk := s.aclk + 1, agenda := s1.clockEvents (s.aclk + 1) }

/-- A periodic event. -/
def State.runDue (s : State) (d : Due) : Next :=
  match d with
  | .frame p => execFrameStart p s
  | .edge p i => execSlotEdge p i s
  | .lead p i => execSlotLeadStart p i s
  | .sweep p => execQueueSweep p s
  | .scan p => execResidencyScan p s
  | .links p => execLinkBucketRefill p s
  | .hbm p => execHbmBucketRefill p s
  | .sample l => execChannelOccupancySample l s
  | .scrub p => execPatrolScrub p s
  | .alive p k => execKeepaliveSend p k s

end Sys2Proof.Machine
end

