-- ==== Sys2Proof/Machine/Issue.lean ====
section
/-!
DEFINITION. Sys2Proof/Machine/Issue.lean: how a side issues: its words fetched (R266, R278, R303, R306), its clause header
checked and waited on (R302, R303), its word decoded in the order of R316, and carried out by `exec`.
-/
namespace Sys2Proof.Machine

/-! ### Fetching -/

/-- What the fetch of one word gives. -/
inductive Fetched where
  /-- the word, in the state that the fetch leaves -/
  | word (w : W) (s : State)
  /-- the side waits, has trapped, or its group has ended -/
  | stop (s : State)

/-- The cursor of a word of a side. -/
def cursorOf (a : Agent) (slot : Bool) (raw : W) (len : Nat) : Cursor :=
  { agent := a.id, slot := slot, raw := raw, len := len, left := false }

/-- R264: the trap of a fetch that fails: the access of every lane of the side. -/
def fetchTrap (sd : Side) (c : Cursor) (cause : Nat) (va detail : DW) : Trap :=
  memTrap c 3 cause (lowLane sd.mask) sd.mask va detail

/-- R278: a poisoned instruction word ends its group; a control core, which is no group, takes POISON (DESIGN CHOICE,
notes/assumptions/112.md). -/
def State.fetchPoison (s : State) (a : Agent) (slot : Bool) (sd : Side) (va : DW) : State :=
  if a.isCc then s.takeTrap a.id slot sd.pt 1 (fetchTrap sd (cursorOf a slot 0 1) Cause.poison va 0)
  else s.terminate a.id Cause.poison

/-- R136, R259: the word that the trap of a failing fetch reports. PRIVILEGED reports the instruction word, which has not been
fetched: a free value (DESIGN CHOICE, notes/assumptions/117.md). -/
def State.unfetched (s : State) (cause : Nat) : W × State := if cause = Cause.privileged then s.freeW else (0, s)

/-- R71, R136, R266, R278, R303, R306: one word of a side fetched. -/
def State.fetchAt (s : State) (a : Agent) (slot : Bool) (sd : Side) (va : DW) : Fetched :=
  let w := s.who a
  let c := cursorOf a slot 0 1
  match s.settleWait w sd.stall va (s.fetchCheck w va) with
  | .bad cause d =>
    let r := s.unfetched cause
    .stop ((r.2.walkSent w va).trap a sd c (fetchTrap sd (cursorOf a slot r.1 1) cause va d))
  | .service l =>
    let r := s.faultWait w va 3 l
    .stop (r.2.stall c r.1)
  | .wait st => .stop (s.stall c st)
  | .ok t =>
    match t.code with
    | none => .stop (s.trap a sd c (fetchTrap sd c Cause.access va 0))
    | some x =>
      if s.isPoisoned x.1 x.2 4 then .stop ((s.stray t 4).fetchPoison a slot sd va)
      else
        let r := (((s.tlbFill w va).noteCode a.launch w va).stray t 4).codeWord a.launch w va t x.1 x.2
        .word r.1 (r.2.exchange x.1 w.pkg x.2 [] (toLE 4 r.1.toNat))

/-! ### Words -/

/-- What the word of a side is: an instruction of some length, or the trap of R316 orders 1 and 2. -/
inductive Read where
  | instr (i : Instr) (raw : W) (len : Nat) (s : State)
  | trap (t : Trap) (len : Nat) (s : State)
  | stop (s : State)

/-- R305, R316 orders 1 and 2: the word at a side's point, with its literal or extension word. -/
def State.readWord (s : State) (a : Agent) (slot : Bool) (sd : Side) : Read :=
  match s.fetchAt a slot sd sd.pt.addr with
  | .stop s1 => .stop s1
  | .word w s1 =>
    match decode sd.pt.cls w none with
    | .ok i n => .instr i w n s1
    | .illegal => .trap (Trap.plain Cause.illegalInstr w) 1 s1
    | .illegalMma => .trap (Trap.plain Cause.illegalInstr 0) 1 s1
    | .needExt =>
      if sd.pt.count < sd.pt.pos + 1 then .trap (Trap.plain Cause.illegalClause sd.pt.head) 1 s1
      else
        match s1.fetchAt a slot sd (sd.pt.addr + 4) with
        | .stop s2 => .stop s2
        | .word e s2 =>
          match decode sd.pt.cls w (some e) with
          | .ok i n => .instr i w n s2
          | .illegalMma => .trap (Trap.plain Cause.illegalInstr 0) 2 s2
          | _ => .trap (Trap.plain Cause.illegalInstr w) 2 s2

/-- R75, R100, R112: the books of a word that issued: its scheduler, the holds that noted its side, its group's counts. The slot
of a side that has `left` it may hold another, which has not issued. -/
def State.noteIssued (s : State) (a : Agent) (slot left : Bool) : State :=
  let free (x : Option Side) : Option Side :=
    if left then x
    else x.map (fun sd => { sd with hold := sd.hold.map (fun h => { h with noted := h.noted.filter (fun y => y != (a.id, slot)) }) })
  let up (b : Agent) : Agent :=
    let c := { b with prim := free b.prim, sec := free b.sec }
    if b.id == a.id then { c with waited := 0, marked := false } else c
  { s with agents := s.agents.map up, issued := (a.scheduler, a.id, if left then none else some slot) :: s.issued }

/-- Whether a stalled side's word has not issued and will be tried again. -/
def Stall.again (w : Stall) : Bool :=
  match w with
  | .barrier _ _ _ => false
  | .woken _ => false
  | .tlbinv _ => false
  | _ => true

/-- Whether a side waits to issue its word again. -/
def State.heldBack (s : State) (id : Nat) (slot : Bool) : Bool :=
  match (s.agent? id).bind (fun a => a.side slot) with
  | some sd => sd.stall.any Stall.again
  | none => false

/-- The end of an issue turn. -/
def State.issueEnd (s : State) (a : Agent) (slot : Bool) : State :=
  let left := s.cur.any Cursor.left
  let s1 := { s with cur := none }
  (if !left && s1.heldBack a.id slot then s1 else s1.noteIssued a slot left).pruneHolds

/-- An instruction of a side carried out; one that touches what a CHRECV of the sibling covers waits (R112, R355). -/
def State.runInstr (s : State) (a : Agent) (slot : Bool) (i : Instr) (raw : W) (len : Nat) : Next :=
  match a.pairHeld slot i with
  | some n => .next ((s.stall (cursorOf a slot raw len) (.pair n)).issueEnd a slot)
  | none =>
    match exec i { s with cur := some (cursorOf a slot raw len) } with
    | .next t => .next (t.issueEnd a slot)
    | .fault f => .fault f
    | .refused r => .refused r

/-- R305, R316: a side inside a clause issues its next word. -/
def State.issueWord (s : State) (a : Agent) (slot : Bool) (sd : Side) : Next :=
  match s.readWord a slot sd with
  | .stop s1 => .next (s1.issueEnd a slot)
  | .trap t n s1 => .next ((s1.takeTrap a.id slot sd.pt n t).issueEnd a slot)
  | .instr i raw len s1 => s1.runInstr a slot i raw len

/-! ### Headers -/

/-- R303: a header as the side's agent may use it; a control core has no class MTX or ENG (R295). -/
def headerFor (a : Agent) (w : W) : Option Header :=
  match decodeHeader w with
  | some h => if a.isCc && (h.cls == .mtx || h.cls == .eng) then none else some h
  | none => none

/-- The side inside the clause whose header has been checked and whose waits are met; with OPR it keeps what its team has released
by then (R432). -/
def State.entered (s : State) (a : Agent) (sd : Side) (w : W) (h : Header) : Side :=
  { sd with
    pt := { hdr := sd.pt.hdr, head := w, pos := 1, count := h.count, cls := h.cls, opr := h.opr,
            marks := if h.opr then s.opMarks a.crew (a.grp / 8) true else [],
            loose := if h.opr then s.looseCmds a (a.grp / 8) true else [] }
    stall := none
    ahead := true }

/-- R180, R302: the header's handle waits observe the statuses they waited for. -/
def State.observeWaits (s : State) (a : Agent) (hdr : W) : State :=
  let l := (List.range 8).filter (fun n => hdr.getLsbD (8 + n) && (a.handle n).status != 0)
  if l.isEmpty then s else l.foldl (fun s n => s.sawHandle a.id (a.handle n)) (s.observeDone a)

/-- R302, R303: a side at a header: checked, waited on, entered. The answer is the state to end the turn in, or the side
inside the clause. -/
def State.enterClause (s : State) (a : Agent) (slot : Bool) (sd : Side) : State ⊕ (State × Side) :=
  match s.fetchAt a slot sd sd.pt.hdr with
  | .stop s1 => .inl s1
  | .word w s1 =>
    match headerFor a w with
    | none => .inl (s1.takeTrap a.id slot sd.pt 1 (Trap.plain Cause.illegalClause w))
    | some h =>
      if !s1.waitsMet a w then .inl (s1.stall (cursorOf a slot w 1) (.waits w))
      else
        let t := s1.entered a sd w h
        .inr ((s1.modAgent a.id (fun b => b.setSide slot (some t))).observeWaits a w, t)

/-- R7: a program counter, fmt and lanes of free values; the lanes are not empty, and fmt is one that SWRITE may write (R51). -/
def Side.adrift (k : Nat) (sd : Side) : Side :=
  let pc (i : Nat) : ClausePt :=
    ClausePt.at ((Config.freeWord (k + i) ++ Config.freeWord (k + i + 1)) &&& 0xFFFFFFFFFFFFFFFC)
  let f := Config.freeWord (k + 4)
  let m := Config.freeWord (k + 5)
  { sd with pt := pc 0, ret := pc 2, fmt := if fmtOk f then f else sd.fmt, mask := if m = 0 then sd.mask else m,
            inHandler := Config.freeBit (k + 6), stall := none, began := none, ahead := false }

/-- R7: a stack entry of free values. -/
def Entry.adrift (k : Nat) (e : Entry) : Entry :=
  let f := Config.freeWord (k + 2)
  let m := Config.freeWord (k + 3)
  { e with pt := ClausePt.at ((Config.freeWord k ++ Config.freeWord (k + 1)) &&& 0xFFFFFFFFFFFFFFFC),
           fmt := if fmtOk f then f else e.fmt, mask := if m = 0 then e.mask else m,
           park := if Config.freeBit (k + 4) then e.park else none }

/-- R7, R71: a group with free registers, predicates, sides and stack entries. -/
def Agent.adrift (a : Agent) (k : Nat) : Agent :=
  { a with
    v := Vector.ofFn (fun r : Fin 128 => Vector.ofFn (fun l : Fin 32 => Config.freeWord (k + 32 * r.val + l.val)))
    s := Vector.ofFn (fun r : Fin 64 => Config.freeWord (k + 4096 + r.val))
    p := Vector.ofFn (fun r : Fin 7 => Config.freeWord (k + 4160 + r.val))
    prim := a.prim.map (Side.adrift (k + 4168))
    sec := a.sec.map (Side.adrift (k + 4176))
    stack := a.stack.mapIdx (fun i e => e.adrift (k + 4184 + 8 * i)) }

/-- R7, R71: what a group does after an access to its divergence-stack area is unpredictable: before each word that it issues,
its registers, predicates, sides and stack entries take free values. Nothing else changes (DESIGN CHOICE,
notes/assumptions/12.md). -/
def State.unsettle (s : State) (id : Nat) : State :=
  match s.agent? id with
  | some a =>
    if s.strayed.contains id then { (s.setAgent (a.adrift s.free)) with free := s.free + 4184 + 8 * a.stack.length } else s
  | none => s

/-- A side issues: at a header it enters the clause first. -/
def State.issueAs (s : State) (id : Nat) (slot : Bool) : Next :=
  match s.agent? id with
  | none => .next s
  | some a =>
    match a.side slot with
    | none => .next s
    | some sd =>
      if sd.pt.pos ≠ 0 then s.issueWord a slot sd
      else
        match s.enterClause a slot sd with
        | .inl s1 => .next (s1.issueEnd a slot)
        | .inr x =>
          match x.1.agent? id with
          | some b => x.1.issueWord b slot x.2
          | none => .next x.1

/-- R7, R71: a side issues, of a group whose behaviour is unpredictable as the free values have it. -/
def State.issueSide (s : State) (id : Nat) (slot : Bool) : Next := (s.unsettle id).issueAs id slot

/-! ### Turns -/

/-- R282: where a turn stands among the accesses to the semaphore of its package that reach the MP in one aclk: releases
first, then the read of HP0, then that of HP1. -/
def Turn.hsemRank (t : Turn) : Option (Nat × Nat) :=
  match t with
  | .event (.hsemRelease pkg _) => some (pkg, 0)
  | .event (.configRegisterWrite pkg (.pf _) off bytes) => if off = 4 ∧ bytes.length = 4 then some (pkg, 0) else none
  | .event (.hsemAcquire pkg port) => some (pkg, port + 1)
  | .hostRead pkg port none off len => if off = 0 ∧ len = 4 then some (pkg, port + 1) else none
  | _ => none

/-- R282: whether a turn goes before another one at the semaphore of one package. -/
def Turn.hsemBefore (t u : Turn) : Bool :=
  match t.hsemRank, u.hsemRank with
  | some x, some y => x.1 == y.1 && decide (x.2 < y.2)
  | _, _ => false

/-- R282: the turn that comes next, given the one at the head of the agenda, and the turns left after it. -/
def nextTurn (t : Turn) (rest : List Turn) : Turn × List Turn :=
  let u := rest.foldl (fun x u => if u.hsemBefore x then u else x) t
  if u = t then (t, rest) else (u, t :: rest.erase u)

/-- A turn of the agenda. -/
def State.runTurn (s : State) (t : Turn) : Next :=
  match t with
  | .issue a slot => if (s.agent? a).any s.runs then s.issueSide a slot else .next s
  | .event i => exec i s
  | .due d => s.runDue d
  | .mmio pkg off val => .next (s.mpWrite pkg none off val)
  | .submit pkg core hi => execXeSubSubmit pkg core hi s
  | .migrate pkg part stop => .next (s.migrate pkg part stop)
  | .hostRead pkg port vf off len => .next (s.hostRegRead pkg port vf off len)
  | .flit pkg link bytes => execFlitReceive pkg link bytes s
  | .transitFill pkg leaf inst leafAt asid va =>
    .next (s.fillTransit pkg leaf inst { at_ := leafAt, asid := asid, va := va })

end Sys2Proof.Machine
end

