-- ==== Sys2Proof/Machine/Step.lean ====
section
/-!
DEFINITION. Sys2Proof/Machine/Step.lean: one step of a domain, and the state in which the next step runs a given word.
-/
namespace Sys2Proof.Machine

/-- One step: the turn at the head of the agenda; else an event that comes about by itself; else the side that issues
next; else the next aclk (DESIGN CHOICE, notes/assumptions/5.md). -/
def step (s : State) : Host.Outcome State Fault Refusal :=
  match s.agenda with
  | t :: rest => State.runTurn { s with agenda := (nextTurn t rest).2 } (nextTurn t rest).1
  | [] =>
    match s.dueEvent with
    | some o => o
    | none =>
      match s.nextIssue with
      | some x => s.issueSide x.1 x.2
      | none => .next s.tick

/-! ### Placing an instruction (DESIGN CHOICE, notes/assumptions/8.md) -/

/-- The words that hold an opcode-table word, its clause header first. -/
def tableClause (nbits w : Nat) : List W :=
  let head (cls : Cls) (n : Nat) : W :=
    encodeHeader { count := n, cls := cls, hwait := 0, opr := false, sto := false, chn := false }
  let cls := if nbits ≤ 32 then (tableClass (tableWord w 0) (some (tableWord w 1))).getD .alu else .mtx
  let len :=
    match decode cls (tableWord w 0) (some (tableWord w 1)) with
    | .ok _ n => n
    | _ => 1
  match if nbits ≤ 32 then none else decodeHeader (tableWord w 0) with
  | some _ => [tableWord w 0, tableWord w 1, tableWord w 2]
  | none => [head cls len, tableWord w 0, tableWord w 1]

/-- The address at which the clause is placed. -/
def placeAt : Nat := 0x10000

/-- R133, R268: a table entry that maps the first 32 GiB of control space onto itself: MAPPED, 32 GiB, HARD, W, X. -/
def placeLeaf : DW := 0xED

/-- The group whose primary side stands at the placed clause. -/
def placeAgent (id crew : Nat) : Agent :=
  { Agent.blank with
    id := id
    crew := crew
    nregs := 128
    code := 0
    prim := some (Side.at (BitVec.allOnes 32) (BitVec.ofNat 64 placeAt) 0) }

/-- The crew of that group. -/
def placeCrew (id : Nat) : Crew :=
  { id := id, pkg := 0, vf := 0, launch := 0, stage := 0, gang := id, idx := 0, gangSize := 1, core := 0, ngroups := 1,
    regs := 128, size := 0, pad := [], full := [], poison := [], ready := 0, readyAt := [], seen := [], ended := 0, rings := [] }

/-- A state whose next step fetches and runs this opcode-table word: a group of VF 0 on package 0 stands at a clause that
holds it, in memory that VF 0 maps, in a partition that VF 0 owns. -/
def State.withFetchWord (s : State) (nbits w : Nat) : State :=
  let id := s.nextId
  let words := (tableClause nbits w).flatMap (fun x => toLE 4 x.toNat)
  let own (p : Pkg) : Pkg :=
    (p.modPart (p.vf 0).partNum (fun q => { q with phase := .run, owner := some 0, ce := some 0 })).modVf 0 (fun v =>
      { v with croot := 0 })
  let own (p : Pkg) : Pkg := { own p with formed := true }
  let s1 := s.modPkg 0 own
  { s1 with
    ctl := Memory.writeN (Memory.writeN s1.ctl 0 (toLE 8 placeLeaf.toNat)) placeAt words
    agents := s1.agents ++ [placeAgent id (id + 1)]
    crews := s1.crews ++ [placeCrew (id + 1)]
    nextId := id + 2
    agenda := [.issue id false] }

end Sys2Proof.Machine
end

