-- ==== Sys2Proof/Safety.lean ====
section
/-!
DEFINITION. Sys2Proof/Safety.lean: the form of state that every step keeps, what counts as a safe run (one that no fault
and no refusal ends), and the words in which the statements say what an instruction's operands must be and what a word
leaves unchanged.
-/
namespace Sys2Proof.Safety

open Sys2Proof.Machine

/-- The memories and the scratchpads of a state are in their canonical form (DESIGN CHOICE, notes/assumptions/1.md). -/
abbrev MemoryWf (s : State) : Prop :=
  Memory.wf s.ctl = true ∧ Memory.wf s.ten = true ∧ Memory.wf s.host = true ∧ ∀ k ∈ s.crews, Memory.wf k.pad = true

/-- A run of `n` steps that no fault and no refusal ends. -/
def RunsFor (n : Nat) (s : State) : Prop := ∃ t, Host.Core.run Sys2Proof.core n s = .next t

/-! ### Operands -/

/-- R308, R316 orders 2 and 4: a group, not a control core, whose allocation holds these vector registers. -/
abbrev Fits (a : Agent) (rs : List Nat) : Prop := a.isCc = false ∧ ∀ r ∈ rs, r < a.nregs

/-- R69: `sd` is the side of `a` that issues the word at `c`. -/
def Issues (s : State) (a : Agent) (sd : Side) (c : Cursor) : Prop := s.issuer? = some (a, sd, c)

/-! ### What a word wrote -/

/-- Register `d` of the active lanes holds `f`, and the side goes on with the next word (R305). -/
def wroteV (s : State) (a : Agent) (sd : Side) (c : Cursor) (g : Pred) (d : Nat) (f : Nat → W) :
    Host.Outcome State Fault Refusal :=
  .next ((s.setAgent (a.setV d (activeMask a sd g) f)).retire c)

/-- The same with the sticky flags `fl` of the active lanes merged into the side's fmt (R52). -/
def wroteVF (s : State) (a : Agent) (sd : Side) (c : Cursor) (g : Pred) (d : Nat) (f : Nat → Res) :
    Host.Outcome State Fault Refusal :=
  .next (((s.setAgent (a.setV d (activeMask a sd g) (fun l => (f l).w))).orFmt c
    (orFlags (activeMask a sd g) (fun l => (f l).flags))).retire c)

/-- A pair `d`, `d` + 1 of the active lanes, with flags. -/
def wroteVDF (s : State) (a : Agent) (sd : Side) (c : Cursor) (g : Pred) (d : Nat) (f : Nat → Res) :
    Host.Outcome State Fault Refusal :=
  .next (((s.setAgent (a.setVPair d (activeMask a sd g) (fun l => (f l).bits))).orFmt c
    (orFlags (activeMask a sd g) (fun l => (f l).flags))).retire c)

/-- Predicate `pd` of the active lanes holds the test `f`. -/
def wroteP (s : State) (a : Agent) (sd : Side) (c : Cursor) (g pd : Pred) (f : Nat → Bool) :
    Host.Outcome State Fault Refusal :=
  .next ((s.setAgent (a.setPred pd.toNat (activeMask a sd g) (laneBits (activeMask a sd g) f))).retire c)

/-- Scalar register `d` holds `x`. -/
def wroteS (s : State) (a : Agent) (c : Cursor) (d : Nat) (x : W) : Host.Outcome State Fault Refusal :=
  .next ((s.setAgent (a.setS d x)).retire c)

/-! ### Frames -/

/-- A state that differs from `s` in its agents alone, and among them in the agent numbered `id` alone: no byte of any
memory or scratchpad, no package register, no queue, launch or command differs. -/
def OnlyAgent (s t : State) (id : Nat) : Prop :=
  t = { s with agents := t.agents } ∧ ∀ j, j ≠ id → t.agent? j = s.agent? j

/-- R65 to R68, R74: what a register word leaves of an agent: everything but lanes `m` of the vector registers `vs`, the
scalar registers `ss`, the predicates `ps` (in lanes `m`), and of its issuing side the point of the next word and the
sticky flags of fmt; the counts `vcount` and `vlast` are the model's own (notes/assumptions/13.md). -/
structure Kept (a b : Agent) (slot : Bool) (m : W) (vs ss ps : List Nat) : Prop where
  rest : b = { a with v := b.v, vpoison := b.vpoison, vcount := b.vcount, vlast := b.vlast, s := b.s, p := b.p,
                      prim := b.prim, sec := b.sec }
  vector : ∀ r l, (r ∉ vs ∨ m.getLsbD l = false) → b.vreg r l = a.vreg r l
  scalar : ∀ r, r ∉ ss → b.sreg r = a.sreg r
  pred : ∀ k l, (k ∉ ps ∨ m.getLsbD l = false) → (b.pred k).getLsbD l = (a.pred k).getLsbD l
  other : b.side (!slot) = a.side (!slot)
  fmt : ∀ x y, a.side slot = some x → b.side slot = some y →
    y.mask = x.mask ∧ y.inHandler = x.inHandler ∧ y.ret = x.ret ∧ y.hold = x.hold ∧
    ∀ i, ¬(16 ≤ i ∧ i < 20) → y.fmt.getLsbD i = x.fmt.getLsbD i

/-- Every byte of the memories and of the scratchpads is as it was. -/
def SameBytes (s t : State) : Prop :=
  (∀ p, Memory.read t.ctl p = Memory.read s.ctl p) ∧ (∀ p, Memory.read t.ten p = Memory.read s.ten p) ∧
  (∀ p, Memory.read t.host p = Memory.read s.host p) ∧
  ∀ k, (t.crew? k).map Crew.pad = (s.crew? k).map Crew.pad

/-- R65, R315: what the words of class ALU but QNT write: vector registers, scalar registers and predicates, in the
active lanes of the guard named; none for any other word. -/
def aluWrites : Instr → Option (Pred × List Nat × List Nat × List Nat)
  | .iaddV g d _ _ | .isubV g d _ _ | .imulV g d _ _ | .imulhIV g d _ _ | .imulhNV g d _ _ | .imadV g d _ _
  | .iminIV g d _ _ | .iminNV g d _ _ | .imaxIV g d _ _ | .imaxNV g d _ _ | .andV g d _ _ | .orV g d _ _
  | .xorV g d _ _ | .shlV g d _ _ | .shrV g d _ _ | .sarV g d _ _ | .rotV g d _ _ | .bfeNV g d _ _ | .bfeIV g d _ _
  | .bfiV g d _ _ | .faddF32V g d _ _ | .faddH2 g d _ _ | .faddB2 g d _ _ | .fsubF32 g d _ _ | .fmulF32V g d _ _
  | .fmulH2 g d _ _ | .fmulB2 g d _ _ | .ffmaF32V g d _ _ | .ffmaH2 g d _ _ | .ffmaB2 g d _ _ | .fminF32 g d _ _
  | .fmaxF32 g d _ _ | .fdot2 g d _ _ | .shflIdx g d _ _ | .shflXor g d _ _ | .shflUp g d _ _ | .shflDown g d _ _
  | .vscan g d _ _ _ => some (g, [d.toNat], [], [])
  | .unpk g d _ _ | .pack g d _ _ => some (g, [d.toNat], [], [])
  | .selV _ d _ _ => some (0, [d.toNat], [], [])
  | .iabsV g d _ | .notV g d _ | .popcV g d _ | .clzV g d _ | .brevV g d _ | .movV g d _ | .frcp g d _ | .frsq g d _
  | .fsqrt g d _ | .fex2 g d _ | .flg2 g d _ | .fsin g d _ | .fcos g d _ => some (g, [d.toNat], [], [])
  | .pmovGet g d => some (g, [d.toNat], [], [])
  | .iaddDV g d _ _ | .isubDV g d _ _ | .faddF64 g d _ _ | .fsubF64 g d _ _ | .fmulF64 g d _ _ | .ffmaF64 g d _ _
  | .fminF64 g d _ _ | .fmaxF64 g d _ _ => some (g, [d.toNat, d.toNat + 1], [], [])
  | .cvtFromF32 g _ _ tf d _ | .cvtFromF64 g _ _ tf d _ | .cvtFromBf16 g _ _ tf d _ | .cvtFromF16 g _ _ tf d _
  | .cvtFromE4m3 g _ _ tf d _ | .cvtFromE5m2 g _ _ tf d _ | .cvtFromI32 g _ _ tf d _ | .cvtFromN32 g _ _ tf d _ =>
    some (g, if tf = .fp64 then [d.toNat, d.toNat + 1] else [d.toNat], [], [])
  | .iaddS g d _ _ | .isubS g d _ _ | .imulS g d _ _ | .imulhIS g d _ _ | .imulhNS g d _ _ | .imadS g d _ _
  | .iminIS g d _ _ | .iminNS g d _ _ | .imaxIS g d _ _ | .imaxNS g d _ _ | .andS g d _ _ | .orS g d _ _
  | .xorS g d _ _ | .shlS g d _ _ | .shrS g d _ _ | .sarS g d _ _ | .rotS g d _ _ | .bfeNS g d _ _ | .bfeIS g d _ _
  | .bfiS g d _ _ | .selS g d _ _ | .faddF32S g d _ _ | .fmulF32S g d _ _ | .ffmaF32S g d _ _ =>
    some (g, [], [d.toNat], [])
  | .iabsS g d _ | .notS g d _ | .popcS g d _ | .clzS g d _ | .brevS g d _ | .movS g d _ => some (g, [], [d.toNat], [])
  | .ballot g d _ | .vred g d _ _ => some (g, [], [d.toNat], [])
  | .iaddDS g d _ _ | .isubDS g d _ _ => some (g, [], [d.toNat, d.toNat + 1], [])
  | .vminxN g d _ _ | .vminxI g d _ _ | .vminxF g d _ _ | .vmaxxN g d _ _ | .vmaxxI g d _ _ | .vmaxxF g d _ _ =>
    some (g, [], [d.toNat, d.toNat + 1], [])
  | .icmpV g pd _ _ _ | .fcmpF32 g pd _ _ _ | .fcmpF64 g pd _ _ _ | .plop g pd _ _ _ => some (g, [], [], [pd.toNat])
  | .icmpS g pd _ _ _ => some (g, [], [], [pd.toNat])
  | .pmovNz g pd _ => some (g, [], [], [pd.toNat])
  | .pmovMask g pd _ => some (g, [], [], [pd.toNat])
  | .pmovPut g _ => some (g, [], [], [1, 2, 3, 4, 5, 6, 7])
  | .nop => some (0, [], [], [])
  | _ => none

/-- R65, R67, R69: the words of class CTL that neither split, park nor end a side nor arrive at a barrier, and the scalar
registers they write. -/
def ctlWrites : Instr → Option (List Nat)
  | .bra _ | .bany _ _ | .ball _ _ | .bnone _ _ | .ret _ | .brx _ _ | .trap _ _ => some []
  | .call _ _ => some [62, 63]
  | .getfmt _ d => some [d.toNat]
  | _ => none

/-- R308: the vector registers that a vector word names, for the words of class ALU and MEM whose first check is of those
registers (PACK, UNPK, QNT and the atomics check an operand before them, or have a form for control cores). -/
def vecRegs : Instr → Option (List Nat)
  | .iaddV _ d a b | .isubV _ d a b | .imulV _ d a b | .imulhIV _ d a b | .imulhNV _ d a b | .imadV _ d a b
  | .iminIV _ d a b | .iminNV _ d a b | .imaxIV _ d a b | .imaxNV _ d a b | .andV _ d a b | .orV _ d a b
  | .xorV _ d a b | .shlV _ d a b | .shrV _ d a b | .sarV _ d a b | .rotV _ d a b | .bfeNV _ d a b | .bfeIV _ d a b
  | .bfiV _ d a b | .selV _ d a b | .faddF32V _ d a b | .faddH2 _ d a b | .faddB2 _ d a b | .fsubF32 _ d a b
  | .fmulF32V _ d a b | .fmulH2 _ d a b | .fmulB2 _ d a b | .ffmaF32V _ d a b | .ffmaH2 _ d a b | .ffmaB2 _ d a b
  | .fminF32 _ d a b | .fmaxF32 _ d a b | .fdot2 _ d a b | .shflIdx _ d a b | .shflXor _ d a b | .shflUp _ d a b
  | .shflDown _ d a b => some (d.toNat :: a.toNat :: VSrc.regs b)
  | .iabsV _ d b | .notV _ d b | .popcV _ d b | .clzV _ d b | .brevV _ d b | .movV _ d b | .frcp _ d b | .frsq _ d b
  | .fsqrt _ d b | .fex2 _ d b | .flg2 _ d b | .fsin _ d b | .fcos _ d b => some (d.toNat :: VSrc.regs b)
  | .iaddDV _ d a b | .isubDV _ d a b | .faddF64 _ d a b | .fsubF64 _ d a b | .fmulF64 _ d a b | .ffmaF64 _ d a b
  | .fminF64 _ d a b | .fmaxF64 _ d a b =>
    some (d.toNat :: (d.toNat + 1) :: a.toNat :: (a.toNat + 1) :: VSrc.regsD b)
  | .icmpV _ _ _ a b | .fcmpF32 _ _ _ a b => some (a.toNat :: VSrc.regs b)
  | .fcmpF64 _ _ _ a b => some (a.toNat :: (a.toNat + 1) :: VSrc.regsD b)
  | .cvtFromF32 _ _ _ tf d a => some (cvtRegs tf d.toNat ++ cvtRegs .fp32 a.toNat)
  | .cvtFromF64 _ _ _ tf d a => some (cvtRegs tf d.toNat ++ cvtRegs .fp64 a.toNat)
  | .cvtFromBf16 _ _ _ tf d a => some (cvtRegs tf d.toNat ++ cvtRegs .bf16 a.toNat)
  | .cvtFromF16 _ _ _ tf d a => some (cvtRegs tf d.toNat ++ cvtRegs .fp16 a.toNat)
  | .cvtFromE4m3 _ _ _ tf d a => some (cvtRegs tf d.toNat ++ cvtRegs .e4m3 a.toNat)
  | .cvtFromE5m2 _ _ _ tf d a => some (cvtRegs tf d.toNat ++ cvtRegs .e5m2 a.toNat)
  | .cvtFromI32 _ _ _ tf d a => some (cvtRegs tf d.toNat ++ cvtRegs .i32 a.toNat)
  | .cvtFromN32 _ _ _ tf d a => some (cvtRegs tf d.toNat ++ cvtRegs .n32 a.toNat)
  | .pmovGet _ d => some [d.toNat]
  | .pmovPut _ b | .pmovNz _ _ b => some (VSrc.regs b)
  | .plop _ _ _ _ _ | .ballot _ _ _ | .pmovMask _ _ _ | .lkbind _ _ _ | .lkrst _ _ => some []
  | .vminxN _ _ a _ | .vminxI _ _ a _ | .vminxF _ _ a _ | .vmaxxN _ _ a _ | .vmaxxI _ _ a _ | .vmaxxF _ _ a _
  | .vred _ _ a _ => some [a.toNat]
  | .vscan _ d a _ _ => some [d.toNat, a.toNat]
  | .ldB8 _ _ _ _ d o | .ldX8 _ _ _ _ d o | .stB8 _ _ _ _ d o => some (dataRegs d.toNat 1 ++ VOff.regs o)
  | .ldB16 _ _ _ _ d o | .ldX16 _ _ _ _ d o | .stB16 _ _ _ _ d o => some (dataRegs d.toNat 2 ++ VOff.regs o)
  | .ldB32 _ _ _ _ d o | .stB32 _ _ _ _ d o => some (dataRegs d.toNat 4 ++ VOff.regs o)
  | .ldB64 _ _ _ _ d o | .stB64 _ _ _ _ d o => some (dataRegs d.toNat 8 ++ VOff.regs o)
  | .ldB128 _ _ _ _ d o | .stB128 _ _ _ _ d o => some (dataRegs d.toNat 16 ++ VOff.regs o)
  | .lkread _ d _ => some [d.toNat]
  | _ => none

/-! ### Accesses of memory words -/

/-- R260, R412: the accesses of a word, lane by lane: each of `lanes` passes the checks of R316 step 5 at its address and
lands at its target. -/
def Lands (s : State) (a : Agent) (k : Kind) (n : Nat) (lanes : List Nat) (va : Nat → DW)
    (ts : List (Nat × DW × Target)) : Prop :=
  ts.map (fun y => y.1) = lanes ∧ ∀ y ∈ ts, y.2.1 = va y.1 ∧ s.checkAddr (s.who a) k y.2.1 n = .ok y.2.2

/-- R71: no entry of a divergence stack stands at these bytes, which a program must not access. -/
def OffStacks (s : State) (t : Target) (n : Nat) : Prop :=
  (match t with
    | .ctl pa _ => s.agents.all (fun a => (List.range n).all (fun i => (a.entryByte (pa + i)).isNone))
    | _ => true) = true

/-- R71, R277: what the accesses of a word find is not poisoned, at its home or in a copy of the agent's core, and no entry of a
divergence stack stands there. -/
def Clean (s : State) (a : Agent) (n : Nat) (ts : List (Nat × DW × Target)) : Prop :=
  ∀ y ∈ ts, s.targetPoisoned y.2.2 n = false ∧ s.readPoisoned (s.who a) y.2.2 n = false ∧ OffStacks s y.2.2 n

/-- R140, R186: the copy that an agent's core holds of a line of control space. -/
def ownCopy (s : State) (a : Agent) (line : Nat) : Option L1Line :=
  (s.pkg? a.pkg).bind (fun p => p.l1Find (cacheCore a) .ctl line)

/-- The bytes of a target that no L1 copy stands before: a PRIVATE, HARD or UNCACHED page of control space, or a
scratchpad. -/
def plainBytes (s : State) (t : Target) (n : Nat) : Option (List Byte) :=
  match t with
  | .ctl pa coh => if coh = 1 then none else some (Memory.readN s.ctl pa n)
  | .pad k off _ => (s.crew? k).map (fun c => Memory.readN c.pad off n)
  | .ten _ => none
  | .mmio _ => none

/-- The byte that a value of `n` bytes stored at a target gives an address of a memory: memory 0 is control memory, 1
tensor memory, 3 + k the scratchpad of crew k. -/
def byteOf (t : Target) (n v mem a : Nat) : Option Byte :=
  if t.place.1 = mem ∧ t.place.2 ≤ a ∧ a < t.place.2 + n then some (BitVec.ofNat 8 (v / 256 ^ (a - t.place.2))) else none

/-- R458: the byte that the stores of a word give an address: that of the highest lane that covers it. -/
def covering (n : Nat) (v : Nat → Nat) (ts : List (Nat × DW × Target)) (mem a : Nat) : Option Byte :=
  ts.foldl (fun b y => (byteOf y.2.2 n (v y.1) mem a).or b) none

/-- Every byte that `f` gives is as `f` says, and every other byte is as it was. -/
def Stored (s t : State) (f : Nat → Nat → Option Byte) : Prop :=
  (∀ p, Memory.read t.ctl p = (f 0 p).getD (Memory.read s.ctl p)) ∧
  (∀ p, Memory.read t.ten p = (f 1 p).getD (Memory.read s.ten p)) ∧
  (∀ p, Memory.read t.host p = Memory.read s.host p) ∧
  ∀ k c, s.crew? k = some c → ∃ d, t.crew? k = some d ∧
    ∀ p, Memory.read d.pad p = (f (3 + k) p).getD (Memory.read c.pad p)

/-- The bytes of the memories and scratchpads: memory 0 is control memory, 1 tensor memory, 3 + k the scratchpad of
crew k. -/
def bytesOf (s : State) (mem a : Nat) : Byte :=
  if mem = 0 then Memory.read s.ctl a
  else if mem = 1 then Memory.read s.ten a
  else ((s.crew? (mem - 3)).map (fun c => Memory.read c.pad a)).getD 0

/-- R165, R334: atomics performed one at a time in the order of the list on a view of the bytes: each lane's old value,
the last lane first, and the bytes left. -/
def atomsRun (n : Nat) (f : Nat → Nat → Option Nat) :
    List (Nat × DW × Target) → List (Nat × Nat) → (Nat → Nat → Byte) → List (Nat × Nat) × (Nat → Nat → Byte)
  | [], olds, view => (olds, view)
  | y :: r, olds, view =>
    let old := leNat ((List.range n).map (fun i => view y.2.2.place.1 (y.2.2.place.2 + i)))
    atomsRun n f r ((y.1, old) :: olds) (match f y.1 old with
      | some v => fun mem a => (byteOf y.2.2 n v mem a).getD (view mem a)
      | none => view)

/-- The agent `a` advanced past its word, the sticky flags `fl` merged into the side's fmt, and every other agent is as it
was. -/
def AdvancedWith (s t : State) (a : Agent) (c : Cursor) (sd : Side) (m : W) (vs ss : List Nat) (fl : W) : Prop :=
  ∃ b, t.agent? a.id = some b ∧ Kept a b c.slot m vs ss [] ∧
    (∃ e, b.side c.slot = some e ∧ e.pt = sd.pt.advance c.len ∧ e.stall = none ∧ e.fmt = sd.fmt ||| fl) ∧
    ∀ j, j ≠ a.id → t.agent? j = s.agent? j

/-- The agent `a` advanced past its word with no flag, and every other agent is as it was. -/
def Advanced (s t : State) (a : Agent) (c : Cursor) (sd : Side) (m : W) (vs ss : List Nat) : Prop :=
  AdvancedWith s t a c sd m vs ss 0

/-- R182, R239: the accumulators of a group that hold results of resolved MMAs which it may not yet read; they take them
when it learns of the resolution (DEDUCED, notes/assumptions/13.md). -/
def accRegs (s : State) (a : Agent) : List Nat :=
  (s.accRes.filter (fun m => m.has a)).flatMap (fun m => m.regs.map (m.acc + ·))

end Sys2Proof.Safety
end

