-- ==== Sys2Proof/Certificates/Slice0/Obligations.lean ====
section
/-!
DEFINITION. Sys2Proof/Certificates/Slice0/Obligations.lean: the statements for the provers.
-/

open Sys2Proof Sys2Proof.Machine Sys2Proof.Safety

/-! ### Class ALU: integer words -/

/-- R408, R332, R343, R344, R428, R430, R433, R441, R347, R361, R447, R451, R472: the vector forms of the integer words
complete with the result that the rule gives in every active lane, for every operand whose registers the allocation
holds. -/
def Obligations.IntVectorResults : Prop :=
  ∀ (s : State) (x : Agent) (sd : Side) (c : Cursor) (g : Pred) (d a : VReg) (b : VSrc),
    Issues s x sd c → Fits x (d.toNat :: a.toNat :: VSrc.regs b) →
    let D (l : Nat) : W := x.vreg d.toNat l
    let A (l : Nat) : W := x.vreg a.toNat l
    let B (l : Nat) : W := VSrc.get x b l
    let sh (l : Nat) : Nat := (B l).toNat % 256
    let res (f : Nat → W) := wroteV s x sd c g d.toNat f
    exec (.iaddV g d a b) s = res (fun l => A l + B l) ∧
    exec (.isubV g d a b) s = res (fun l => A l - B l) ∧
    exec (.imulV g d a b) s = res (fun l => A l * B l) ∧
    exec (.imadV g d a b) s = res (fun l => A l * B l + D l) ∧
    exec (.imulhIV g d a b) s = res (fun l => (BitVec.ofInt 64 ((A l).toInt * (B l).toInt)).extractLsb' 32 32) ∧
    exec (.imulhNV g d a b) s = res (fun l => (BitVec.ofNat 64 ((A l).toNat * (B l).toNat)).extractLsb' 32 32) ∧
    exec (.iminIV g d a b) s = res (fun l => if (A l).toInt < (B l).toInt then A l else B l) ∧
    exec (.iminNV g d a b) s = res (fun l => if (A l).toNat < (B l).toNat then A l else B l) ∧
    exec (.imaxIV g d a b) s = res (fun l => if (B l).toInt < (A l).toInt then A l else B l) ∧
    exec (.imaxNV g d a b) s = res (fun l => if (B l).toNat < (A l).toNat then A l else B l) ∧
    exec (.iabsV g d b) s = res (fun l => if (B l).toInt < 0 then -(B l) else B l) ∧
    exec (.andV g d a b) s = res (fun l => A l &&& B l) ∧
    exec (.orV g d a b) s = res (fun l => A l ||| B l) ∧
    exec (.xorV g d a b) s = res (fun l => A l ^^^ B l) ∧
    exec (.notV g d b) s = res (fun l => ~~~(B l)) ∧
    exec (.shlV g d a b) s = res (fun l => A l <<< sh l) ∧
    exec (.shrV g d a b) s = res (fun l => A l >>> sh l) ∧
    exec (.sarV g d a b) s = res (fun l => (A l).sshiftRight (sh l)) ∧
    exec (.rotV g d a b) s = res (fun l => (A l).rotateLeft (sh l % 32)) ∧
    exec (.popcV g d b) s = res (fun l => BitVec.ofNat 32 ((List.range 32).countP (fun i => (B l).getLsbD i))) ∧
    exec (.clzV g d b) s = res (fun l => if B l = 0 then 32 else BitVec.ofNat 32 (31 - Nat.log2 (B l).toNat)) ∧
    exec (.brevV g d b) s = res (fun l => (B l).reverse) ∧
    exec (.bfeNV g d a b) s = res (fun l => bfeN (A l) (B l)) ∧
    exec (.bfeIV g d a b) s = res (fun l => bfeI (A l) (B l)) ∧
    exec (.bfiV g d a b) s = res (fun l => bfiW (D l) (A l) (B l)) ∧
    exec (.movV g d b) s = res B ∧
    exec (.selV g d a b) s = .next ((s.setAgent (x.setV d.toNat sd.mask (fun l =>
      if (x.pred g.toNat).getLsbD l then A l else B l))).retire c)

/-- R65, R408, R332, R343, R344, R428, R430, R433, R441, R347, R361, R447, R451, R472: the scalar forms compute once,
where the guard is true in some lane of the side. -/
def Obligations.IntScalarResults : Prop :=
  ∀ (s : State) (x : Agent) (sd : Side) (c : Cursor) (g : Pred) (d a : SReg) (b : SSrc),
    Issues s x sd c →
    let D : W := x.sreg d.toNat
    let A : W := x.sreg a.toNat
    let B : W := SSrc.get x b
    let sh : Nat := B.toNat % 256
    let res (w : W) : Host.Outcome State Fault Refusal :=
      if activeMask x sd g = 0 then .next (s.retire c) else wroteS s x c d.toNat w
    exec (.iaddS g d a b) s = res (A + B) ∧
    exec (.isubS g d a b) s = res (A - B) ∧
    exec (.imulS g d a b) s = res (A * B) ∧
    exec (.imadS g d a b) s = res (A * B + D) ∧
    exec (.imulhIS g d a b) s = res ((BitVec.ofInt 64 (A.toInt * B.toInt)).extractLsb' 32 32) ∧
    exec (.imulhNS g d a b) s = res ((BitVec.ofNat 64 (A.toNat * B.toNat)).extractLsb' 32 32) ∧
    exec (.iminIS g d a b) s = res (if A.toInt < B.toInt then A else B) ∧
    exec (.iminNS g d a b) s = res (if A.toNat < B.toNat then A else B) ∧
    exec (.imaxIS g d a b) s = res (if B.toInt < A.toInt then A else B) ∧
    exec (.imaxNS g d a b) s = res (if B.toNat < A.toNat then A else B) ∧
    exec (.iabsS g d b) s = res (if B.toInt < 0 then -B else B) ∧
    exec (.andS g d a b) s = res (A &&& B) ∧
    exec (.orS g d a b) s = res (A ||| B) ∧
    exec (.xorS g d a b) s = res (A ^^^ B) ∧
    exec (.notS g d b) s = res (~~~B) ∧
    exec (.shlS g d a b) s = res (A <<< sh) ∧
    exec (.shrS g d a b) s = res (A >>> sh) ∧
    exec (.sarS g d a b) s = res (A.sshiftRight sh) ∧
    exec (.rotS g d a b) s = res (A.rotateLeft (sh % 32)) ∧
    exec (.popcS g d b) s = res (BitVec.ofNat 32 ((List.range 32).countP (fun i => B.getLsbD i))) ∧
    exec (.clzS g d b) s = res (if B = 0 then 32 else BitVec.ofNat 32 (31 - Nat.log2 B.toNat)) ∧
    exec (.brevS g d b) s = res B.reverse ∧
    exec (.bfeNS g d a b) s = res (bfeN A B) ∧
    exec (.bfeIS g d a b) s = res (bfeI A B) ∧
    exec (.bfiS g d a b) s = res (bfiW D A B) ∧
    exec (.movS g d b) s = res B ∧
    exec (.selS g d a b) s = wroteS s x c d.toNat (if activeMask x sd g = 0 then B else A)

/-- R343, R344: BFE and BFI, in the vector and the scalar form: their words, the registers that they read and write, and their
fields bit by bit: position [7:0] and width [15:8] of B, a width above 32 counting as 32 and a width of 0 giving no field. -/
def Obligations.BitFields : Prop :=
  (∀ (s : State) (x : Agent) (sd : Side) (c : Cursor) (g : Pred) (d a : VReg) (b : VSrc),
    Issues s x sd c → Fits x (d.toNat :: a.toNat :: VSrc.regs b) →
    let res (f : W → W → W → W) := wroteV s x sd c g d.toNat (fun l => f (x.vreg d.toNat l) (x.vreg a.toNat l) (VSrc.get x b l))
    exec (.bfeNV g d a b) s = res (fun _ p q => bfeN p q) ∧ exec (.bfeIV g d a b) s = res (fun _ p q => bfeI p q) ∧
    exec (.bfiV g d a b) s = res bfiW) ∧
  (∀ (s : State) (x : Agent) (sd : Side) (c : Cursor) (g : Pred) (d a : SReg) (b : SSrc),
    Issues s x sd c →
    let res (f : W → W → W → W) : Host.Outcome State Fault Refusal :=
      if activeMask x sd g = 0 then .next (s.retire c)
      else wroteS s x c d.toNat (f (x.sreg d.toNat) (x.sreg a.toNat) (SSrc.get x b))
    exec (.bfeNS g d a b) s = res (fun _ p q => bfeN p q) ∧ exec (.bfeIS g d a b) s = res (fun _ p q => bfeI p q) ∧
    exec (.bfiS g d a b) s = res bfiW) ∧
  (decode .alu 0x6020417F (some 0x408) = .ok (.bfeNV 0 1 2 (.lit 0x408)) 2 ∧
    decode .alu 0x6220417F (some 0x408) = .ok (.bfeNS 0 1 2 (.lit 0x408)) 2 ∧
    decode .alu 0x6420417F (some 0x408) = .ok (.bfeIV 0 1 2 (.lit 0x408)) 2 ∧
    decode .alu 0x6620417F (some 0x408) = .ok (.bfeIS 0 1 2 (.lit 0x408)) 2 ∧
    decode .alu 0x6820417F (some 0x408) = .ok (.bfiV 0 1 2 (.lit 0x408)) 2 ∧
    decode .alu 0x6A20417F (some 0x408) = .ok (.bfiS 0 1 2 (.lit 0x408)) 2 ∧
    bfeN 0xAF00 0x408 = 0xF ∧ bfeI 0xAF00 0x408 = 0xFFFFFFFF) ∧
  ∀ (d a b : W),
    let p := b.toNat % 256
    let w := min (b.toNat / 256 % 256) 32
    (w = 0 → bfeN a b = 0 ∧ bfeI a b = 0 ∧ bfiW d a b = d) ∧
    ∀ i, i < 32 →
      (bfeN a b).getLsbD i = (decide (i < w) && a.getLsbD (p + i)) ∧
      (0 < w → (bfeI a b).getLsbD i =
        if i < w then a.getLsbD (p + i) else (decide (p + w - 1 < 32) && a.getLsbD (p + w - 1))) ∧
      (bfiW d a b).getLsbD i = if p ≤ i ∧ i < p + w then a.getLsbD (i - p) else d.getLsbD i

/-- R408, R409, R3: IADD.D and ISUB.D work modulo 2^64 on register pairs. -/
def Obligations.PairResults : Prop :=
  (∀ (s : State) (x : Agent) (sd : Side) (c : Cursor) (g : Pred) (d a : VReg) (b : VSrc),
    Issues s x sd c → Fits x (d.toNat :: (d.toNat + 1) :: a.toNat :: (a.toNat + 1) :: VSrc.regsD b) →
    let res (f : Nat → DW) : Host.Outcome State Fault Refusal :=
      .next ((s.setAgent (x.setVPair d.toNat (activeMask x sd g) f)).retire c)
    exec (.iaddDV g d a b) s = res (fun l => x.vpair a.toNat l + VSrc.getD x b l) ∧
    exec (.isubDV g d a b) s = res (fun l => x.vpair a.toNat l - VSrc.getD x b l)) ∧
  (∀ (s : State) (x : Agent) (sd : Side) (c : Cursor) (g : Pred) (d a : SReg) (b : SSrc),
    Issues s x sd c →
    let A := pairVal (x.sreg a.toNat) (x.sreg (a.toNat + 1))
    let res (w : DW) : Host.Outcome State Fault Refusal :=
      if activeMask x sd g = 0 then .next (s.retire c) else .next ((s.setAgent (x.setPair d.toNat w)).retire c)
    exec (.iaddDS g d a b) s = res (A + SSrc.getD x b) ∧
    exec (.isubDS g d a b) s = res (A - SSrc.getD x b))

/-- R313, R384, R410, R438, R439, R440, R338: the words that write predicates, and BALLOT and PMOV.GET that read them. All but
the scalar ICMP are vector-only, and so on a group (`Fits`). -/
def Obligations.PredicateResults : Prop :=
  ∀ (s : State) (x : Agent) (sd : Side) (c : Cursor) (g pd pa pb : Pred) (d a : VReg) (r sa : SReg) (b : VSrc) (sb : SSrc)
    (cc : ICond) (fc : FCond) (lut : BitVec 4),
    Issues s x sd c →
    let m := activeMask x sd g
    let vec : Prop := Fits x (a.toNat :: VSrc.regs b)
    (vec → exec (.icmpV g pd cc a b) s =
      wroteP s x sd c g pd (fun l => ICond.holds cc (x.vreg a.toNat l) (VSrc.get x b l))) ∧
    exec (.icmpS g pd cc sa sb) s = (if m = 0 then .next (s.retire c) else
      wroteP s x sd c g pd (fun _ => ICond.holds cc (x.sreg sa.toNat) (SSrc.get x sb))) ∧
    (let va (l : Nat) := Fmt.valueFtz (fmtFtz sd.fmt) .fp32 (x.vreg a.toNat l).toNat
     let vb (l : Nat) := Fmt.valueFtz (fmtFtz sd.fmt) .fp32 (VSrc.get x b l).toNat
     vec → exec (.fcmpF32 g pd fc a b) s = .next (((s.setAgent (x.setPred pd.toNat m
       (laneBits m (fun l => FCond.holds fc (va l) (vb l))))).orFmt c
       (orFlags m (fun l => FCond.flags fc (va l) (vb l)))).retire c)) ∧
    (let va (l : Nat) := Fmt.value .fp64 (x.vpair a.toNat l).toNat
     let vb (l : Nat) := VSrc.valF64 x b l
     Fits x ((a.toNat + 1) :: a.toNat :: VSrc.regsD b) → exec (.fcmpF64 g pd fc a b) s = .next (((s.setAgent (x.setPred pd.toNat m
       (laneBits m (fun l => FCond.holds fc (va l) (vb l))))).orFmt c
       (orFlags m (fun l => FCond.flags fc (va l) (vb l)))).retire c)) ∧
    (Fits x [] →
      exec (.plop g pd lut pa pb) s = wroteP s x sd c g pd (fun l =>
        lut.getLsbD ((if (x.pred pa.toNat).getLsbD l then 2 else 0) + (if (x.pred pb.toNat).getLsbD l then 1 else 0))) ∧
      exec (.ballot g r pd) s = (if m = 0 then .next (s.retire c) else
        wroteS s x c r.toNat (m &&& x.pred pd.toNat)) ∧
      exec (.pmovMask g pd sb) s = .next ((s.setAgent (x.setPred pd.toNat m (SSrc.get x sb))).retire c)) ∧
    (Fits x [d.toNat] → exec (.pmovGet g d) s = wroteV s x sd c g d.toNat (fun l => predByte x l)) ∧
    (Fits x (VSrc.regs b) →
      exec (.pmovPut g b) s = .next ((s.setAgent (putPreds x m (VSrc.get x b))).retire c) ∧
      exec (.pmovNz g pd b) s = wroteP s x sd c g pd (fun l => VSrc.get x b l != 0))

/-- R440: the four modes of PMOV complete, and what they write, predicate by predicate: inactive lanes and p0 keep what
they hold, and no flag is set. -/
def Obligations.PredicateBytes : Prop :=
  ∀ (s : State) (x : Agent) (sd : Side) (c : Cursor) (g pd : Pred) (d : VReg) (b : VSrc) (sb : SSrc),
    Issues s x sd c → Fits x (d.toNat :: VSrc.regs b) →
    let m := activeMask x sd g
    let nz := laneBits m (fun l => VSrc.get x b l != 0)
    exec (.pmovGet g d) s = wroteV s x sd c g d.toNat (predByte x) ∧
    exec (.pmovPut g b) s = .next ((s.setAgent (putPreds x m (VSrc.get x b))).retire c) ∧
    exec (.pmovNz g pd b) s = .next ((s.setAgent (x.setPred pd.toNat m nz)).retire c) ∧
    exec (.pmovMask g pd sb) s = .next ((s.setAgent (x.setPred pd.toNat m (SSrc.get x sb))).retire c) ∧
    ∀ l, l < 32 →
      (∀ k, (predByte x l).getLsbD k = (decide (k < 8) && (x.pred k).getLsbD l)) ∧ (x.pred 0).getLsbD l = true ∧
      nz.getLsbD l = (m.getLsbD l && VSrc.get x b l != 0) ∧
      ∀ k, k < 8 →
        ((putPreds x m (VSrc.get x b)).pred k).getLsbD l =
          (if k ≠ 0 ∧ m.getLsbD l then (VSrc.get x b l).getLsbD k else (x.pred k).getLsbD l) ∧
        ∀ v : W, ((x.setPred pd.toNat m v).pred k).getLsbD l =
          if k = pd.toNat ∧ k ≠ 0 ∧ m.getLsbD l then v.getLsbD l else (x.pred k).getLsbD l

/-! ### Class ALU: floating point -/

/-- R379, R380, R381, R390, R394, R46, R52: the floating-point words complete: the exact result of the flushed operands
rounded once under the side's fmt, with the flags of the active lanes. -/
def Obligations.FloatVectorResults : Prop :=
  ∀ (s : State) (x : Agent) (sd : Side) (c : Cursor) (g : Pred) (d a : VReg) (b : VSrc),
    Issues s x sd c → Fits x (d.toNat :: a.toNat :: VSrc.regs b) →
    let rm := fmtRm sd.fmt
    let ftz := fmtFtz sd.fmt
    let A (l : Nat) : FVal := Fmt.valueFtz ftz .fp32 (x.vreg a.toNat l).toNat
    let B (l : Nat) : FVal := Fmt.valueFtz ftz .fp32 (VSrc.get x b l).toNat
    let D (l : Nat) : FVal := Fmt.valueFtz ftz .fp32 (x.vreg d.toNat l).toNat
    let e (f : Fmt) (w : W) (h : Bool) : FVal := Fmt.valueFtz ftz f (if h then half1 w else half0 w)
    let two (f : W → W → W → Bool → Res) (l : Nat) : Res :=
      pairRes (f (x.vreg d.toNat l) (x.vreg a.toNat l) (VSrc.get x b l) false)
        (f (x.vreg d.toNat l) (x.vreg a.toNat l) (VSrc.get x b l) true)
    let res (f : Nat → Res) := wroteVF s x sd c g d.toNat f
    exec (.faddF32V g d a b) s = res (fun l => addRes .fp32 rm ftz (A l) (B l)) ∧
    exec (.fsubF32 g d a b) s = res (fun l => addRes .fp32 rm ftz (A l) (B l).neg) ∧
    exec (.fmulF32V g d a b) s = res (fun l => mulRes .fp32 rm ftz (A l) (B l)) ∧
    exec (.ffmaF32V g d a b) s = res (fun l => fmaRes .fp32 rm ftz (A l) (B l) (D l)) ∧
    exec (.faddH2 g d a b) s = res (two (fun _ p q h => addRes .fp16 rm ftz (e .fp16 p h) (e .fp16 q h))) ∧
    exec (.fmulH2 g d a b) s = res (two (fun _ p q h => mulRes .fp16 rm ftz (e .fp16 p h) (e .fp16 q h))) ∧
    exec (.ffmaH2 g d a b) s =
      res (two (fun r p q h => fmaRes .fp16 rm ftz (e .fp16 p h) (e .fp16 q h) (e .fp16 r h))) ∧
    exec (.faddB2 g d a b) s = res (two (fun _ p q h => addRes .bf16 rm ftz (e .bf16 p h) (e .bf16 q h))) ∧
    exec (.fmulB2 g d a b) s = res (two (fun _ p q h => mulRes .bf16 rm ftz (e .bf16 p h) (e .bf16 q h))) ∧
    exec (.ffmaB2 g d a b) s =
      res (two (fun r p q h => fmaRes .bf16 rm ftz (e .bf16 p h) (e .bf16 q h) (e .bf16 r h))) ∧
    exec (.fminF32 g d a b) s = res (fun l => minmaxRes .fp32 false (A l) (B l)
      ((flush32 ftz (x.vreg a.toNat l)).setWidth 64) ((flush32 ftz (VSrc.get x b l)).setWidth 64)) ∧
    exec (.fmaxF32 g d a b) s = res (fun l => minmaxRes .fp32 true (A l) (B l)
      ((flush32 ftz (x.vreg a.toNat l)).setWidth 64) ((flush32 ftz (VSrc.get x b l)).setWidth 64)) ∧
    exec (.fdot2 g d a b) s = res (fun l => dot2Res rm ftz
      (e .bf16 (x.vreg a.toNat l) false) (e .bf16 (VSrc.get x b l) false)
      (e .bf16 (x.vreg a.toNat l) true) (e .bf16 (VSrc.get x b l) true) (D l))

/-- R379 to R381, R394, R46: the .F64 forms on register pairs, never flushed, and R65: the scalar .F32 forms. -/
def Obligations.FloatPairAndScalarResults : Prop :=
  (∀ (s : State) (x : Agent) (sd : Side) (c : Cursor) (g : Pred) (d a : VReg) (b : VSrc),
    Issues s x sd c → Fits x (d.toNat :: (d.toNat + 1) :: a.toNat :: (a.toNat + 1) :: VSrc.regsD b) →
    let rm := fmtRm sd.fmt
    let A (l : Nat) : FVal := Fmt.value .fp64 (x.vpair a.toNat l).toNat
    let B (l : Nat) : FVal := VSrc.valF64 x b l
    let D (l : Nat) : FVal := Fmt.value .fp64 (x.vpair d.toNat l).toNat
    let res (f : Nat → Res) := wroteVDF s x sd c g d.toNat f
    exec (.faddF64 g d a b) s = res (fun l => addRes .fp64 rm false (A l) (B l)) ∧
    exec (.fsubF64 g d a b) s = res (fun l => addRes .fp64 rm false (A l) (B l).neg) ∧
    exec (.fmulF64 g d a b) s = res (fun l => mulRes .fp64 rm false (A l) (B l)) ∧
    exec (.ffmaF64 g d a b) s = res (fun l => fmaRes .fp64 rm false (A l) (B l) (D l)) ∧
    exec (.fminF64 g d a b) s =
      res (fun l => minmaxRes .fp64 false (A l) (B l) (x.vpair a.toNat l) (VSrc.getF64 x b l)) ∧
    exec (.fmaxF64 g d a b) s =
      res (fun l => minmaxRes .fp64 true (A l) (B l) (x.vpair a.toNat l) (VSrc.getF64 x b l))) ∧
  (∀ (s : State) (x : Agent) (sd : Side) (c : Cursor) (g : Pred) (d a : SReg) (b : SSrc),
    Issues s x sd c →
    let v (w : W) : FVal := Fmt.valueFtz (fmtFtz sd.fmt) .fp32 w.toNat
    let A := v (x.sreg a.toNat)
    let B := v (SSrc.get x b)
    let D := v (x.sreg d.toNat)
    let res (r : Res) : Host.Outcome State Fault Refusal :=
      if activeMask x sd g = 0 then .next (s.retire c)
      else .next (((s.setAgent (x.setS d.toNat r.w)).orFmt c r.flags).retire c)
    exec (.faddF32S g d a b) s = res (addRes .fp32 (fmtRm sd.fmt) (fmtFtz sd.fmt) A B) ∧
    exec (.fmulF32S g d a b) s = res (mulRes .fp32 (fmtRm sd.fmt) (fmtFtz sd.fmt) A B) ∧
    exec (.ffmaF32S g d a b) s = res (fmaRes .fp32 (fmtRm sd.fmt) (fmtFtz sd.fmt) A B D))

/-- R386 to R389: the unary words complete with the result of their function at the flushed operand. -/
def Obligations.UnaryFloatResults : Prop :=
  ∀ (s : State) (x : Agent) (sd : Side) (c : Cursor) (g : Pred) (d : VReg) (b : VSrc),
    Issues s x sd c → Fits x (d.toNat :: VSrc.regs b) →
    let ftz := fmtFtz sd.fmt
    let B (l : Nat) : W := flush32 ftz (VSrc.get x b l)
    let res (f : Nat → Res) := wroteVF s x sd c g d.toNat f
    exec (.frcp g d b) s = res (fun l => frcpRes ftz (B l)) ∧
    exec (.frsq g d b) s = res (fun l => frsqRes ftz (B l)) ∧
    exec (.fsqrt g d b) s = res (fun l => fsqrtRes (fmtRm sd.fmt) (B l)) ∧
    exec (.fex2 g d b) s = res (fun l => fex2Res ftz (B l)) ∧
    exec (.flg2 g d b) s = res (fun l => flg2Res ftz (B l)) ∧
    exec (.fsin g d b) s = res (fun l => fsinRes ftz (B l)) ∧
    exec (.fcos g d b) s = res (fun l => fcosRes ftz (B l))

/-- R388, R389, R43, R44, R394: the special inputs of the unary words: infinities, zeros, NaNs, and negative finite values, of
which FRCP keeps the sign and FRSQ, FSQRT and FLG2 are invalid. A NaN operand of a sum, a product or a fused sum gives the
canonical NaN, with SINV exactly where an operand signals or the operation is invalid; two NaNs, and three, do the same; an
infinity less itself and zero times infinity are invalid. FMIN and FMAX return the other operand of one quiet NaN. -/
def Obligations.SpecialInputResults : Prop :=
  (∀ (ftz : Bool) (rm : Rm),
    let nan : Res := { bits := 0x7FC00000, flags := 0x20000 }
    let funs : List (W → Res) :=
      [frcpRes ftz, frsqRes ftz, fsqrtRes rm, fex2Res ftz, flg2Res ftz, fsinRes ftz, fcosRes ftz]
    let at4 (f : W → Res) (pInf nInf pZero nZero : Res) : Prop :=
      f 0x7F800000 = pInf ∧ f 0xFF800000 = nInf ∧ f 0 = pZero ∧ f 0x80000000 = nZero
    let v (w : DW) : Res := { bits := w, flags := 0 }
    at4 (frcpRes ftz) (v 0) (v 0x80000000) (v 0x7F800000) (v 0xFF800000) ∧
    at4 (frsqRes ftz) (v 0) nan (v 0x7F800000) (v 0xFF800000) ∧
    at4 (fsqrtRes rm) (v 0x7F800000) nan (v 0) (v 0x80000000) ∧
    at4 (fex2Res ftz) (v 0x7F800000) (v 0) (v 0x3F800000) (v 0x3F800000) ∧
    at4 (flg2Res ftz) (v 0x7F800000) nan (v 0xFF800000) (v 0xFF800000) ∧
    at4 (fsinRes ftz) nan nan (v 0) (v 0x80000000) ∧
    at4 (fcosRes ftz) nan nan (v 0x3F800000) (v 0x3F800000) ∧
    (∀ (x : W) (sig : Bool), Fmt.value .fp32 x.toNat = .nan sig →
      ∀ f ∈ funs, f x = { bits := 0x7FC00000, flags := if sig then 0x20000 else 0 }) ∧
    ∀ (x : W) (m : Nat) (e : Int), Fmt.value .fp32 x.toNat = .fin true m e → m ≠ 0 →
      frsqRes ftz x = nan ∧ fsqrtRes rm x = nan ∧ flg2Res ftz x = nan ∧ (frcpRes ftz x).bits.getLsbD 31 = true) ∧
  (∀ (f : Fmt) (rm : Rm) (ftz sig sig2 sig3 n mx : Bool) (v w : FVal) (p q : DW), v.isNan = false → w.isNan = false →
    let nan (inv : Bool) : Res := { bits := toDW (Fmt.canonNan f), flags := if inv then 0x20000 else 0 }
    addRes f rm ftz (.nan sig) v = nan sig ∧ addRes f rm ftz v (.nan sig) = nan sig ∧
    mulRes f rm ftz (.nan sig) v = nan sig ∧ mulRes f rm ftz v (.nan sig) = nan sig ∧
    addRes f rm ftz (.inf n) (.inf (!n)) = nan true ∧
    mulRes f rm ftz (.inf n) (.fin sig 0 0) = nan true ∧ mulRes f rm ftz (.fin sig 0 0) (.inf n) = nan true ∧
    addRes f rm ftz (.nan sig) (.nan sig2) = nan (sig || sig2) ∧
    mulRes f rm ftz (.nan sig) (.nan sig2) = nan (sig || sig2) ∧
    fmaRes f rm ftz (.nan sig) v w = nan sig ∧ fmaRes f rm ftz v (.nan sig) w = nan sig ∧
    fmaRes f rm ftz v w (.nan sig) = nan (sig || mulInvalid v w) ∧
    fmaRes f rm ftz (.nan sig) (.nan sig2) (.nan sig3) = nan (sig || sig2 || sig3) ∧
    fmaRes f rm ftz (.inf n) (.fin sig 0 0) w = nan true ∧
    minmaxRes f mx (.nan false) v p q = { bits := q, flags := 0 } ∧
    minmaxRes f mx v (.nan false) p q = { bits := p, flags := 0 } ∧
    minmaxRes f mx (.nan sig) (.nan sig2) p q = nan (sig || sig2) ∧
    minmaxRes f mx (.nan true) v p q = nan true ∧ minmaxRes f mx v (.nan true) p q = nan true)

/-- R387, R389, R46: the error bounds of the unary words at a finite operand: FSQRT gives the root rounded by RM; FRCP lies within
one ulp of 1 / x, FRSQ within two of 1 / √x, FEX2 within two of 2^x, FLG2 within 2^-22 of log2 x from a half to 2 and within two
ulps elsewhere, FSIN and FCOS within 2^-21 of sine and cosine up to 32,768, and of a magnitude of at most 1 everywhere. An ulp is
the spacing of FP32 values at the exact result. Under FTZ a subnormal result is zero of its sign. Which value within the bounds
is the chip's own (notes/assumptions/15.md). -/
def Obligations.UnaryErrorBounds : Prop :=
  ∀ (x : W) (n : Bool) (m : Nat) (e : Int), Fmt.value .fp32 x.toNat = .fin n m e → m ≠ 0 →
    let val (v : FVal) : ℝ :=
      match v with
      | .fin n m e => (if n then -1 else 1) * (m : ℝ) * (2 : ℝ) ^ e
      | _ => 0
    let of (r : Res) : ℝ := val (Fmt.value .fp32 r.w.toNat)
    let fits (r : Res) : Prop := ∃ k p g, Fmt.value .fp32 r.w.toNat = .fin k p g
    let ulp (y : ℝ) : ℝ := if |y| < (2 : ℝ) ^ (-126 : Int) then (2 : ℝ) ^ (-149 : Int) else (2 : ℝ) ^ (Int.log 2 |y| - 23)
    let X : ℝ := val (.fin n m e)
    let each (P : ℝ → Prop) : Prop := ∀ (z : W) (k : Bool) (p : Nat) (g : Int), Fmt.value .fp32 z.toNat = .fin k p g → P (val (.fin k p g))
    (∀ f ∈ [frcpRes, frsqRes, fex2Res, flg2Res, fsinRes, fcosRes],
      f true x = { bits := (flush32 true (f false x).w).setWidth 64, flags := (f false x).flags }) ∧
    (|1 / X| < (2 : ℝ) ^ (128 : Int) → fits (frcpRes false x) ∧ |of (frcpRes false x) - 1 / X| ≤ ulp (1 / X)) ∧
    ((2 : ℝ) ^ (128 : Int) ≤ |1 / X| → frcpRes false x = { bits := if n then 0xFF800000 else 0x7F800000, flags := 0x50000 }) ∧
    (0 < X → fits (frsqRes false x) ∧ |of (frsqRes false x) - 1 / Real.sqrt X| ≤ 2 * ulp (1 / Real.sqrt X)) ∧
    (X < 128 → fits (fex2Res false x) ∧ |of (fex2Res false x) - (2 : ℝ) ^ X| ≤ 2 * ulp ((2 : ℝ) ^ X)) ∧
    (128 ≤ X → fex2Res false x = { bits := 0x7F800000, flags := 0x50000 }) ∧
    (0 < X → fits (flg2Res false x) ∧ (1 / 2 ≤ X → X ≤ 2 → |of (flg2Res false x) - Real.logb 2 X| ≤ (2 : ℝ) ^ (-22 : Int)) ∧
      (X < 1 / 2 ∨ 2 < X → |of (flg2Res false x) - Real.logb 2 X| ≤ 2 * ulp (Real.logb 2 X))) ∧
    (∀ r ∈ [fsinRes false x, fcosRes false x], fits r ∧ |of r| ≤ 1) ∧
    (|X| ≤ 32768 → |of (fsinRes false x) - Real.sin X| ≤ (2 : ℝ) ^ (-21 : Int) ∧
      |of (fcosRes false x) - Real.cos X| ≤ (2 : ℝ) ^ (-21 : Int)) ∧
    ∀ rm : Rm, 0 < X →
      let R := of (fsqrtRes rm x)
      let Y := Real.sqrt X
      fits (fsqrtRes rm x) ∧
      match rm with
      | .rne => each (fun z => |R - Y| ≤ |z - Y|)
      | .rup => Y ≤ R ∧ each (fun z => Y ≤ z → R ≤ z)
      | _ => R ≤ Y ∧ each (fun z => z ≤ Y → z ≤ R)

/-- R35, R36, R38, R45, R46, R381: the exact sums and products, and their one rounding. A sum and a product of finite values are
exact, a zero sum has the sign of its terms where they are zeros of one sign, else that of the mode, and an infinity stays itself.
The rounded value is the nearest that the format has, a tie going to the even pattern, or the next one in the direction of the
mode; it is marked inexact exactly where it differs, and overflows exactly where the value rounded without an upper limit lies
beyond the largest finite one, to infinity or to that one. FTZ takes a subnormal result to zero. Rounding a value that the format
represents gives its own pattern. -/
def Obligations.RoundsTheExactResult : Prop :=
  let val (v : FVal) : ℚ :=
    match v with
    | .fin n m e => (if n then -1 else 1) * (m : ℚ) * (2 : ℚ) ^ e
    | _ => 0
  (∀ (f : Fmt) (rm : Rm) (x : Nat) (n : Bool) (m : Nat) (e : Int),
    Fmt.isFloat f = true → x < 2 ^ f.bits → Fmt.value f x = .fin n m e →
    roundArith f rm false (.fin n m e) = { bits := x, ovf := false, inx := false }) ∧
  (∀ (f : Fmt) (rm : Rm) (n : Bool) (m : Nat) (e : Int), Fmt.isFloat f = true →
    let y := val (.fin n m e)
    let r := roundArith f rm false (.fin n m e)
    let R := val (Fmt.value f r.bits)
    let low := r.bits % 2 ^ (f.bits - 1)
    let top := val (Fmt.value f (Fmt.maxBits f))
    let step := top - val (Fmt.value f (Fmt.maxBits f - 1))
    let each (P : ℚ → Prop) : Prop := ∀ (z : Nat) (k : Bool) (p : Nat) (g : Int), Fmt.value f z = .fin k p g → P (val (.fin k p g))
    let away : Bool := (rm == .rup && !n) || (rm == .rdn && n)
    let frac : Nat := if f = .fp32 then 23 else if f = .fp16 then 10 else if f = .bf16 then 7 else 0
    (r.ovf = false → r.bits = Fmt.signBit f n + low ∧ low ≤ Fmt.maxBits f ∧ (r.inx = true ↔ R ≠ y) ∧
      match rm with
      | .rne => each (fun z => |R - y| ≤ |z - y| ∧ (|R - y| = |z - y| → z ≠ R → r.bits % 2 = 0))
      | .rtz => |R| ≤ |y| ∧ each (fun z => |z| ≤ |y| → |z| ≤ |R|)
      | .rdn => R ≤ y ∧ each (fun z => z ≤ y → z ≤ R)
      | .rup => y ≤ R ∧ each (fun z => y ≤ z → R ≤ z)) ∧
    (r.ovf = true ↔
      if rm = .rne then top + step / 2 < |y| ∨ top + step / 2 = |y| ∧ Fmt.maxBits f % 2 = 1
      else if away then top < |y| else top + step ≤ |y|) ∧
    (r.ovf = true → Fmt.hasInf f = true →
      r.inx = true ∧ r.bits = Fmt.signBit f n + if rm = .rne ∨ away = true then Fmt.infBits f else Fmt.maxBits f) ∧
    roundArith f rm true (.fin n m e) =
      (if r.ovf = false ∧ low ≠ 0 ∧ low < 2 ^ frac then { bits := Fmt.signBit f n, ovf := false, inx := true } else r) ∧
    ∀ ftz : Bool, let q := roundArith f rm ftz (.fin n m e)
      roundRes f rm ftz (.fin n m e) =
        { bits := toDW q.bits, flags := (if q.ovf then 0x10000 else 0) + (if q.inx then 0x40000 else 0) }) ∧
  (∀ (nz : Bool) (l : List FVal), l ≠ [] →
    ((∀ v ∈ l, ∃ n m e, v = .fin n m e) → ∃ n m e, sumExact nz l = .fin n m e ∧ val (.fin n m e) = (l.map val).sum ∧
      (m = 0 → n = if l.all (fun v => v.isZero && v.sign) then true else if l.all (fun v => v.isZero && !v.sign) then false else nz)) ∧
    ∀ k, .inf k ∈ l → (∀ v ∈ l, v.isNan = false ∧ v ≠ .inf (!k)) → sumExact nz l = .inf k) ∧
  (∀ (n k : Bool) (m p : Nat) (e g : Int), ∃ q h, (FVal.fin n m e).mul (.fin k p g) = .fin (n != k) q h ∧
    val (.fin (n != k) q h) = val (.fin n m e) * val (.fin k p g) ∧
    (FVal.inf n).mul (.inf k) = .inf (n != k) ∧ (p ≠ 0 → (FVal.inf n).mul (.fin k p g) = .inf (n != k) ∧
      (FVal.fin k p g).mul (.inf n) = .inf (k != n))) ∧
  (∀ (f : Fmt) (rm : Rm) (ftz : Bool) (a b a1 b1 c : FVal), (∀ v ∈ [a, b, a1, b1, c], v.isNan = false) →
    mulInvalid a b = false → mulInvalid a1 b1 = false →
    (sumInvalid [a, b] = false → addRes f rm ftz a b = roundRes f rm ftz (sumExact (rm == .rdn) [a, b])) ∧
    mulRes f rm ftz a b = roundRes f rm ftz (a.mul b) ∧
    (sumInvalid [a.mul b, c] = false → fmaRes f rm ftz a b c = roundRes f rm ftz (sumExact (rm == .rdn) [a.mul b, c])) ∧
    (sumInvalid [a.mul b, a1.mul b1, c] = false →
      dot2Res rm ftz a b a1 b1 c = roundRes .fp32 rm ftz (sumExact (rm == .rdn) [a.mul b, a1.mul b1, c])))

/-! ### Conversions -/

/-- R370 to R373: CVT from each source format: with no overflow under TRAP every active lane gets the conversion of its
element and the flags are merged; otherwise CVT_OVERFLOW is raised with the lowest lane that overflowed. -/
def Obligations.ConvertResults : Prop :=
  ∀ (s : State) (x : Agent) (sd : Side) (c : Cursor) (g : Pred) (ov : Ov) (rm : Rm) (tf : Fmt) (d a : VReg),
    Issues s x sd c →
    let m := activeMask x sd g
    let go (sf : Fmt) (o : Host.Outcome State Fault Refusal) : Prop :=
      Fits x (cvtRegs tf d.toNat ++ cvtRegs sf a.toNat) →
      let k (l : Nat) : Conv :=
        convertTo tf rm ov (fmtFtz sd.fmt) (Fmt.valueFtz (fmtFtz sd.fmt) sf (cvtSource x sf a.toNat l))
      ((∀ l, m.getLsbD l = true → (k l).trap = false) →
        o = .next (((s.setAgent
          (if tf = .fp64 then x.setVPair d.toNat m (fun l => toDW (k l).bits)
           else x.setV d.toNat m (fun l => BitVec.ofNat 32 (k l).bits))).orFmt c
          (orFlags m (fun l => stickyBits (k l).sov (k l).sinv (k l).sinx false))).retire c)) ∧
      (∀ l, m.getLsbD l = true → (k l).trap = true → (∀ j, j < l → m.getLsbD j = true → (k j).trap = false) →
        o = .next (s.trap x sd c (Trap.plain Cause.cvtOverflow (BitVec.ofNat 32 l))))
    go .fp32 (exec (.cvtFromF32 g ov rm tf d a) s) ∧ go .fp64 (exec (.cvtFromF64 g ov rm tf d a) s) ∧
    go .bf16 (exec (.cvtFromBf16 g ov rm tf d a) s) ∧ go .fp16 (exec (.cvtFromF16 g ov rm tf d a) s) ∧
    go .e4m3 (exec (.cvtFromE4m3 g ov rm tf d a) s) ∧ go .e5m2 (exec (.cvtFromE5m2 g ov rm tf d a) s) ∧
    go .i32 (exec (.cvtFromI32 g ov rm tf d a) s) ∧ go .n32 (exec (.cvtFromN32 g ov rm tf d a) s)

/-- R48, R49: what an infinity and a NaN become in a conversion, by policy and target: E4M3, which has a NaN and no
infinity, gives its NaN for either where the policy is not SAT. -/
def Obligations.ConversionOverflow : Prop :=
  ∀ (rm : Rm) (ov : Ov) (ftz n : Bool),
    (∀ f, Fmt.hasInf f = true → convertTo f rm ov ftz (.inf n) =
      Conv.plain (Fmt.signBit f n + Fmt.infBits f)) ∧
    (∀ f, Fmt.isFloat f = true → Fmt.hasInf f = false →
      (convertTo f rm ov ftz (.inf n)).sov = true ∧ (convertTo f rm ov ftz (.inf n)).trap = decide (ov = .trap) ∧
      (ov = .sat → (convertTo f rm ov ftz (.inf n)).bits = Fmt.signBit f n + Fmt.maxBits f)) ∧
    (convertTo .i32 rm ov ftz (.inf n)).bits = (if n then 0x80000000 else 0x7FFFFFFF) ∧
    (convertTo .n32 rm ov ftz (.inf n)).bits = (if n then 0 else 0xFFFFFFFF) ∧
    (convertTo .i8 rm ov ftz (.inf n)).bits = (if n then 0x80 else 0x7F) ∧
    (convertTo .i4 rm ov ftz (.inf n)).bits = (if n then 8 else 7) ∧
    (convertTo .e4m3 rm ov ftz (.inf n)).bits =
      (if ov = .inf ∨ ov = .nan then 0x7F else (convertTo .e4m3 rm ov ftz (.inf n)).bits) ∧
    (ov = .sat → (convertTo .e4m3 rm ov ftz (.inf n)).bits = if n then 0xFE else 0x7E) ∧
    (∀ f sig, Fmt.hasNan f = true → convertTo f rm ov ftz (.nan sig) =
      { bits := Fmt.canonNan f, sov := false, sinv := sig, sinx := false, trap := false }) ∧
    (∀ sig, (convertTo .e4m3 rm ov ftz (.nan sig)).bits = 0x7F) ∧
    ∀ f sig, f = .e2m1 ∨ f = .i4 ∨ f = .i8 ∨ f = .i32 ∨ f = .n32 →
      convertTo f rm ov ftz (.nan sig) = { bits := 0, sov := false, sinv := true, sinx := false, trap := false }

/-- R434, R435, R467, R315: PACK and UNPK complete for every control value that the rule admits, a word with no active lane
only advancing; another control value raises ILLEGAL_INSTR, before the check of the registers and whether or not a lane is
active: that place in the order is the model's choice (notes/assumptions/21.md). -/
def Obligations.PackResults : Prop :=
  ∀ (s : State) (x : Agent) (sd : Side) (c : Cursor) (g : Pred) (d a : VReg) (b : SSrc),
    Issues s x sd c →
    let m := activeMask x sd g
    let k := SSrc.get x b
    (Fits x [d.toNat, a.toNat] →
      (m = 0 → k.toNat < 3 → exec (.pack g d a b) s = .next (s.retire c)) ∧
      (m = 0 → k.toNat < 7 → k.toNat ≠ 3 → exec (.unpk g d a b) s = .next (s.retire c)) ∧
      (m ≠ 0 → k.toNat < 3 → exec (.pack g d a b) s = wroteV s x sd c g d.toNat (fun l => packLane x a.toNat m k l)) ∧
      (m ≠ 0 → k.toNat < 7 → k.toNat ≠ 3 →
        exec (.unpk g d a b) s = wroteV s x sd c g d.toNat (fun l => unpkLane x a.toNat m k l))) ∧
    (3 ≤ k.toNat → exec (.pack g d a b) s = .next (s.trap x sd c (Trap.plain Cause.illegalInstr c.raw))) ∧
    (7 ≤ k.toNat ∨ k.toNat = 3 →
      exec (.unpk g d a b) s = .next (s.trap x sd c (Trap.plain Cause.illegalInstr c.raw)))

/-- R435, R467: PACK gathers fields of width 4, 8 or 16: it completes with the packed words in the active lanes of vD, an
inactive source giving 0; UNPK spreads the fields again, zero- or sign-extended, and raises ILLEGAL_INSTR for a control value
of 3 in bits 1:0 or with a bit above bit 2: before the check of the registers, and whether or not a lane is active, which is the
model's choice (notes/assumptions/21.md). -/
def Obligations.PackFields : Prop :=
  (∀ (s : State) (x : Agent) (sd : Side) (c : Cursor) (g : Pred) (d a : VReg) (b : SSrc),
    Issues s x sd c →
    let m := activeMask x sd g
    let k := SSrc.get x b
    (Fits x [d.toNat, a.toNat] →
      (m = 0 → k.toNat < 3 → exec (.pack g d a b) s = .next (s.retire c)) ∧
      (m ≠ 0 → k.toNat < 3 → exec (.pack g d a b) s = wroteV s x sd c g d.toNat (fun l => packLane x a.toNat m k l)) ∧
      (m = 0 → k.toNat < 7 → k.toNat ≠ 3 → exec (.unpk g d a b) s = .next (s.retire c)) ∧
      (m ≠ 0 → k.toNat < 7 → k.toNat ≠ 3 →
        exec (.unpk g d a b) s = wroteV s x sd c g d.toNat (fun l => unpkLane x a.toNat m k l))) ∧
    (k.toNat % 4 = 3 ∨ 8 ≤ k.toNat →
      exec (.unpk g d a b) s = .next (s.trap x sd c (Trap.plain Cause.illegalInstr c.raw)))) ∧
  ∀ (x : Agent) (a : Nat) (m k : W) (l i : Nat), l < 32 → i < 32 → k.toNat < 3 →
    let w := 4 * 2 ^ k.toNat
    let f := 32 / w
    (packLane x a m k l).getLsbD i =
      (decide (l < w) && m.getLsbD (f * l + i / w) && (x.vreg a (f * l + i / w)).getLsbD (i % w)) ∧
    (unpkLane x a m k l).getLsbD i =
      (decide (i < w) && m.getLsbD (l / f) && (x.vreg a (l / f)).getLsbD (w * (l % f) + i)) ∧
    (unpkLane x a m (k ||| 4) l).getLsbD i =
      (m.getLsbD (l / f) && (x.vreg a (l / f)).getLsbD (w * (l % f) + min i (w - 1)))

/-! ### QNT and the cross-lane words -/

/-- R254, R255, R256, R40, R442, R443: QNT completes where the record exists and no quantised value overflows: the rows
that the rule quantises stand in the destination registers of the active lanes, and the flags are merged. With a poisoned
record the word runs on and sets SPOI where ERRTRAP is 0: the model's choice (notes/assumptions/36.md). -/
def Obligations.QntResults : Prop :=
  ∀ (s : State) (x : Agent) (sd : Side) (c : Cursor) (g : Pred) (d a : VReg) (b : SSrc) (tf : Fmt),
    Issues s x sd c →
    let da := d.toNat
    let va := a.toNat
    let split := fmtSplit sd.fmt
    Fits x (if split then [da, da + 1, da + 2, va, va + 1, va + 2, va + 3] else [da, va]) →
    let k := SSrc.get x b
    let m := activeMask x sd g
    let idx := k.toNat % 2 ^ 20
    let v := s.lkView x idx
    let r := LkRec.ofBytes v.1
    let bad := s.isPoisoned .ten (s.lkAddr x.pkg x.vf idx) 64
    let code := if k.getLsbD 24 then r.pol.toNat % 16 else fmtQf sd.fmt
    let ov := if k.getLsbD 24 then Ov.ofCode (r.pol.toNat / 16 % 4) else fmtOv sd.fmt
    k &&& 0xFEF00000 = 0 → m ≠ 0 → idx < s.lkNrec x.pkg x.vf → (bad = true → x.errtrap = false) →
    qfOk code = true → Fmt.ofCode code = some tf →
    let sp := splitRows x m sd.fmt va (Fmt.value .fp32 r.amax.toNat) (r.margin.toNat / 16)
    let rows : List (Nat × List FVal) :=
      if split then [(da, sp.1), (da + 1, sp.2.1)]
      else [(da, (List.range 32).map (fun l => if m.getLsbD l then v32 sd.fmt (x.vreg va l) else .fin false 0 0))]
    let extra : List (Nat × W) := if split then [(da + 2, mapWord sp.2.2)] else []
    let qs := rows.map (fun y =>
      (y.1, quantRow tf (fmtRm sd.fmt) ov (fmtFtz sd.fmt) r.scale (y.2.map (scaled r.scale))))
    let word (q : Nat × List Quant) (l : Nat) : W := (q.2[l]?.map Quant.bits).getD 0
    let flag (q : Nat × List Quant) (l : Nat) : W := (q.2[l]?.map Quant.flags).getD 0
    ((∀ q ∈ qs, ∀ y ∈ q.2, y.ovf = false) →
      exec (.qnt g d a b) s = .next (((v.2.setAgent
        (extra.foldl (fun y e => y.setV e.1 m (fun _ => e.2)) (qs.foldl (fun y q => y.setV q.1 m (word q)) x))).orFmt c
        (qs.foldl (fun f q => f ||| orFlags m (flag q)) (if bad then spoi else 0))).retire c)) ∧
    ((∃ q ∈ qs, ∃ l, l < 32 ∧ (q.2[l]?.map Quant.ovf) = some true) → r.pol.getLsbD 6 = true →
      exec (.qnt g d a b) s = .next (v.2.trap x sd c (Trap.plain Cause.rescale (BitVec.ofNat 32 idx))))

/-- R453: SHFL, which has a vector form only: its four words; it takes vA of the source lane, and a lane whose source is not
active or does not exist keeps its own. -/
def Obligations.ShuffleResults : Prop :=
  (∀ (s : State) (x : Agent) (sd : Side) (c : Cursor) (g : Pred) (d a : VReg) (b : VSrc),
    Issues s x sd c → Fits x (d.toNat :: a.toNat :: VSrc.regs b) →
    let m := activeMask x sd g
    let A (l : Nat) : W := x.vreg a.toNat l
    let n (l : Nat) : Nat := (VSrc.get x b l).toNat
    let res (src : Nat → Nat) (ok : Nat → Bool) :=
      wroteV s x sd c g d.toNat (fun l => if ok l && m.getLsbD (src l) then A (src l) else A l)
    exec (.shflIdx g d a b) s = res (fun l => n l % 32) (fun _ => true) ∧
    exec (.shflXor g d a b) s = res (fun l => l ^^^ (n l % 32)) (fun _ => true) ∧
    exec (.shflUp g d a b) s = res (fun l => l - n l) (fun l => decide (n l ≤ l)) ∧
    exec (.shflDown g d a b) s = res (fun l => l + n l) (fun l => decide (l + n l ≤ 31))) ∧
  decode .alu 0xCC2081FF (some 1) = .ok (.shflIdx 0 2 3 (.lit 1)) 2 ∧
  decode .alu 0xCE2081FF (some 1) = .ok (.shflXor 0 2 3 (.lit 1)) 2 ∧
  decode .alu 0xD02081FF (some 1) = .ok (.shflUp 0 2 3 (.lit 1)) 2 ∧
  decode .alu 0xD22081FF (some 1) = .ok (.shflDown 0 2 3 (.lit 1)) 2

/-- R468: VMINX and VMAXX write the extreme over the lanes, an inactive lane standing for B, and the lowest lane that
holds it, to a scalar pair; with no active lane they only advance. -/
def Obligations.ExtremeResults : Prop :=
  ∀ (s : State) (x : Agent) (sd : Side) (c : Cursor) (g : Pred) (d : SReg) (a : VReg) (b : SSrc),
    Issues s x sd c → Fits x [a.toNat] →
    let m := activeMask x sd g
    let xs := (List.range 32).map (fun l => if m.getLsbD l then x.vreg a.toNat l else SSrc.get x b)
    let res (r : W × Nat) (fl : W) : Host.Outcome State Fault Refusal :=
      if m = 0 then .next (s.retire c)
      else .next (((s.setAgent ((x.setS d.toNat r.1).setS (d.toNat + 1) (BitVec.ofNat 32 r.2))).orFmt c fl).retire c)
    let fs := xs.map (flush32 (fmtFtz sd.fmt))
    exec (.vminxN g d a b) s = res (extremeI (fun p q => p.toNat < q.toNat) xs) 0 ∧
    exec (.vminxI g d a b) s = res (extremeI (fun p q => p.toInt < q.toInt) xs) 0 ∧
    exec (.vmaxxN g d a b) s = res (extremeI (fun p q => q.toNat < p.toNat) xs) 0 ∧
    exec (.vmaxxI g d a b) s = res (extremeI (fun p q => q.toInt < p.toInt) xs) 0 ∧
    exec (.vminxF g d a b) s = res (extremeF false fs) (sigFlags xs) ∧
    exec (.vmaxxF g d a b) s = res (extremeF true fs) (sigFlags xs)

/-- R468: the extreme that VMINX and VMAXX write is the least or the greatest value, as N32, I32 or FP32, and its index the lowest
lane that holds it. In .F −0 lies below +0, a NaN wins over no number, only NaNs give the canonical NaN at lane 0, and SINV is set
exactly for a signalling NaN. -/
def Obligations.ExtremeIsLowest : Prop :=
  (∀ (xs : List W), xs ≠ [] →
    let holds (r : W × Nat) : Prop := xs[r.2]? = some r.1 ∧ ∀ i, i < r.2 → xs[i]? ≠ some r.1
    let ext (better : W → W → Bool) (atLeast : W → W → Prop) : Prop :=
      holds (extremeI better xs) ∧ ∀ w ∈ xs, atLeast (extremeI better xs).1 w
    ext (fun p q => p.toNat < q.toNat) (fun p q => p.toNat ≤ q.toNat) ∧
    ext (fun p q => q.toNat < p.toNat) (fun p q => q.toNat ≤ p.toNat) ∧
    ext (fun p q => p.toInt < q.toInt) (fun p q => p.toInt ≤ q.toInt) ∧
    ext (fun p q => q.toInt < p.toInt) (fun p q => q.toInt ≤ p.toInt) ∧
    (let v (w : W) : FVal := Fmt.value .fp32 w.toNat
     ((∀ w ∈ xs, (v w).isNan = true) → extremeF false xs = (0x7FC00000, 0) ∧ extremeF true xs = (0x7FC00000, 0)) ∧
     ((∃ w ∈ xs, (v w).isNan = false) →
       (holds (extremeF false xs) ∧ (v (extremeF false xs).1).isNan = false ∧
         ∀ w ∈ xs, (v w).isNan = false → (v w).ltz (v (extremeF false xs).1) = false) ∧
       (holds (extremeF true xs) ∧ (v (extremeF true xs).1).isNan = false ∧
         ∀ w ∈ xs, (v w).isNan = false → (v (extremeF true xs).1).ltz (v w) = false)) ∧
     (sigFlags xs = 0x20000 ↔ ∃ w ∈ xs, v w = .nan true) ∧ (sigFlags xs = 0 ↔ ∀ w ∈ xs, v w ≠ .nan true))) ∧
  ∀ (n k : Bool) (m p : Nat) (e g : Int),
    let val (n : Bool) (m : Nat) (e : Int) : ℚ := (if n then -1 else 1) * (m : ℚ) * (2 : ℚ) ^ e
    ((FVal.fin n m e).ltz (.fin k p g) = true ↔ val n m e < val k p g ∨ m = 0 ∧ p = 0 ∧ n = true ∧ k = false) ∧
    (FVal.inf true).ltz (.fin k p g) = true ∧ (FVal.fin k p g).ltz (.inf false) = true ∧ (FVal.inf true).ltz (.inf false) = true ∧
    (FVal.inf false).ltz (.fin k p g) = false ∧ (FVal.fin k p g).ltz (.inf true) = false ∧ (FVal.inf n).ltz (.inf n) = false ∧
    (FVal.inf false).ltz (.inf true) = false

/-- R469, R470: VRED combines the active lanes into a scalar register, and VSCAN writes each active lane the combination
of the active lanes up to it (.EX: below it), the identity where there is none. -/
def Obligations.ReduceResults : Prop :=
  ∀ (s : State) (x : Agent) (sd : Side) (c : Cursor) (g : Pred) (sr : SReg) (d a : VReg) (ex : Bool) (op : RedOp),
    Issues s x sd c → Fits x [d.toNat, a.toNat] →
    let m := activeMask x sd g
    let A (l : Nat) : W := x.vreg a.toNat l
    let red (ls : List Nat) : Res := RedOp.combine op sd.fmt (ls.map A)
    let below (l : Nat) : List Nat := (lanesOf m).filter (fun k => if ex then k < l else k ≤ l)
    (m = 0 → exec (.vred g sr a op) s = .next (s.retire c)) ∧
    (m ≠ 0 → exec (.vred g sr a op) s = .next (((s.setAgent (x.setS sr.toNat (red (lanesOf m)).w)).orFmt c
      (red (lanesOf m)).flags).retire c)) ∧
    exec (.vscan g d a ex op) s = wroteVF s x sd c g d.toNat (fun l =>
      if (below l).isEmpty then { bits := (RedOp.identity op).setWidth 64, flags := 0 } else red (below l))

/-- R470, R468, R381: the combinations of a non-empty list of lane values. SUM.F is the exact sum of the terms rounded once, in
whatever order they come; a NaN or infinities of both signs give the canonical NaN, and an infinity stays itself. MIN.F and MAX.F
are the extremes of R468 over the values as FTZ takes them. -/
def Obligations.ReduceCombines : Prop :=
  ∀ (fmt y : W) (ys : List W),
    let l := y :: ys
    let w (o : RedOp) : W := (RedOp.combine o fmt l).w
    let vs : List FVal := l.map (fun x => Fmt.valueFtz (fmtFtz fmt) .fp32 x.toNat)
    let sum : Res := RedOp.combine .sumF fmt l
    let val (v : FVal) : ℚ :=
      match v with
      | .fin n m e => (if n then -1 else 1) * (m : ℚ) * (2 : ℚ) ^ e
      | _ => 0
    w .sumI = l.foldr (· + ·) 0 ∧ w .and = l.foldr (· &&& ·) (BitVec.allOnes 32) ∧
    w .or = l.foldr (· ||| ·) 0 ∧ w .xor = l.foldr (· ^^^ ·) 0 ∧
    (w .minN ∈ l ∧ ∀ z ∈ l, (w .minN).toNat ≤ z.toNat) ∧
    (w .maxN ∈ l ∧ ∀ z ∈ l, z.toNat ≤ (w .maxN).toNat) ∧
    (w .minI ∈ l ∧ ∀ z ∈ l, (w .minI).toInt ≤ z.toInt) ∧
    (w .maxI ∈ l ∧ ∀ z ∈ l, z.toInt ≤ (w .maxI).toInt) ∧
    (∀ zs, l.Perm zs → RedOp.combine .sumF fmt zs = sum) ∧
    ((∀ v ∈ vs, ∃ n m e, v = .fin n m e) → ∃ n m e, sumExact (fmtRm fmt == .rdn) vs = .fin n m e ∧
      val (.fin n m e) = (vs.map val).sum ∧ sum = roundRes .fp32 (fmtRm fmt) (fmtFtz fmt) (.fin n m e)) ∧
    ((∃ v ∈ vs, v.isNan = true) ∨ (.inf false ∈ vs ∧ .inf true ∈ vs) →
      sum = { bits := 0x7FC00000, flags := if .nan true ∈ vs ∨ (.inf false ∈ vs ∧ .inf true ∈ vs) then 0x20000 else 0 }) ∧
    (∀ k, .inf k ∈ vs → .inf (!k) ∉ vs → (∀ v ∈ vs, v.isNan = false) →
      sum = { bits := if k then 0xFF800000 else 0x7F800000, flags := 0 }) ∧
    (let fs := l.map (flush32 (fmtFtz fmt))
     RedOp.combine .minF fmt l = { bits := (extremeF false fs).1.setWidth 64, flags := sigFlags l } ∧
     RedOp.combine .maxF fmt l = { bits := (extremeF true fs).1.setWidth 64, flags := sigFlags l })

/-! ### What every vector and scalar word of class ALU keeps to -/

/-- R308, R316 orders 2 and 4, R295: a vector word that names a register beyond the allocation raises REG_RANGE, and on a
control core it raises ILLEGAL_INSTR with the word: for every vector word of class ALU but QNT, PACK and UNPK, the vector loads
and stores, and the Locket words. That the lowest of several such registers is reported is the model's choice
(notes/assumptions/26.md). -/
def Obligations.VectorRegisterChecks : Prop :=
  ∀ (s : State) (x : Agent) (sd : Side) (c : Cursor) (i : Instr) (rs : List Nat),
    Issues s x sd c → vecRegs i = some rs →
    (x.isCc = true → exec i s = .next (s.trap x sd c (Trap.plain Cause.illegalInstr c.raw))) ∧
    (x.isCc = false → ∀ r ∈ rs, x.nregs ≤ r → (∀ q ∈ rs, x.nregs ≤ q → r ≤ q) →
      exec i s = .next (s.trap x sd c (Trap.plain Cause.regRange (BitVec.ofNat 32 r))))

/-- R429, R317: NOP only advances. -/
def Obligations.NopAdvances : Prop :=
  ∀ (s : State) (x : Agent) (sd : Side) (c : Cursor), Issues s x sd c → exec .nop s = .next (s.retire c)

/-- R65 to R68, R74, R182, R239: the frames. A word of class ALU changes the issuing agent alone, and there nothing but its
destination (in the active lanes), the next word's point and the sticky flags of fmt, or it traps; QNT may also rescale its
record and drop the core's copy of it. A branch, GETFMT and TRAP change no other register than those named, SREAD only its
destination and the CLKHI latch, SWRITE only LKSEL, ERRTRAP and a control core's registers. Any word of class CTL leaves the
vector registers, scalar registers, predicates and handles of every agent that stays, but for the destinations of those three,
and tensor and host memory; one that changes only sides (BDIV, REJOIN, EXIT, YIELD, SETFMT, ERET) also control memory and the
scratchpads, but that of a crew which ends. An MMA writes no register but its team's accumulators, an engine command none; of an
agent, a handle, counter or channel word, COLL, TSEND, OPRDY and MKDESC change nothing but their sides, the scalar registers and
the handle named, and handles that they resolve; none of them changes a byte of memory where no store of its core waits in a
SOFT copy, but CHSEND a ring of its channel. That operands wait in the model's own list of resolved MMAs is its choice
(notes/assumptions/13.md), as is the write-back at issue (notes/assumptions/74.md). -/
def Obligations.RegisterWordFrames : Prop :=
  (∀ (s t : State) (x : Agent) (sd : Side) (c : Cursor) (i : Instr) (g : Pred) (vs ss ps : List Nat),
    Issues s x sd c → aluWrites i = some (g, vs, ss, ps) → exec i s = .next t →
    (∃ tr, t = s.trap x sd c tr) ∨
    (OnlyAgent s t x.id ∧ SameBytes s t ∧ ∃ y, t.agent? x.id = some y ∧ Kept x y c.slot (activeMask x sd g) vs ss ps)) ∧
  (∀ (s t : State) (x : Agent) (sd : Side) (c : Cursor) (g : Pred) (d a : VReg) (b : SSrc),
    Issues s x sd c → exec (.qnt g d a b) s = .next t →
    let home := s.lkAddr x.pkg x.vf ((SSrc.get x b).toNat % 2 ^ 20)
    (∃ (u : State) (tr : Trap), u.agents = s.agents ∧ t = u.trap x sd c tr) ∨
    ((∀ j, j ≠ x.id → t.agent? j = s.agent? j) ∧ (∀ p, Memory.read t.ctl p = Memory.read s.ctl p) ∧
      (∀ p, Memory.read t.host p = Memory.read s.host p) ∧ t.crews = s.crews ∧
      (∀ p, p < home ∨ home + 64 ≤ p → Memory.read t.ten p = Memory.read s.ten p) ∧
      ∃ y, t.agent? x.id = some y ∧ Kept x y c.slot (activeMask x sd g)
        (if fmtSplit sd.fmt then [d.toNat, d.toNat + 1, d.toNat + 2] else [d.toNat]) [] [])) ∧
  (∀ (s t : State) (x : Agent) (sd : Side) (c : Cursor), Issues s x sd c →
    let m (g : Pred) := activeMask x sd g
    let keeps (i : Instr) (f : Agent → Agent) (m : W) (vs ss : List Nat) : Prop :=
      exec i s = .next t → (∃ tr, t = s.trap x sd c tr) ∨
        (OnlyAgent s t x.id ∧ SameBytes s t ∧ ∃ y, t.agent? x.id = some y ∧ Kept (f y) y c.slot m vs ss [])
    (∀ i ss, ctlWrites i = some ss → keeps i (fun _ => x) 0 [] ss) ∧
    (∀ g sel r, keeps (.sread g sel (.s r)) (fun y => { x with clkhi := y.clkhi }) 0 [] [r.toNat]) ∧
    (∀ g sel r, keeps (.sread g sel (.v r)) (fun y => { x with clkhi := y.clkhi }) (m g) [r.toNat] []) ∧
    (∀ g sel r, keeps (.swrite g sel r) (fun y => { x with lksel := y.lksel, errtrap := y.errtrap, cc := y.cc }) 0 [] [])) ∧
  (∀ (s t : State) (x : Agent) (sd : Side) (c : Cursor) (i : Instr) (w : W) (e : Option W) (n : Nat),
    Issues s x sd c → decode .ctl w e = .ok i n → exec i s = .next t → s.accRes = [] →
    (∀ p, Memory.read t.ten p = Memory.read s.ten p) ∧ (∀ p, Memory.read t.host p = Memory.read s.host p) ∧
    ∀ j b, t.agent? j = some b → ∃ a, s.agent? j = some a ∧ b.p = a.p ∧ b.h = a.h ∧
      (∀ r, (∀ g sel d, i = .sread g sel (.v d) → j = x.id → r ≠ d.toNat) → ∀ l, b.vreg r l = a.vreg r l) ∧
      ∀ r, (j = x.id → (∀ l, ctlWrites i = some l → r ∉ l) ∧ ∀ g sel d, i = .sread g sel (.s d) → r ≠ d.toNat) →
        b.sreg r = a.sreg r) ∧
  (∀ (s t : State) (x : Agent) (sd : Side) (c : Cursor), Issues s x sd c → s.accRes = [] →
    let clean : Prop := ∀ q ∈ s.pkgs, q.num = x.pkg → ∀ e ∈ q.l1, e.core = cacheCore x → e.dirty = 0
    let keeps (i : Instr) (other : Agent → Nat → Prop) : Prop := exec i s = .next t → (∃ tr, t = s.trap x sd c tr) ∨
      ((clean → SameBytes s t) ∧ (∀ p, Memory.read t.host p = Memory.read s.host p) ∧
        ∀ j a, s.agent? j = some a → ∃ b, t.agent? j = some b ∧ b.s = a.s ∧ b.p = a.p ∧
          ∀ r, other a r → ∀ l, b.vreg r l = a.vreg r l)
    let acc (v : VReg) (a : Agent) (r : Nat) : Prop :=
      a.crew ≠ x.crew ∨ a.grp / 8 ≠ x.grp / 8 ∨ r < v.toNat ∨ v.toNat + 32 ≤ r
    (∀ da db v h f, keeps (.mma da db v h f) (acc v)) ∧ (∀ da db v h f e, keeps (.mmaX da db v h f e) (acc v)) ∧
    ∀ g p h, keeps (.copy g p h) (fun _ _ => True) ∧ keeps (.gather g p h) (fun _ _ => True) ∧
      keeps (.scatter g p h) (fun _ _ => True) ∧ keeps (.mgt g p h) (fun _ _ => True)) ∧
  (∀ (s t : State) (x : Agent) (sd : Side) (c : Cursor) (g : Pred) (b : SPair) (h k : Hnd) (r ra : SReg) (e : SSrc)
      (n : BitVec 12) (ch : BitVec 6), Issues s x sd c → s.accRes = [] →
    let clean : Prop := ∀ q ∈ s.pkgs, q.num = x.pkg → ∀ z ∈ q.l1, z.core = cacheCore x → z.dirty = 0
    let keeps (i : Instr) (hs ss : List Nat) (ends : Bool) (bytes : Prop) : Prop := exec i s = .next t →
      (∃ (u : State) (tr : Trap), u.agents = s.agents ∧ t = u.trap x sd c tr) ∨
      (bytes ∧ ∀ j a, s.agent? j = some a → ∃ y, t.agent? j = some y ∧
        y = { a with s := y.s, h := y.h, prim := y.prim, sec := y.sec } ∧
        (∀ q, (j = x.id → q ∉ ss) → y.sreg q = a.sreg q) ∧
        ∀ q, (j = x.id → q ∉ hs) → y.handle q = a.handle q ∨
          (ends = true ∧ ∃ i p st, a.handle q = .pending i p ∧ y.handle q = .resolved i st))
    let same : Prop := SameBytes s t
    (clean → keeps (.coll g b h) [h.toNat] [] true same) ∧
    (clean → s.lost = [] → s.armed x.pkg none < 1024 → s.armed x.pkg (some x.vf) < (s.vf x.pkg x.vf).armsh.toNat →
      keeps (.tsend g b h) [h.toNat] [] true same) ∧
    keeps (.oprdy g) [] [] false same ∧ keeps (.mkdesc g r ra e) [] [r.toNat] false same ∧
    keeps (.hwait g h none) [] [] false same ∧ keeps (.hwait g h (some r)) [] [r.toNat] false same ∧
    keeps (.htest g h r) [] [r.toNat] false same ∧ keeps (.hmov g k h) [k.toNat] [] false same ∧
    ((∀ d ∈ s.cmds, d.kind ≠ .coll) → s.mmas = [] → keeps (.hcancel g h) [] [] true same) ∧
    (clean → (x.spair b.toNat).toNat / 2 ^ 62 ≠ 3 → keeps (.hload g b h) [h.toNat] [] false same) ∧
    (clean → keeps (.ctrset g b n) [] [] false same ∧ keeps (.ctradd g b n) [] [] false same) ∧
    keeps (.ctrrd g b n) [] [2 * b.toNat, 2 * b.toNat + 1] false same ∧
    keeps (.chrecv g b ch) [] [2 * b.toNat, 2 * b.toNat + 1] false same ∧
    keeps (.chsend g b ch) [] [] false
      ((∀ p, Memory.read t.ctl p = Memory.read s.ctl p) ∧ (∀ p, Memory.read t.ten p = Memory.read s.ten p) ∧
        (∀ p, Memory.read t.host p = Memory.read s.host p) ∧
        ∀ i d, s.crew? i = some d → ∃ f, t.crew? i = some f ∧ ∀ p,
          (∀ w ∈ s.crews, w.id = i → ∀ q ∈ w.rings, q.chan = ch.toNat → ∀ z, s.chan? x.launch ch.toNat = some z →
            p < q.base ∨ q.base + q.slots.length * z.size ≤ p) →
          Memory.read f.pad p = Memory.read d.pad p)) ∧
  (∀ (s t : State) (x : Agent) (sd : Side) (c : Cursor) (g p : Pred) (o : BitVec 22) (r : SReg), Issues s x sd c →
    (∀ e ∈ x.stack, ∀ b f, e.park ≠ some (.bar b f)) →
    ∀ i ∈ [Instr.bdiv p o, .yield g, .setfmt g r, .eret g, .eretNext g, .rejoin g, .exit g], exec i s = .next t →
      (∀ q, Memory.read t.ctl q = Memory.read s.ctl q) ∧
      ∀ k d, t.crew? k = some d → ∃ f ∈ s.crews, f.id = k ∧ (d.pad = f.pad ∨ (k = x.crew ∧ d.size = 0)))

/-! ### Class CTL: branches, sides, barriers, special registers -/

/-- R305, R314, R337, R346, R348, R349, R446, R264: a branch goes to its target's header exactly where its condition on the
lanes of the side holds, and else the side only advances; CALL, which must end its clause, saves the next clause's offset in
s62:s63 and branches; RET and BRX go to the header at an offset of the code base, and a misaligned offset traps. That its
record names the lowest active lane is the model's choice (notes/assumptions/47.md). -/
def Obligations.BranchResults : Prop :=
  (∀ (s : State) (x : Agent) (sd : Side) (c : Cursor) (p : Pred) (o : BitVec 22),
      Issues s x sd c →
      let tgt : DW := sd.pt.hdr + o.signExtend 64 * 4
      let has (l : Nat) : Prop := sd.mask.getLsbD l = true ∧ (x.pred p.toNat).getLsbD l = true
      let go (i : Instr) (q : Prop) : Prop :=
        (q → exec i s = .next (s.jump c tgt)) ∧ (¬q → exec i s = .next (s.retire c))
      go (.bra o) True ∧ go (.bany p o) (∃ l, l < 32 ∧ has l) ∧
      go (.ball p o) (∀ l, l < 32 → sd.mask.getLsbD l = true → has l) ∧ go (.bnone p o) (∀ l, l < 32 → ¬has l) ∧
      ∃ y z, (s.jump c tgt).agent? x.id = some y ∧ y.side c.slot = some z ∧ z.pt = ClausePt.at tgt ∧ z.mask = sd.mask ∧
        y.side (!c.slot) = x.side (!c.slot)) ∧
  (∀ (s : State) (x : Agent) (sd : Side) (c : Cursor) (g : Pred) (o : BitVec 22) (r : SReg),
      Issues s x sd c →
      let m := activeMask x sd g
      let last : Prop := sd.pt.pos + c.len = sd.pt.count + 1
      let back : DW := sd.pt.hdr + BitVec.ofNat 64 (4 * (sd.pt.count + 1)) - x.code
      let to_ (i : Instr) (w : W) : Prop :=
        let l := lowLane m
        (m = 0 → exec i s = .next (s.retire c)) ∧
        (m ≠ 0 → w.toNat % 4 = 0 → exec i s = .next (s.jump c (x.code + w.setWidth 64))) ∧
        (m ≠ 0 → w.toNat % 4 ≠ 0 →
          exec i s = .next (s.trap x sd c (memTrap c 3 Cause.misaligned l (laneBit l) (x.code + w.setWidth 64) 0)))
      (last → m ≠ 0 → exec (.call g o) s =
        .next ((s.setAgent ((x.setS 62 (back.setWidth 32)).setS 63 0)).jump c (sd.pt.hdr + o.signExtend 64 * 4))) ∧
      (last → m = 0 → exec (.call g o) s = .next (s.retire c)) ∧
      (¬last → exec (.call g o) s = .next (s.trap x sd c (Trap.plain Cause.illegalInstr c.raw))) ∧
      to_ (.ret g) (x.sreg 62) ∧ to_ (.brx g r) (x.sreg r.toNat))

/-- R70, R71, R263, R342: BDIV: taken by all lanes, by none, or by some: then the taken lanes become the side of the
empty slot, or an entry of the divergence stack, or the word takes DIV_OVERFLOW; in handler it ends the group. -/
def Obligations.DivergeResults : Prop :=
  ∀ (s : State) (x : Agent) (sd : Side) (c : Cursor) (p : Pred) (o : BitVec 22),
    Issues s x sd c →
    let t : W := sd.mask &&& x.pred p.toNat
    let tgt : DW := sd.pt.hdr + o.signExtend 64 * 4
    let room : Nat := if x.divmax = 0 then 64 else x.divmax
    let spills : Nat := (x.stack.filter (fun e => e.park.isNone)).length
    let i : Instr := .bdiv p o
    let stays (y : Agent) : Prop := ∃ z, y.side c.slot = some z ∧ z.mask = sd.mask &&& ~~~t ∧
      z.pt = sd.pt.advance c.len ∧ z.fmt = sd.fmt
    (t = sd.mask → exec i s = .next (s.jump c tgt)) ∧
    (t ≠ sd.mask → t = 0 → exec i s = .next (s.retire c)) ∧
    (t ≠ sd.mask → t ≠ 0 → sd.inHandler = true → exec i s = .next (s.terminate x.id Cause.illegalInstr)) ∧
    (t ≠ sd.mask → t ≠ 0 → sd.inHandler = false → x.side (!c.slot) = none →
      ∃ u y, exec i s = .next u ∧ u.agent? x.id = some y ∧ stays y ∧ y.side (!c.slot) = some (Side.at t tgt sd.fmt) ∧
        y.stack = x.stack) ∧
    (∀ z, t ≠ sd.mask → t ≠ 0 → sd.inHandler = false → x.side (!c.slot) = some z → spills < room →
      ∃ u y, exec i s = .next u ∧ u.agent? x.id = some y ∧ stays y ∧ y.side (!c.slot) = some z ∧
        y.stack = { pt := ClausePt.at tgt, len := 1, park := none, mask := t, fmt := sd.fmt } :: x.stack) ∧
    (∀ z, t ≠ sd.mask → t ≠ 0 → sd.inHandler = false → x.side (!c.slot) = some z → room ≤ spills →
      exec i s = .next (s.trap x sd c (Trap.plain Cause.divOverflow (BitVec.ofNat 32 x.stack.length))))

/-- R72 to R74, R78 to R80, R100, R263, R377, R445, R473: REJOIN parks the side where another side or an entry is left, and EXIT
removes the active lanes; a side that loses its last lane leaves its sticky flags to all that remain. The slots are then filled
again: a live side goes on in the primary slot, and the entries that are not parked are popped, the youngest first, into the empty
slots, regang included. Where no side is live and all entries are parked, those at one REJOIN go on as one side with the lanes of
all of them, the low half of fmt of the side with the lowest lane and everyone's sticky flags, those at one BAR arrive there once,
and others take BARRIER with TRAPDATA 0xFFFFFFFF in the entry parked last (the model's choice, notes/assumptions/34.md). YIELD
advances, and where another side of its scheduler is eligible the side is held for those sides and 32 aclk at most. The second
premise leaves out a state in which some side is held for this group's; `leaveSlot` is a book of the turn (R100): the slot of a
side that has left it may hold another, which has not issued. That no hold under YIELD outlives a regang is the model's choice
(notes/assumptions/71.md). -/
def Obligations.SideResults : Prop :=
  (∀ (s : State) (x : Agent) (sd : Side) (c : Cursor) (g : Pred),
      Issues s x sd c → x.cc = none →
      (∀ a ∈ s.agents, ∀ y, a.prim = some y ∨ a.sec = some y → ∀ h, y.hold = some h → ∀ k ∈ h.noted, k.1 ≠ x.id) →
      let m := activeMask x sd g
      let last : Prop := sd.pt.pos + c.len = sd.pt.count + 1
      let e : Entry := { pt := sd.pt, len := c.len, park := some .rejoin, mask := sd.mask, fmt := sd.fmt }
      let up (f : W) : W := f ||| (sd.fmt &&& 0xF0000)
      let parked (l : List Entry) : Prop := ∀ f ∈ l, f.park ≠ none
      let popped (f : Entry) : Side := { Side.at f.mask f.pt.hdr f.fmt with pt := f.pt }
      let joined (y : Side) (f : Entry) : Side :=
        { y with mask := y.mask ||| f.mask, pt := ClausePt.at y.pt.hdr, fmt := y.fmt ||| (f.fmt &&& 0xF0000), stall := none,
                 began := none, ahead := false, hold := none, waited := 0, starved := false }
      let meet (y : Side) (f : Entry) : Prop :=
        y.atHeader = true ∧ y.inHandler = false ∧ f.pt.pos = 0 ∧ y.pt.hdr = f.pt.hdr
      let refills (i : Instr) (z : Option Side) (st : List Entry) : Prop :=
        let goes (p q : Option Side) (l : List Entry) : Prop :=
          exec i s = .next ((s.setAgent { x with prim := p, sec := q, stack := l }).leaveSlot x.id)
        (∀ y, z = some y → parked st → goes (some y) none st) ∧
        (∀ pre f post, st = pre ++ f :: post → parked pre → f.park = none →
          (∀ y, z = some y → ¬meet y f → goes (some y) (some (popped f)) (pre ++ post)) ∧
          (∀ y, z = some y → meet y f → parked post → goes (some (joined y f)) none (pre ++ post)) ∧
          (z = none → parked post → goes (some (popped f)) none (pre ++ post)) ∧
          (∀ mid k rest, z = none → post = mid ++ k :: rest → parked mid → k.park = none → ¬meet (popped f) k →
            goes (some (popped f)) (some (popped k)) (pre ++ mid ++ rest))) ∧
        (∀ f fs, z = none → st = f :: fs → parked st →
          let alike : Prop := ∀ k ∈ fs, k.pt.hdr = f.pt.hdr ∧ k.pt.pos = f.pt.pos ∧ k.park = f.park
          let union (w : W) : Prop := ∀ l, w.getLsbD l = st.any (fun k => k.mask.getLsbD l)
          let fmts (w : W) : Prop :=
            (∀ l pre k post j, st = pre ++ k :: post → k.mask.getLsbD l = true → (∀ q ∈ pre, q.mask.getLsbD l = false) →
              (∀ q ∈ st, ∀ n, n < l → q.mask.getLsbD n = false) → j < 12 → w.getLsbD j = k.fmt.getLsbD j) ∧
            ∀ j, 12 ≤ j → w.getLsbD j = (decide (16 ≤ j ∧ j < 20) && st.any (fun k => k.fmt.getLsbD j))
          (alike → f.park = some .rejoin → ∃ t y w, exec i s = .next t ∧ t.agent? x.id = some y ∧ y.prim = some w ∧
            y.sec = none ∧ y.stack = [] ∧ w.pt = f.pt.advance f.len ∧ w.stall = none ∧ union w.mask ∧ fmts w.fmt) ∧
          (∀ b o, alike → f.park = some (.bar b o) → ∃ w, union w.mask ∧ fmts w.fmt ∧ w.pt = f.pt ∧
            let y : Agent := { x with prim := some w, sec := none, stack := [] }
            exec i s = .next (((s.setAgent y).arrive y w { agent := x.id, slot := false, raw := 0, len := f.len, left := false }
              w.mask b o).leaveSlot x.id)) ∧
          (¬alike → x.trapvec ≠ 0 → ∃ t y w, exec i s = .next t ∧ t.agent? x.id = some y ∧ y.prim = some w ∧ y.sec = none ∧
            y.stack = fs ∧ w.mask = f.mask ∧ w.ret = f.pt ∧ w.inHandler = true ∧ y.tcause.toNat = Cause.barrier ∧
            y.tdata = 0xFFFFFFFF))
      (¬last → exec (.rejoin g) s = .next (s.trap x sd c (Trap.plain Cause.illegalInstr c.raw))) ∧
      (last → m = 0 → exec (.rejoin g) s = .next (s.retire c)) ∧
      (last → m ≠ 0 → sd.inHandler = true → exec (.rejoin g) s = .next (s.terminate x.id Cause.illegalInstr)) ∧
      (last → m ≠ 0 → sd.inHandler = false → x.side (!c.slot) = none → x.stack = [] →
        exec (.rejoin g) s = .next (s.retire c)) ∧
      (last → m ≠ 0 → sd.inHandler = false → ¬(x.side (!c.slot) = none ∧ x.stack = []) →
        refills (.rejoin g) (x.side (!c.slot)) (e :: x.stack)) ∧
      (m = 0 → exec (.exit g) s = .next (s.retire c)) ∧
      (m ≠ 0 → m ≠ sd.mask → exec (.exit g) s =
        .next ((s.setAgent (x.setSide c.slot (some { sd with mask := sd.mask &&& ~~~m }))).retire c)) ∧
      (m ≠ 0 → m = sd.mask → refills (.exit g) ((x.side (!c.slot)).map (fun z => { z with fmt := up z.fmt }))
        (x.stack.map (fun f => { f with fmt := up f.fmt }))) ∧
      (m ≠ 0 → m = sd.mask → x.side (!c.slot) = none → x.stack = [] →
        exec (.exit g) s = .next (((s.setAgent { x with prim := none, sec := none }).endGroup x.id).leaveSlot x.id))) ∧
  (∀ (s : State) (x : Agent) (sd : Side) (c : Cursor) (g : Pred),
      Issues s x sd c →
      (activeMask x sd g = 0 ∨ x.isCc = true ∨ s.eligibleMates x c.slot = [] → exec (.yield g) s = .next (s.retire c)) ∧
      (activeMask x sd g ≠ 0 → x.isCc = false → s.eligibleMates x c.slot ≠ [] →
        exec (.yield g) s = .next (s.setAgent (x.setSide c.slot (some { sd.retired c.len with
          hold := some { until_ := s.aclk + 32, noted := s.eligibleMates x c.slot } })))))

/-- R78 to R83, R339, R340, R345: BAR of a group's one side arrives at its word: it waits, or completes the phase and goes
on, or traps BARRIER. A side that is not the group's last parks at its BAR, and when all are parked at one BAR they go on as one
side, which arrives once. BINIT sets EXPECT at a word no group has arrived at. An arrival tells what its group knows of resolved
MMAs (`barTell`, `barLearn`: the model's own books, notes/assumptions/13.md). -/
def Obligations.BarrierResults : Prop :=
  ∀ (s : State) (x : Agent) (sd : Side) (c : Cursor) (g : Pred) (b : SPair) (o : SOff) (r : SReg) (k off : Nat) (gg : Bool),
    Issues s x sd c → x.cc = none → activeMask x sd g ≠ 0 →
    let last : Prop := sd.pt.pos + c.len = sd.pt.count + 1
    let e : Entry := { pt := sd.pt, len := c.len, park := some (.bar b o), mask := sd.mask, fmt := sd.fmt }
    ((∀ a ∈ s.agents, ∀ y, a.prim = some y ∨ a.sec = some y → ∀ h, y.hold = some h → ∀ n ∈ h.noted, n.1 ≠ x.id) →
      ∀ z, last → sd.inHandler = false → x.side (!c.slot) = some z → (∀ f ∈ x.stack, f.park ≠ none) →
        exec (.bar g b o) s =
          .next ((s.setAgent { x with prim := some z, sec := none, stack := e :: x.stack }).leaveSlot x.id)) ∧
    (¬last → exec (.bar g b o) s = .next (s.trap x sd c (Trap.plain Cause.illegalInstr c.raw))) ∧
    (last → sd.inHandler = true → exec (.bar g b o) s = .next (s.terminate x.id Cause.illegalInstr)) ∧
    (s.barCheck (s.who x) (scalarAddr x b o) = .ok (.pad k off gg) → s.targetPoisoned (.pad k off gg) 8 = false →
    let w : Nat := leNat (s.homeReadT (.pad k off gg) 8)
    let expect := w % 2 ^ 16
    let arrived := w / 2 ^ 16 % 2 ^ 16
    let phase := w / 2 ^ 32 % 2 ^ 16
    let put (n : Nat) : State := s.homeWriteT (.pad k off gg) (toLE 8 n)
    let told (n : Nat) : State := (put n).barTell x.id k off
    let barrier := Host.Outcome.next (s.trap x sd c (Trap.plain Cause.barrier (BitVec.ofNat 32 off)))
    let sE := (x.sreg r.toNat).toNat
    (last → sd.inHandler = false → x.side (!c.slot) = none → x.stack = [] →
      (w / 2 ^ 48 = 0 → arrived + 1 < expect →
        exec (.bar g b o) s = .next ((told (w + 2 ^ 16)).stall c (.barrier k off gg))) ∧
      (w / 2 ^ 48 = 0 → arrived + 1 = expect →
        let u := told (expect + 2 ^ 32 * ((phase + 1) % 2 ^ 16))
        exec (.bar g b o) s =
          .next ((((u.wake k off).acquire x gg).barLearn (x.id :: u.waitersAt k off) k off).retire c)) ∧
      (w / 2 ^ 48 ≠ 0 ∨ expect < arrived + 1 → exec (.bar g b o) s = barrier)) ∧
    (last → sd.inHandler = false → x.side (!c.slot) = none → x.stack ≠ [] →
      (∀ f ∈ x.stack, f.pt.hdr = sd.pt.hdr ∧ f.pt.pos = sd.pt.pos ∧ f.park = some (.bar b o)) → MemoryWf s →
      w / 2 ^ 48 = 0 → arrived + 1 < expect →
        ∃ t y z, exec (.bar g b o) s = .next t ∧ t.agent? x.id = some y ∧ y.prim = some z ∧ y.sec = none ∧ y.stack = [] ∧
          z.stall = some (.barrier k off gg) ∧ z.pt = sd.pt ∧
          (∀ l, z.mask.getLsbD l = (sd.mask.getLsbD l || x.stack.any (fun f => f.mask.getLsbD l))) ∧
          leNat (t.homeReadT (.pad k off gg) 8) = w + 2 ^ 16) ∧
    (sE < 2 ^ 16 → arrived = 0 → exec (.binit g b r o) s = .next ((put (w / 2 ^ 32 * 2 ^ 32 + sE)).retire c)) ∧
    (2 ^ 16 ≤ sE ∨ arrived ≠ 0 → exec (.binit g b r o) s = barrier))

/-- R50, R51, R65, R398, R452, R463: GETFMT reads the side's fmt; SETFMT writes all of it, or raises ILLEGAL_INSTR where a
reserved bit is set, GSZ is 0b11 or QF is no listed code; TRAP raises TRAP_INSTR with its code: that entry is its effect. -/
def Obligations.FmtAndTrapResults : Prop :=
  (∀ (s : State) (x : Agent) (sd : Side) (c : Cursor) (g : Pred) (r : SReg),
      Issues s x sd c →
      let m := activeMask x sd g
      let v := (x.sreg r.toNat).toNat
      let ok : Prop := v / 2 ^ 20 = 0 ∧ v / 2 ^ 12 % 2 ^ 4 = 0 ∧ v / 2 ^ 9 % 4 ≠ 3 ∧
        v / 2 ^ 5 % 16 ∈ [0, 1, 2, 3, 4, 5, 0xB, 0xC]
      (m = 0 → exec (.setfmt g r) s = .next (s.retire c) ∧ exec (.getfmt g r) s = .next (s.retire c)) ∧
      (m ≠ 0 → exec (.getfmt g r) s = wroteS s x c r.toNat sd.fmt) ∧
      (m ≠ 0 → ok → exec (.setfmt g r) s =
        .next ((s.setAgent (x.setSide c.slot (some { sd with fmt := x.sreg r.toNat }))).retire c)) ∧
      (m ≠ 0 → ¬ok → exec (.setfmt g r) s = .next (s.trap x sd c (Trap.plain Cause.illegalInstr c.raw)))) ∧
  (∀ (s : State) (x : Agent) (sd : Side) (c : Cursor) (g : Pred) (k : BitVec 8),
      Issues s x sd c →
      (activeMask x sd g = 0 → exec (.trap g k) s = .next (s.retire c)) ∧
      (activeMask x sd g ≠ 0 → exec (.trap g k) s = .next (s.trap x sd c (Trap.plain 0x11 (k.setWidth 32)))))

/-- R62, R67, R68, R454 to R456, R271: the special registers of a group, as SREAD reads them in either form and SWRITE
writes them; CLK latches its high half in CLKHI; SEL from 0x80 raises PRIVILEGED; and the fields of GSTAT. -/
def Obligations.SpecialRegisters : Prop :=
  (∀ (s : State) (x : Agent) (sd : Side) (c : Cursor) (g : Pred) (r : SReg) (d : VReg),
      Issues s x sd c → x.cc = none → d.toNat < x.nregs →
      let m := activeMask x sd g
      let clk : DW := s.clk x.pkg
      let reads (n : Nat) (f : Nat → W) : Prop :=
        let y : Agent := if n = 0x21 then { x with clkhi := (clk >>> 32).setWidth 32 } else x
        (m = 0 → exec (.sread g (BitVec.ofNat 8 n) (.s r)) s = .next (s.retire c)) ∧
        (m ≠ 0 → exec (.sread g (BitVec.ofNat 8 n) (.s r)) s =
          .next ((s.setAgent (y.setS r.toNat (f (lowLane m)))).retire c) ∧
          exec (.sread g (BitVec.ofNat 8 n) (.v d)) s = .next ((s.setAgent (y.setV d.toNat m f)).retire c))
      let one (n : Nat) (w : W) : Prop := reads n (fun _ => w)
      let stops (i : Instr) (cause : Nat) : Prop := exec i s = .next (s.trap x sd c (Trap.plain cause c.raw))
      let writes (n : Nat) (y : Agent) : Prop :=
        (m = 0 → exec (.swrite g (BitVec.ofNat 8 n) r) s = .next (s.retire c)) ∧
        (m ≠ 0 → exec (.swrite g (BitVec.ofNat 8 n) r) s = .next ((s.setAgent y).retire c))
      (reads 0x00 (fun l => BitVec.ofNat 32 l) ∧ one 0x01 (BitVec.ofNat 32 x.grp) ∧
        reads 0x02 (fun l => (x.wid l).setWidth 32) ∧ reads 0x03 (fun l => (x.wid l >>> 32).setWidth 32) ∧
        reads 0x04 (fun l => BitVec.ofNat 32 (32 * x.grp + l))) ∧
      (∀ i (h : i < 6), (i ≠ 0 → one (0x04 + i) x.wf[i]) ∧ one (0x0A + i) x.we[i]) ∧
      (∀ i (h : i < 4), one (0x10 + i) x.shape[i]) ∧
      (one 0x14 (BitVec.ofNat 32 x.bucket) ∧ one 0x18 (BitVec.ofNat 32 (s.logical x)) ∧
        one 0x19 (BitVec.ofNat 32 (s.logical x / 4)) ∧ one 0x1A (BitVec.ofNat 32 x.pkg) ∧
        one 0x1B (BitVec.ofNat 32 x.vf) ∧ one 0x1C (BitVec.ofNat 32 x.stage)) ∧
      (one 0x20 (x.lksel.setWidth 32) ∧ one 0x21 (clk.setWidth 32) ∧ one 0x22 x.clkhi ∧
        one 0x28 (x.tcause.setWidth 32) ∧ one 0x29 x.tpc ∧ one 0x2A x.tdata ∧ one 0x2B (x.gstat c.slot)) ∧
      (writes 0x20 { x with lksel := (x.sreg r.toNat).setWidth 20 } ∧
        writes 0x2B { x with errtrap := (x.sreg r.toNat).getLsbD 0 }) ∧
      ∀ sel : BitVec 8,
        (0x80 ≤ sel.toNat → stops (.sread g sel (.s r)) Cause.privileged ∧ stops (.sread g sel (.v d)) Cause.privileged ∧
          stops (.swrite g sel r) Cause.privileged) ∧
        (sel.toNat ∈ [0x15, 0x16, 0x17, 0x1D, 0x1E, 0x1F, 0x23, 0x24, 0x25, 0x26, 0x27] ∨
            (0x2C ≤ sel.toNat ∧ sel.toNat < 0x80) →
          stops (.sread g sel (.s r)) Cause.illegalInstr ∧ stops (.sread g sel (.v d)) Cause.illegalInstr) ∧
        (sel.toNat < 0x80 → sel.toNat ≠ 0x20 → sel.toNat ≠ 0x2B → stops (.swrite g sel r) Cause.illegalInstr)) ∧
  (∀ (x : Agent) (slot : Bool) (i : Nat), i < 32 →
      (x.gstat slot).getLsbD i =
        (if i = 0 then x.errtrap else if i = 1 then slot else if i = 2 then x.prim.isSome && x.sec.isSome
         else if 16 ≤ i ∧ i < 27 then x.stack.length.testBit (i - 16) else false))

/-! ### Traps -/

/-- R77, R224 to R226, R262 to R265, R375: taking a trap: in handler the group is terminated; else the trap registers are
written, and the side goes to the trap vector in handler, its return point kept, or the group is terminated where its launch
names no vector; until it returns the other side is not eligible, unless its word has issued before and only waits (the model's
choice, notes/assumptions/96.md). A memory cause takes a free replay record, writes its 64 bytes, and names it with the lane
in TRAPDATA, once the page of the record may be written. ERET returns: after a memory cause the record named by TRAPDATA is
freed, the side leaves the handler and resumes at the trapping word (.NEXT: after it) with the lanes that it holds; outside a
handler it traps ILLEGAL_INSTR, and after ILLEGAL_CLAUSE it terminates the group. -/
def Obligations.TrapsAndReturns : Prop :=
  (∀ (s : State) (x : Agent) (sd : Side) (id : Nat) (slot : Bool) (len cause : Nat) (data : W),
      s.agent? id = some x → x.cc = none → x.side slot = some sd →
      let t := s.takeTrap id slot sd.pt len (Trap.plain cause data)
      let regs : Agent := { x with
        tcause := BitVec.ofNat 8 cause, tpc := (sd.pt.addr - x.code).setWidth 32, tdata := data }
      (sd.inHandler = true → t = s.terminate id cause) ∧
      (sd.inHandler = false → x.trapvec = 0 → t = (s.setAgent regs).terminate id cause) ∧
      (sd.inHandler = false → x.trapvec ≠ 0 →
        ∃ z, t = s.setAgent (regs.setSide slot (some z)) ∧ z.ret = sd.pt ∧ z.retLen = len ∧ z.inHandler = true ∧
          z.pt = ClausePt.at (x.code + x.trapvec.setWidth 64) ∧ z.mask = sd.mask ∧ z.fmt = sd.fmt ∧ z.stall = none ∧
          ((∀ y, x.side (!slot) = some y → y.began = none) → t.eligible (regs.setSide slot (some z)) (!slot) = false))) ∧
  (∀ (s : State) (x : Agent) (sd : Side) (id : Nat) (slot : Bool) (len cause : Nat) (f : FaultRec),
      MemoryWf s → s.agent? id = some x → x.cc = none → x.side slot = some sd → sd.inHandler = false → x.trapvec ≠ 0 →
      x.vf < 128 → f.lane < 32 → s.recordsWait x.pkg x.vf 1 none = none →
      let t := s.takeTrap id slot sd.pt len { cause := cause, data := 0, frec := some f }
      let v := s.vf x.pkg x.vf
      ∃ y, t.agent? id = some y ∧ y.tcause = BitVec.ofNat 8 cause ∧ y.tdata.toNat / 65536 = f.lane ∧
        (∀ k, y.tdata.toNat % 65536 = k → k ≠ 0 →
          k ∉ v.rpUsed ∧ y.frecs = k :: x.frecs ∧
          ∀ pa, s.recordPa x.pkg x.vf k = some pa →
            Memory.readN t.ctl pa 64 = recordBytes 0x10 cause f.sub f.lane 0 1 sd.pt.addr [f.lanes.toNat, f.done.toNat]
              f.addr f.detail) ∧
        (y.tdata.toNat % 65536 = 0 → y.frecs = x.frecs ∧ t.ctl = s.ctl)) ∧
  (∀ (s : State) (x : Agent) (sd : Side) (c : Cursor) (g : Pred),
      Issues s x sd c → x.cc = none →
      let k := x.tdata.toNat % 65536
      let memory : Prop := x.tcause.toNat ∈ [Cause.misaligned, Cause.pageFault, Cause.access, Cause.remoteTensor, Cause.peerLost,
        Cause.poison, Cause.cohIsolation]
      let s1 := if memory ∧ k ∈ x.frecs then s.freeRecord x.pkg x.vf k else s
      let left := if memory then x.frecs.filter (· != k) else x.frecs
      let go (i : Instr) (pt : ClausePt) : Prop :=
        (activeMask x sd g = 0 → exec i s = .next (s.retire c)) ∧
        (activeMask x sd g ≠ 0 → sd.inHandler = false →
          exec i s = .next (s.trap x sd c (Trap.plain Cause.illegalInstr c.raw))) ∧
        (activeMask x sd g ≠ 0 → sd.inHandler = true → x.tcause = 0x01 →
          exec i s = .next (s.terminate x.id Cause.illegalClause)) ∧
        (activeMask x sd g ≠ 0 → sd.inHandler = true → x.tcause ≠ 0x01 →
          ∃ t z, exec i s = .next t ∧ t = s1.setAgent ({ x with frecs := left }.setSide c.slot (some z)) ∧
            z = { sd with inHandler := false, pt := pt, stall := none, began := none, ahead := false, waited := 0,
                          starved := false })
      go (.eret g) sd.ret ∧ go (.eretNext g) (sd.ret.advance sd.retLen) ∧
      (sd.ret.pos + sd.retLen ≤ sd.ret.count →
        (sd.ret.advance sd.retLen).addr = sd.ret.addr + BitVec.ofNat 64 (4 * sd.retLen) ∧
        (sd.ret.advance sd.retLen).hdr = sd.ret.hdr) ∧
      (sd.ret.count < sd.ret.pos + sd.retLen →
        sd.ret.advance sd.retLen = ClausePt.at (sd.ret.hdr + BitVec.ofNat 64 (4 * (sd.ret.count + 1)))))

/-! ### Control cores -/

/-- R271, R295, R455: the registers of a control core: in supervisor state SREAD and SWRITE reach the privileged ones, of
which the read-only ones ignore a write; a SEL that names none raises ILLEGAL_INSTR; in user state any raises
PRIVILEGED. That a write of a read-only register is ignored and an unassigned SEL raises ILLEGAL_INSTR is the model's reading
(notes/assumptions/55.md). -/
def Obligations.ControlCoreRegisters : Prop :=
  ∀ (s : State) (x : Agent) (sd : Side) (c : Cursor) (k : Cc) (g : Pred) (r : SReg),
    Issues s x sd c → x.cc = some k → activeMask x sd g ≠ 0 →
    let v := x.sreg r.toNat
    let stops (i : Instr) (cause : Nat) : Prop := exec i s = .next (s.trap x sd c (Trap.plain cause c.raw))
    let reg (n : Nat) (w : W) (k1 : Cc) : Prop :=
      exec (.sread g (BitVec.ofNat 8 n) (.s r)) s = wroteS s x c r.toNat w ∧
      exec (.swrite g (BitVec.ofNat 8 n) r) s = .next ((s.setAgent { x with cc := some k1 }).retire c)
    (k.supervisor = true →
      reg 0x80 (BitVec.ofNat 32 (k.croot.toNat / 2 ^ 16 % 2 ^ 16 * 2 ^ 16))
        { k with croot := BitVec.ofNat 50 (k.croot.toNat / 2 ^ 32 * 2 ^ 32 + v.toNat / 2 ^ 16 * 2 ^ 16) } ∧
      reg 0x81 (BitVec.ofNat 32 (k.croot.toNat / 2 ^ 32))
        { k with croot := BitVec.ofNat 50 (v.toNat % 2 ^ 18 * 2 ^ 32 + k.croot.toNat % 2 ^ 32) } ∧
      reg 0x82 (BitVec.ofNat 32 (k.troot.toNat / 2 ^ 11 % 2 ^ 21 * 2 ^ 11))
        { k with troot := BitVec.ofNat 50 (k.troot.toNat / 2 ^ 32 * 2 ^ 32 + v.toNat / 2 ^ 11 * 2 ^ 11) } ∧
      reg 0x83 (BitVec.ofNat 32 (k.troot.toNat / 2 ^ 32))
        { k with troot := BitVec.ofNat 50 (v.toNat % 2 ^ 18 * 2 ^ 32 + k.troot.toNat % 2 ^ 32) } ∧
      reg 0x84 (k.asid.setWidth 32) k ∧ reg 0x90 k.evec { k with evec := v } ∧ reg 0x91 k.epc { k with epc := v } ∧
      reg 0x92 (BitVec.ofNat 32 (k.ecause.toNat + (if k.prev then 256 else 0))) k ∧ reg 0x93 k.edata k ∧
      reg 0x94 (BitVec.ofNat 32 k.num) k) ∧
    (exec (.sread g 0x1A (.s r)) s = wroteS s x c r.toNat (BitVec.ofNat 32 x.pkg) ∧
      exec (.sread g 0x22 (.s r)) s = wroteS s x c r.toNat x.clkhi ∧
      exec (.sread g 0x01 (.s r)) s = wroteS s x c r.toNat 0) ∧
    ∀ sel : BitVec 8, 0x80 ≤ sel.toNat →
      (k.supervisor = false →
        stops (.sread g sel (.s r)) Cause.privileged ∧ stops (.swrite g sel r) Cause.privileged) ∧
      (k.supervisor = true → sel.toNat ∉ [0x80, 0x81, 0x82, 0x83, 0x84, 0x90, 0x91, 0x92, 0x93, 0x94] →
        stops (.sread g sel (.s r)) Cause.illegalInstr ∧ stops (.swrite g sel r) Cause.illegalInstr)

/-- R264, R271, R295, R374, R376 to R378: a control core's exception: supervisor state at EVEC; EPC, ECAUSE, PREV and EDATA record
the word, the cause, the state it came from and the detail; it has no replay area, so a memory cause gives index 0. ERET returns
to EPC (.NEXT: past the word there) in the state of PREV, EXIT halts the core, and in user state both raise PRIVILEGED (R376,
R378). Where their guard is false they only advance: that the guard comes before the check of the state is the model's reading
(notes/assumptions/27.md). COHSET and TLBINV raise PRIVILEGED in user state and in any group. -/
def Obligations.ControlCoreResults : Prop :=
  (∀ (s : State) (x : Agent) (sd : Side) (k : Cc) (id : Nat) (slot : Bool) (len : Nat) (t : Trap),
      s.agent? id = some x → x.cc = some k → x.side slot = some sd →
      ∃ z, s.takeTrap id slot sd.pt len t = s.setAgent { (x.setSide slot (some z)) with
          cc := some { k with
            supervisor := true
            prev := k.supervisor
            epc := (sd.pt.addr - x.code).setWidth 32
            ecause := BitVec.ofNat 8 t.cause
            edata := match t.frec with
              | some f => BitVec.ofNat 32 (65536 * f.lane)
              | none => t.data } } ∧
        z.pt = ClausePt.at (x.code + k.evec.setWidth 64) ∧ z.mask = sd.mask ∧ z.fmt = sd.fmt ∧ z.stall = none) ∧
  (∀ (s : State) (x : Agent) (sd : Side) (c : Cursor) (g : Pred) (b : SPair) (r d : SReg) (o : SOff) (u : PgSize),
      Issues s x sd c →
      let stops (i : Instr) : Prop := exec i s = .next (s.trap x sd c (Trap.plain Cause.privileged c.raw))
      (∀ k, x.cc = some k → k.supervisor = false →
        (activeMask x sd g ≠ 0 → stops (.eret g) ∧ stops (.eretNext g) ∧ stops (.exit g)) ∧
        stops (.cohset g b r o) ∧ stops (.tlbinv g u d r)) ∧
      (x.isCc = true → activeMask x sd g = 0 → exec (.eret g) s = .next (s.retire c) ∧
        exec (.eretNext g) s = .next (s.retire c) ∧ exec (.exit g) s = .next (s.retire c)) ∧
      (x.cc = none → stops (.cohset g b r o) ∧ stops (.tlbinv g u d r)) ∧
      (∀ k, x.cc = some k → k.supervisor = true → activeMask x sd g ≠ 0 →
        exec (.exit g) s = .next ((s.setAgent { x with cc := some { k with halted := true } }).retire c) ∧
        let goes (i : Instr) (n : Nat) : Prop := ∃ z, exec i s =
            .next (s.setAgent { (x.setSide c.slot (some z)) with cc := some { k with supervisor := k.prev } }) ∧
          z.pt.addr = x.code + k.epc.setWidth 64 + BitVec.ofNat 64 (4 * n) ∧ z.mask = sd.mask ∧ z.fmt = sd.fmt
        goes (.eret g) 0 ∧ (x.code + k.epc.setWidth 64 = sd.ret.addr → goes (.eretNext g) sd.retLen)))


/-! ### Class MEM: loads, stores, atomics -/

/-- R65, R143, R144, R165, R185, R277, R411 to R414: a load whose lanes all pass their checks completes: each active lane's
registers (of a scalar form, made once, the scalar registers) take the little-endian value of the bytes that the access
finds at its target before the word, extended to the registers, and everything else stays; where nothing is poisoned and no
L1 copy stands before the bytes they are those of memory. `.fe` and `.fec` reach full beads only, and wait while one is
empty; `.fec` leaves the beads of the word empty. Poisoned bytes set SPOI, or raise POISON where ERRTRAP is set: for a scalar
form its record names the lowest active lane, the model's choice (notes/assumptions/47.md). -/
def Obligations.LoadResults : Prop :=
  ∀ (s : State) (x : Agent) (sd : Side) (c : Cursor) (g : Pred) (acq : Bool) (q : LdQ) (b : SPair) (d : VReg) (o : VOff)
    (sr : SReg) (so : SOff) (ts : List (Nat × DW × Target)),
    Issues s x sd c →
    let m := activeMask x sd g
    let w := s.who x
    let fe : Prop := q = .fe ∨ q = .fec
    let beadOf (y : Nat × DW × Target) (n k bd : Nat) : Prop := ∃ off e, y.2.2 = .pad k off e ∧ bd ∈ beadsOf off n
    let inPads : Prop := ∀ y ∈ ts, ∃ k off e, y.2.2 = .pad k off e
    let waits (n : Nat) : Prop := ∃ y ∈ ts, ∃ k bd cr, beadOf y n k bd ∧ s.crew? k = some cr ∧ bd ∉ cr.full
    let word (i : Instr) (n : Nat) (lanes : List Nat) (va : Nat → DW) (mask : W) (vs ss : List Nat)
        (got : Agent → Nat → List Byte → Prop) : Prop :=
      let bad := ts.filter (fun y => s.readPoisoned w y.2.2 n)
      (m = 0 → exec i s = .next (s.retire c)) ∧
      (m ≠ 0 → Lands s x Kind.load n lanes va ts →
        (¬fe ∨ (inPads ∧ ¬waits n) →
          (bad.isEmpty = true ∨ x.errtrap = false →
            ∃ t a, exec i s = .next t ∧
              AdvancedWith s t x c sd mask vs ss (if bad.isEmpty then 0 else spoi) ∧ t.agent? x.id = some a ∧
              (∀ y ∈ ts, got a y.1 (s.readT w y.2.2 n true).1) ∧
              (Clean s x n ts → ∀ y ∈ ts, ∀ bs, plainBytes s y.2.2 n = some bs → got a y.1 bs) ∧
              ((∀ y ∈ ts, (plainBytes s y.2.2 n).isSome) → SameBytes s t) ∧
              ∀ k cr ds, s.crew? k = some cr → t.crew? k = some ds → ∀ bd,
                (bd ∈ ds.full ↔ bd ∈ cr.full ∧ ¬(q = .fec ∧ ∃ y ∈ ts, beadOf y n k bd))) ∧
          (∀ y r, bad = y :: r → x.errtrap = true → ∃ u : State, u.agents = s.agents ∧
            exec i s = .next (u.trap x sd c (memTrap c 0 Cause.poison y.1 (maskOf (bad.map (fun z => z.1))) y.2.1 0)))) ∧
        (fe → inPads → waits n → ∃ k bs, exec i s = .next (s.stall c (.beads k bs)) ∧
          ∀ bd, bd ∈ bs ↔ ∃ y ∈ ts, beadOf y n k bd))
    let vec (i : Instr) (n : Nat) (signed : Bool) : Prop :=
      Fits x (dataRegs d.toNat n ++ VOff.regs o) → d.toNat % ((n + 3) / 4) = 0 →
      word i n (lanesOf m) (laneAddr x b o) m (dataRegs d.toNat n) [] (fun a l bs =>
        ∀ k, k < (n + 3) / 4 → a.vreg (d.toNat + k) l = wordAt (loadValue signed bs) k)
    let sca (i : Instr) (n : Nat) : Prop :=
      sr.toNat % (n / 4) = 0 →
      word i n [lowLane m] (fun _ => scalarAddr x b so) 0 [] ((List.range (n / 4)).map (sr.toNat + ·)) (fun a _ bs =>
        ∀ k, k < n / 4 → a.sreg (sr.toNat + k) = wordAt (leNat bs) k)
    vec (.ldB8 g acq q b d o) 1 false ∧ vec (.ldX8 g acq q b d o) 1 true ∧ vec (.ldB16 g acq q b d o) 2 false ∧
    vec (.ldX16 g acq q b d o) 2 true ∧ vec (.ldB32 g acq q b d o) 4 false ∧ vec (.ldB64 g acq q b d o) 8 false ∧
    vec (.ldB128 g acq q b d o) 16 false ∧ sca (.ldB32Scalar g acq q b sr so) 4 ∧ sca (.ldB64Scalar g acq q b sr so) 8

/-- R143, R186, R249, R250, R457, R458: a store whose lanes all pass their checks completes and changes no register. Where its
targets are in control space outside SOFT pages, in tensor space or in scratchpads, the memory bytes it covers take the data of
the highest lane that covers them, and every other byte stays; a covered bead is full. A `.lk` store to such targets also merges
its elements into the record that LKSEL names, as the store has left it: those that no higher lane overwrites, which are all of
them where no two lanes overlap. A store to SOFT lines stays, dirty, in the core's copies, which it fetches where there is room,
and changes no byte of memory; that without a copy `.nt` writes the home is the model's choice (notes/assumptions/57.md). -/
def Obligations.StoreResults : Prop :=
  (∀ (s : State) (x : Agent) (sd : Side) (c : Cursor) (g : Pred) (rel : Bool) (q : StQ) (b : SPair) (d : VReg) (o : VOff)
    (sr : SReg) (so : SOff) (ts : List (Nat × DW × Target)),
    Issues s x sd c → MemoryWf s → (q = .lk → x.isCc = false ∧ x.lksel.toNat < s.lkNrec x.pkg x.vf) →
    let m := activeMask x sd g
    let core := cacheCore x
    let rec_ := s.lkAddr x.pkg x.vf x.lksel.toNat
    let done (i : Instr) (n : Nat) (v : Nat → Nat) : Prop :=
      let merged (f : Nat → Nat → Option Byte) (mem p : Nat) : Option Byte :=
        let old := (List.range 64).map (fun i => (f 1 (rec_ + i)).getD (Memory.read s.ten (rec_ + i)))
        let r := (LkRec.ofBytes old).merge (lkFmt n) (lkElems n (ts.map (fun y => (y.2.2, v y.1 % 2 ^ (8 * n)))))
        if mem = 1 ∧ rec_ ≤ p ∧ p < rec_ + 64 then r.toBytes[p - rec_]? else f mem p
      ∃ t, exec i s = .next t ∧ Advanced s t x c sd 0 [] [] ∧
        ((∀ y ∈ ts, y.2.2.place.1 ≠ 2 ∧ ∀ pa, y.2.2 ≠ .ctl pa 1) →
          (q ≠ .lk → Stored s t (covering n v ts)) ∧
          (q = .lk → s.isPoisoned .ten rec_ 64 = false → Stored s t (merged (covering n v ts))) ∧
          ∀ y ∈ ts, ∀ k off e, y.2.2 = .pad k off e → ∀ r, t.crew? k = some r → ∀ bd ∈ beadsOf off n, bd ∈ r.full) ∧
        (∀ l va pa, ts = [(l, va, .ctl pa 1)] → q ≠ .lk →
          let line := pa / 128
          let put (e : L1Line) : L1Line := e.put (pa % 128) (toLE n (v l)) true
          (∀ e, ownCopy s x line = some e → ownCopy t x line = some (put e) ∧ SameBytes s t) ∧
          (ownCopy s x line = none → q = .nt → ownCopy t x line = none ∧ Stored s t (covering n v ts)) ∧
          (∀ p, ownCopy s x line = none → q ≠ .nt → s.pkg? x.pkg = some p → s.isPoisoned .ctl (128 * line) 128 = false →
            s.l1Count x.pkg core < p.l1Lines core x.vf →
            ownCopy t x line = some (put
              { core := core, space := .ctl, line := line, bytes := Memory.readN s.ctl (128 * line) 128, dirty := 0,
                vf := x.vf, poison := false }) ∧ SameBytes s t)) ∧
        (let lines := (ts.map (fun y => y.2.2.place.2 / 128)).eraseDups
         let missing := lines.filter (fun k => (ownCopy s x k).isNone)
         (∀ y ∈ ts, ∃ pa, y.2.2 = .ctl pa 1 ∧ pa % n = 0) → (q = .nt → missing = []) →
         (∀ k ∈ missing, s.isPoisoned .ctl (128 * k) 128 = false) → (∀ k e, ownCopy s x k = some e → e.bytes.length = 128) →
         (∀ p, s.pkg? x.pkg = some p → s.l1Count x.pkg core + missing.length ≤ p.l1Lines core x.vf) →
         (s.pkg? x.pkg).isSome = true →
         (q ≠ .lk → SameBytes s t) ∧ (q = .lk → s.isPoisoned .ten rec_ 64 = false → Stored s t (merged (fun _ _ => none))) ∧
         ∀ k ∈ lines, ∃ f, ownCopy t x k = some f ∧ ∀ i, i < 128 →
           let new_ := covering n v ts 0 (128 * k + i)
           let was : Byte × Bool := match ownCopy s x k with
             | some e => (e.bytes.getD i 0, e.dirty.getLsbD i)
             | none => (Memory.read s.ctl (128 * k + i), false)
           f.bytes.getD i 0 = new_.getD was.1 ∧ f.dirty.getLsbD i = (new_.isSome || was.2))
    let vec (i : Instr) (n : Nat) : Prop :=
      Fits x (dataRegs d.toNat n ++ VOff.regs o) →
      (m = 0 → exec i s = .next (s.retire c)) ∧
      (m ≠ 0 → Lands s x Kind.store n (lanesOf m) (laneAddr x b o) ts → done i n (vecData x d.toNat n))
    let sca (i : Instr) (n : Nat) : Prop :=
      (m = 0 → exec i s = .next (s.retire c)) ∧
      (m ≠ 0 → Lands s x Kind.store n [lowLane m] (fun _ => scalarAddr x b so) ts →
        done i n (fun _ => scaData x sr.toNat n))
    vec (.stB8 g rel q b d o) 1 ∧ vec (.stB16 g rel q b d o) 2 ∧ vec (.stB32 g rel q b d o) 4 ∧
    vec (.stB64 g rel q b d o) 8 ∧ vec (.stB128 g rel q b d o) 16 ∧
    sca (.stB32Scalar g rel q b sr so) 4 ∧ sca (.stB64Scalar g rel q b sr so) 8) ∧
  (∀ (n : Nat) (l : List (Target × Nat)), n ∈ [1, 2, 4, 8, 16] →
    l.Pairwise (fun y z => overlaps z.1 n y.1 0 n = false) →
    let es := if n = 16 then 4 else n
    lkElems n l = l.flatMap (fun y => (List.range (n / es)).map (fun i => toDW (y.2 / 2 ^ (8 * es * i) % 2 ^ (8 * es)))))

/-- R165, R175, R333 to R336, R350, R351, R399, R400, R444, R460, R471: an atomic whose lanes all pass their checks and find
no poison (on a control core: its one access) completes: the lanes are performed one at a time, in some order, each reading
its old value from the bytes that the ones before it left and writing its new value, or none; a lane's result registers take
its old value (none for RED), and nothing else changes. The order is the model's free choice (notes/assumptions/10.md). -/
def Obligations.AtomicResults : Prop :=
  ∀ (s : State) (x : Agent) (sd : Side) (c : Cursor) (g : Pred) (q : Scope) (b : SPair) (d : VReg) (o : VOff)
    (ts : List (Nat × DW × Target)),
    Issues s x sd c → MemoryWf s →
    let m := activeMask x sd g
    let runs (i : Instr) (n : Nat) (f : Nat → Nat → Option Nat) (mask : W) (vs ss : List Nat)
        (got : Agent → Nat → Nat → Prop) : Prop :=
      (∀ y ∈ ts, y.2.2.place.1 ≠ 2) → Clean s x n ts →
      (∀ y ∈ ts, ∀ pa e, y.2.2 = .ctl pa 1 → ownCopy s x (pa / 128) = some e → e.dirty = 0) →
      ∃ t a order, exec i s = .next t ∧ t.agent? x.id = some a ∧ Advanced s t x c sd mask vs ss ∧ order.Perm ts ∧
        let r := atomsRun n f order [] (bytesOf s)
        (∀ z ∈ r.1, got a z.1 z.2) ∧ (∀ mem p, mem ≠ 2 → bytesOf t mem p = r.2 mem p) ∧
        ∀ p, Memory.read t.host p = Memory.read s.host p
    let go (i : Instr) (n regs : Nat) (ret : Bool) (f : Nat → (Nat → W) → Option Nat) : Prop :=
      let fits : Prop := d.toNat + regs ≤ 128 ∧ Fits x ((List.range regs).map (d.toNat + ·) ++ VOff.regs o)
      let outs : List Nat := if ret then (List.range (n / 4)).map (d.toNat + ·) else []
      (fits → m = 0 → exec i s = .next (s.retire c)) ∧
      (fits → m ≠ 0 → Lands s x Kind.atomic n (lanesOf m) (laneAddr x b o) ts →
        runs i n (fun l old => f old (fun k => x.vreg (d.toNat + k) l)) m outs []
          (fun a l old => ret = true → ∀ k, k < n / 4 → a.vreg (d.toNat + k) l = wordAt old k)) ∧
      (x.isCc = true → m ≠ 0 → d.toNat + regs ≤ 64 → ∀ so, VOff.toScalar o = some so →
        Lands s x Kind.atomic n [0] (fun _ => scalarAddr x b so) ts →
        runs i n (fun _ old => f old (fun k => x.sreg (d.toNat + k))) 0 [] outs
          (fun a _ old => ret = true → ∀ k, k < n / 4 → a.sreg (d.toNat + k) = wordAt old k))
    let two (i j : Instr) (f : W → W → W) : Prop :=
      let h (old : Nat) (v : Nat → W) : Option Nat := some (f (BitVec.ofNat 32 old) (v 0)).toNat
      go i 4 1 true h ∧ go j 4 1 false h
    let pair (v : Nat → W) (k : Nat) : Nat := (v k).toNat + 2 ^ 32 * (v (k + 1)).toNat
    let fp (w : W) : FVal := Fmt.value .fp32 w.toNat
    let ext (max : Bool) (p r : W) : W := (minmaxRes .fp32 max (fp p) (fp r) (p.setWidth 64) (r.setWidth 64)).w
    let bump (old new_ : Nat) : Nat := (old / 2 ^ 48 + 1) % 2 ^ 16 * 2 ^ 48 + new_ % 2 ^ 48
    (two (.atomAdd g q b d o) (.redAdd g q b d o) (fun p r => p + r) ∧
      two (.atomAnd g q b d o) (.redAnd g q b d o) (fun p r => p &&& r) ∧
      two (.atomOr g q b d o) (.redOr g q b d o) (fun p r => p ||| r) ∧
      two (.atomXor g q b d o) (.redXor g q b d o) (fun p r => p ^^^ r) ∧
      two (.atomMinI g q b d o) (.redMinI g q b d o) (fun p r => if p.toInt < r.toInt then p else r) ∧
      two (.atomMinN g q b d o) (.redMinN g q b d o) (fun p r => if p.toNat < r.toNat then p else r) ∧
      two (.atomMaxI g q b d o) (.redMaxI g q b d o) (fun p r => if r.toInt < p.toInt then p else r) ∧
      two (.atomMaxN g q b d o) (.redMaxN g q b d o) (fun p r => if r.toNat < p.toNat then p else r) ∧
      two (.atomExch g q b d o) (.redExch g q b d o) (fun _ r => r) ∧
      two (.atomFadd g q b d o) (.redFadd g q b d o) (fun p r => (addRes .fp32 .rne false (fp p) (fp r)).w) ∧
      two (.atomFmax g q b d o) (.redFmax g q b d o) (ext true) ∧
      two (.atomFmin g q b d o) (.redFmin g q b d o) (ext false)) ∧
    go (.cas g q b d o) 4 2 true (fun old v => if old = (v 0).toNat then some (v 1).toNat else none) ∧
    go (.casD g q b d o) 8 4 true (fun old v => if old = pair v 0 then some (pair v 2) else none) ∧
    go (.gtswap g q b d o) 4 2 true (fun old v => if old < (v 1).toNat then some (v 1).toNat else none) ∧
    go (.gtswapD g q b d o) 8 4 true (fun old v => if old < pair v 2 then some (pair v 2) else none) ∧
    go (.vswap g q b d o) 8 4 true
      (fun old v => if old / 2 ^ 48 = pair v 0 / 2 ^ 48 then some (bump old (pair v 2)) else none) ∧
    go (.tagswap g q b d o) 8 4 true (fun old v => if old = pair v 0 then some (bump old (pair v 2)) else none)

/-- R132, R134 to R137, R260, R264, R266, R267, R281, R316 step 5: the checks of an access in order: its alignment, the
must-be-zero bits and the reach of its class; a scratchpad access stays inside the allocation of its own crew, or of a crew of
its gang that has not ended. CFLUSH, CINV and PFETCH do not reach the cluster-local class, and no atomic the system class. A
word some of whose lanes fail has no effect but the trap of the lowest failing lane (and what its walk sends to other packages,
`walkSent`), which names every lane that fails with that cause (LD.B32, for which with ERRTRAP a poisoned lane is a failing one,
and ST.B32); one that finds an INVALID entry, and no failing lane, raises a fault request for the page and waits. That the one
access of PFETCH, CFLUSH and CINV counts for the lowest active lane is the model's choice (notes/assumptions/47.md). -/
def Obligations.AccessChecks : Prop :=
  (∀ (s : State) (w : Who) (k : Kind) (va : DW) (n : Nat),
      let v := va.toNat
      let off := v % 2 ^ 19
      let r := s.checkAddr w k va n
      (v % n ≠ 0 → r = .bad Cause.misaligned 0) ∧
      (v % n = 0 → v / 2 ^ 62 = 0 → v / 2 ^ 48 ≠ 0 → r = .bad Cause.access 0) ∧
      (v % n = 0 → v / 2 ^ 62 = 1 → v / 2 ^ 56 % 2 ^ 6 ≠ 0 → r = .bad Cause.access 0) ∧
      (v % n = 0 → v / 2 ^ 62 = 3 → w.supervisor = false → r = .bad Cause.privileged 0) ∧
      (v % n = 0 → v / 2 ^ 62 = 3 → w.supervisor = true → v % 2 ^ 62 / 2 ^ 26 ≠ 0 → r = .bad Cause.access 0) ∧
      (v % n = 0 → v / 2 ^ 62 = 3 → w.supervisor = true → v % 2 ^ 62 / 2 ^ 26 = 0 → r = .ok (.mmio (v % 2 ^ 26))) ∧
      (v % n = 0 → v / 2 ^ 62 = 2 → w.cc = true → r = .bad Cause.access 0) ∧
      (∀ c, v % n = 0 → v / 2 ^ 61 = 4 → w.cc = false → s.crew? w.crew = some c →
        r = if v % 2 ^ 61 / 2 ^ 19 = 0 ∧ off + n ≤ c.size then .ok (.pad c.id off false) else .bad Cause.access 0) ∧
      (∀ c, v % n = 0 → v / 2 ^ 61 = 5 → w.cc = false →
        s.crews.find? (fun e => e.gang == w.gang && e.idx == v / 2 ^ 58 % 8 && e.pkg == w.pkg) = some c →
        r = if v / 2 ^ 19 % 2 ^ 39 = 0 ∧ off + n ≤ c.size ∧ (w.core = none ∨ c.allEnded = false) then .ok (.pad c.id off true)
          else .bad Cause.access 0) ∧
      (v % n = 0 → v / 2 ^ 61 = 5 → w.cc = false →
        s.crews.find? (fun e => e.gang == w.gang && e.idx == v / 2 ^ 58 % 8 && e.pkg == w.pkg) = none →
        r = .bad Cause.access 0)) ∧
  (∀ (s : State) (x : Agent) (sd : Side) (c : Cursor) (g : Pred) (b : SPair) (so : SOff) (l1 : Bool),
      Issues s x sd c → activeMask x sd g ≠ 0 →
      let va := scalarAddr x b so
      let l := lowLane (activeMask x sd g)
      let goes (i : Instr) (sub : Nat) : Prop :=
        (va.toNat / 2 ^ 62 = 2 → exec i s = .next (s.trap x sd c (memTrap c sub Cause.access l (laneBit l) va 0))) ∧
        (va.toNat / 2 ^ 62 = 3 → x.isCc = false → exec i s = .next (s.trap x sd c (Trap.plain Cause.privileged c.raw)))
      goes (.pfetch g l1 b so) 0 ∧ goes (.cflush g b so) 1 ∧ goes (.cinv g b so) 0) ∧
  (∀ (s : State) (x : Agent) (sd : Side) (c : Cursor) (kc : Cc) (g : Pred) (q : Scope) (b : SPair) (d : VReg) (o : VOff)
      (so : SOff),
      Issues s x sd c → x.cc = some kc → kc.supervisor = true → activeMask x sd g ≠ 0 → VOff.toScalar o = some so →
      let va := scalarAddr x b so
      let goes (i : Instr) (n regs : Nat) : Prop :=
        d.toNat + regs ≤ 64 → va.toNat % n = 0 → va.toNat / 2 ^ 62 = 3 → va.toNat % 2 ^ 62 / 2 ^ 26 = 0 →
        exec i s = .next (s.trap x sd c (memTrap c 2 Cause.access 0 (laneBit 0) va 0))
      goes (.atomAdd g q b d o) 4 1 ∧ goes (.redAdd g q b d o) 4 1 ∧ goes (.cas g q b d o) 4 2 ∧
      goes (.casD g q b d o) 8 4 ∧ goes (.gtswap g q b d o) 4 2 ∧ goes (.gtswapD g q b d o) 8 4 ∧
      goes (.vswap g q b d o) 8 4 ∧ goes (.tagswap g q b d o) 8 4) ∧
  (∀ (s : State) (x : Agent) (sd : Side) (c : Cursor) (g : Pred) (acq rel : Bool) (b : SPair) (d : VReg) (o : VOff)
      (l cause : Nat) (dt : DW),
      Issues s x sd c → Fits x (d.toNat :: VOff.regs o) → sd.stall = none →
      let m := activeMask x sd g
      let va (j : Nat) : DW := laneAddr x b o j
      let fails (k : Kind) (j e : Nat) (f : DW) : Prop :=
        let r := s.checkAddr (s.who x) k (va j) 4
        r = .bad e f ∨ (k = Kind.load ∧ x.errtrap = true ∧ e = Cause.poison ∧ f = 0 ∧
          ∃ tg, r = .ok tg ∧ s.readPoisoned (s.who x) tg 4 = true)
      let go (i : Instr) (k : Kind) (sub : Nat) : Prop :=
        l < 32 → m.getLsbD l = true → fails k l cause dt → cause ≠ Cause.privileged →
        (∀ j, j < l → m.getLsbD j = true → ∀ e f, ¬fails k j e f) →
        let walked := if cause = Cause.misaligned then s else s.walkSent (s.who x) (va l)
        ∃ lanes : W, exec i s = .next (walked.trap x sd c
            { cause := cause, data := 0,
              frec := some { sub := sub, lane := l, lanes := lanes, done := 0, addr := va l, detail := dt } }) ∧
          ∀ j, j < 32 → (lanes.getLsbD j = true ↔ m.getLsbD j = true ∧ ∃ f, fails k j cause f)
      go (.ldB32 g acq .plain b d o) Kind.load 0 ∧ go (.stB32 g rel .plain b d o) Kind.store 1) ∧
  (∀ (s : State) (x : Agent) (sd : Side) (c : Cursor) (g : Pred) (acq : Bool) (b : SPair) (d : VReg) (o : VOff)
      (l lv : Nat) (p : Pkg),
      Issues s x sd c → Fits x (d.toNat :: VOff.regs o) → sd.stall = none → s.pkg? x.pkg = some p →
      let m := activeMask x sd g
      let w := s.who x
      let va (j : Nat) : DW := laneAddr x b o j
      let chk (j : Nat) : Checked := s.checkAddr w Kind.load (va j) 4
      (x.errtrap = true → ∀ j tg, m.getLsbD j = true → chk j = .ok tg → s.readPoisoned w tg 4 = false) →
      l < 32 → m.getLsbD l = true → chk l = .service lv → (∀ j e f, m.getLsbD j = true → chk j ≠ .bad e f) →
      (∀ j, j < l → m.getLsbD j = true → ∃ t, chk j = .ok t) →
      p.faultFor w.asid (va l) false = none → (p.faults.filter (fun f => !f.failed)).length < 4096 →
      ∃ t q, exec (.ldB32 g acq .plain b d o) s = .next t ∧ t.pkg? x.pkg = some q ∧
        q.faults = p.faults ++ [FaultReq.mk s.nextId x.pkg w.asid (va l) 0 lv p.mp.pfs false] ∧
        t.agent? x.id = some (x.setSide c.slot (some { sd with stall := some (.service s.nextId) })))

/-- R140, R143, R166, R185, R186: what an agent writes at a target it reads back there: through its L1 copy, at the home,
or in a scratchpad; bytes at which the model has entries of a divergence stack stand, which no program may access (R71,
notes/assumptions/12.md), are set aside. -/
def Obligations.OwnReadAfterWrite : Prop :=
  ∀ (s : State) (w : Who) (t : Target) (bs : List Byte) (keep keep2 : Bool) (p : Pkg),
    MemoryWf s → s.pkg? w.pkg = some p → (∀ x ∈ p.l1, x.bytes.length = 128) → t.place.1 ≠ 2 →
    bs.length ∈ [1, 2, 4, 8, 16] → t.place.2 % bs.length = 0 → s.targetPoisoned t bs.length = false →
    s.readPoisoned w t bs.length = false →
    (∀ k off e, t = .pad k off e → (s.crew? k).isSome) → OffStacks s t bs.length →
    ((s.writeT w t bs keep).readT w t bs.length keep2).1 = bs

/-- Memory: bytes written are read back, one or a run of them, every other byte stays, the canonical form is kept, and two
canonical memories that read alike are equal (the form is the model's choice, notes/assumptions/1.md). -/
def Obligations.MemoryLaws : Prop :=
  ∀ (m n : Mem) (a b : Nat) (x : Byte) (bs : List Byte), Memory.wf m = true →
    Memory.read (Memory.write m a x) b = (if b = a then x else Memory.read m b) ∧
    Memory.readN (Memory.writeN m a bs) a bs.length = bs ∧
    (b < a ∨ a + bs.length ≤ b → Memory.read (Memory.writeN m a bs) b = Memory.read m b) ∧
    Memory.wf (Memory.write m a x) = true ∧ Memory.wf (Memory.writeN m a bs) = true ∧
    (Memory.wf n = true → (∀ k, Memory.read m k = Memory.read n k) → m = n)

/-! ### Class MEM: order and cache words -/

/-- R130, R146, R169 to R171, R176 to R178, R186, R187, R257, R352, R353, R358 to R360, R391 to R393, R436, R437: FENCE
completes at once and CLASP when nothing of its set is open, and what they acquire: no L1 copy of a tensor line is left on the
core (at cluster scope or wider), and the group no longer uses the record copies of its core; an open set makes the side wait.
PFETCH changes nothing; CFLUSH sends the dirty bytes of the core's copy of a SOFT line home and leaves the copy clean, CINV
leaves no copy, nor one of the package's own tensor line, and no other byte changes; where the dirty line is of a page that a
SNAP copy protects, both wait for it (R162). FEMARK sets or clears the beads of its range and changes no byte. That FENCE has
nothing to wait for rests on the model's choice (notes/assumptions/9.md); a CLASP that completes gives the group the
accumulators of the MMAs it waited for (13.md). -/
def Obligations.OrderResults : Prop :=
  (∀ (s : State) (x : Agent) (sd : Side) (c : Cursor) (g : Pred) (q : Scope) (k : FenceKind) (crew : Bool),
      Issues s x sd c →
      let m := activeMask x sd g
      let w : List Nat × List Nat := match sd.began with
        | some (.clasp l all) => (l, all)
        | _ => (s.claspSet x crew, s.claspPast x crew)
      let done (i : Instr) (vs : List Nat) (acq tensor : Prop) : Prop :=
        ∃ t, exec i s = .next t ∧ Advanced s t x c sd (BitVec.allOnes 32) vs [] ∧ SameBytes s t ∧
          ∀ p, t.pkg? x.pkg = some p → acq →
            (∀ r ∈ p.lk, r.core = x.core → x.id ∈ r.stale) ∧
            (tensor → ∀ l ∈ p.l1, l.core = cacheCore x → l.space ≠ .ten)
      (m = 0 → exec (.fence g q k) s = .next (s.retire c)) ∧
      (m ≠ 0 → done (.fence g q k) [] (k ≠ .rel) (x.isCc = true ∨ 2 ≤ q.code)) ∧
      (x.isCc = true → crew = true → exec (.clasp g q crew) s = .next (s.trap x sd c (Trap.plain Cause.illegalInstr c.raw))) ∧
      ((x.isCc && crew) = false → m = 0 → exec (.clasp g q crew) s = .next (s.retire c)) ∧
      ((x.isCc && crew) = false → m ≠ 0 → w.1.filter (s.claspOpen x) = [] →
        done (.clasp g q crew) (accRegs s x) True True) ∧
      ((x.isCc && crew) = false → m ≠ 0 → w.1.filter (s.claspOpen x) ≠ [] →
        exec (.clasp g q crew) s = .next (s.stall c (.clasp (w.1.filter (s.claspOpen x)) w.2)))) ∧
  (∀ (s : State) (x : Agent) (sd : Side) (c : Cursor) (g : Pred) (b : SPair) (o : SOff) (l1 f : Bool) (r : SReg)
      (k off : Nat) (gg : Bool) (tg : Target),
      Issues s x sd c → MemoryWf s → activeMask x sd g ≠ 0 →
      let va := scalarAddr x b o
      let n := (x.sreg r.toNat).toNat
      (va.toNat / 2 ^ 62 < 2 → exec (.pfetch g l1 b o) s = .next (s.retire c)) ∧
      (va.toNat / 2 ^ 62 < 2 → tg.place.1 < 2 →
        let soft : Prop := ∃ pa, tg = .ctl pa 1
        let copy (u : State) (sp : Space) (e : L1Line) : Prop :=
          (u.pkg? x.pkg).bind (fun p => p.l1Find (cacheCore x) sp (tg.place.2 / 128)) = some e
        let dirty : Prop := soft ∧ ∃ e, copy s .ctl e ∧ e.dirty ≠ 0
        let home (a : Nat) : Byte :=
          match (s.pkg? x.pkg).bind (fun p => p.l1Find (cacheCore x) .ctl (tg.place.2 / 128)) with
          | some e => if a / 128 = tg.place.2 / 128 ∧ e.dirty.getLsbD (a % 128) = true then e.bytes.getD (a % 128) 0 else Memory.read s.ctl a
          | none => Memory.read s.ctl a
        let word (i : Instr) (sub : Nat) (left : State → Prop) : Prop :=
          s.checkAddr (s.who x) (flushKind sub) va 1 = .ok tg →
          ((dirty → s.snapOf .ctl tg.place.2 = none) → ∃ t, exec i s = .next t ∧ Advanced s t x c sd 0 [] [] ∧ left t ∧
            (¬soft → SameBytes s t) ∧ (soft → (∀ a, Memory.read t.ctl a = home a) ∧
              (∀ a, Memory.read t.ten a = Memory.read s.ten a) ∧ ∀ a, Memory.read t.host a = Memory.read s.host a)) ∧
          (∀ j, dirty → s.snapOf .ctl tg.place.2 = some j →
            ∃ u : State, u.agents = s.agents ∧ SameBytes s u ∧ exec i s = .next (u.stall c (.snap j)))
        word (.cflush g b o) 1 (fun t => soft → ∀ e, copy t .ctl e → e.dirty = 0) ∧
        word (.cinv g b o) 0 (fun t =>
          (soft → ¬∃ e, copy t .ctl e) ∧ ∀ pa, tg = .ten pa → ¬∃ e, copy t .ten e)) ∧
      (x.isCc = false → n ≠ 0 → n ≤ 458752 → va.toNat % 16 = 0 → n % 16 = 0 → va.toNat / 2 ^ 62 = 2 →
        s.padTarget (s.who x) va n = some (.pad k off gg) →
        ∃ t, exec (.femark g f b r o) s = .next t ∧ Advanced s t x c sd 0 [] [] ∧ SameBytes s t ∧
          ∀ u v, s.crew? k = some u → t.crew? k = some v → ∀ bd,
            (bd ∈ v.full ↔ if off / 16 ≤ bd ∧ bd ≤ (off + n - 1) / 16 then f = true else bd ∈ u.full)))

/-- R188 to R190, R269, R270, R362, R461, R462: in supervisor state COHSET starts the transition of the page that its address
maps, on which its side waits, waits its turn behind a transition of the same page, or has nothing to do; TLBINV drops the
cached translations and the walk-cache entries of its address space and range from every package, and goes on where no engine
command of that space runs; that all stores of the space in SOFT copies go home first, or wait for a SNAP copy, is the model's
choice (notes/assumptions/74.md). -/
def Obligations.TranslationResults : Prop :=
  ∀ (s : State) (x : Agent) (sd : Side) (c : Cursor) (kc : Cc) (p : Pkg) (g : Pred) (b : SPair) (r d : SReg) (o : SOff)
    (u : PgSize) (e : DW) (size : PgSize) (leafAt : Nat),
    Issues s x sd c → x.cc = some kc → kc.supervisor = true → activeMask x sd g ≠ 0 → s.pkg? x.pkg = some p →
    let va := scalarAddr x b o
    let v := x.sreg r.toNat
    let new_ := v.toNat % 4
    (cohOk p kc.asid.toNat v = true → va.toNat / 2 ^ 48 = 0 →
      s.walkFrom .ctl va.toNat ctlLevels kc.croot.toNat = .leaf e size leafAt → leafSt e = 1 →
      s.ctlPaOk (leafPa e) = true → (∀ z ∈ s.cohTrs, z.id ≠ s.nextId) →
      let asks (queued : Bool) : Prop :=
        ∃ t tr, exec (.cohset g b r o) s = .next t ∧ t.cohTrs = s.cohTrs ++ [tr] ∧ tr.id = s.nextId ∧
          tr.leafAt = leafAt ∧ tr.page = leafPa e ∧ tr.size = 2 ^ size.log2 ∧ tr.old = leafCoh e ∧ tr.new = new_ ∧
          tr.agent = x.id ∧ tr.slot = c.slot ∧ tr.queued = queued ∧ SameBytes s t ∧
          t.agent? x.id = some (x.setSide c.slot (some { sd with stall := some (.coh s.nextId) }))
      (s.transitionOf (leafPa e) = none → new_ = leafCoh e → (new_ ≠ 0 ∨ (s.ownerOf (leafPa e)).isSome) →
        exec (.cohset g b r o) s =
          .next ((s.readTables x.pkg (s.walkAts va.toNat ctlLevels kc.croot.toNat)).retire c)) ∧
      (s.transitionOf (leafPa e) = none → new_ ≠ leafCoh e → asks false) ∧
      ((s.transitionOf (leafPa e)).isSome → asks true)) ∧
    (let w := x.sreg d.toNat
     let at_ := (x.sreg r.toNat).toNat + 2 ^ 32 * (x.sreg (r.toNat + 1)).toNat
     let base := at_ / 2 ^ u.log2 * 2 ^ u.log2
     let asid := w.toNat % 256
     let n := w.toNat / 256
     at_ / 2 ^ 62 < 2 → asid ≤ 0x80 → (∀ k ∈ s.cmds, k.vf = asid → k.phase ≠ .running) →
      let home := s.cleanWhere (fun _ l => l.vf == asid || decide (256 ≤ l.core))
      (∀ st, home.1 = some st → exec (.tlbinv g u d r) s = .next (s.stall c st)) ∧
      (home.1 = none →
      ∃ t, exec (.tlbinv g u d r) s = .next t ∧ Advanced s t x c sd 0 [] [] ∧ SameBytes home.2 t ∧
        ∀ y ∈ t.pkgs,
          (∀ z ∈ y.tlb, z.asid = asid → n ≠ 0 ∧
            (z.va.toNat + 2 ^ z.size.log2 ≤ base ∨ base + n * 2 ^ u.log2 ≤ z.va.toNat)) ∧
          ∀ z ∈ y.walks, z.asid = asid → n ≠ 0 ∧ z.overlaps (BitVec.ofNat 64 base) (n * 2 ^ u.log2) = false))

/-! ### Locket words -/

/-- R247, R248, R253, R257, R415 to R417: LKREAD loads the record that its index names, 32 bits a lane, from the home;
LKBIND and LKRST change it there and drop the core's copy; an index at or beyond NREC takes ACCESS, whose record names the
lowest active lane: that a scalar form's one access counts for that lane is the model's choice (notes/assumptions/47.md). LKBIND
of a SCALE 0xFF, a POL format outside the codes of QF or a set bit 31:24 raises ILLEGAL_INSTR and changes nothing: that the index
is checked before is the model's choice too (notes/assumptions/100.md). -/
def Obligations.LocketResults : Prop :=
  ∀ (s : State) (x : Agent) (sd : Side) (c : Cursor) (g : Pred) (d : VReg) (a e : SReg),
    Issues s x sd c → Fits x [d.toNat] → activeMask x sd g ≠ 0 →
    let m := activeMask x sd g
    let i := (x.sreg a.toNat).toNat
    let home := (s.vf x.pkg x.vf).lkBase.toNat + 64 * i
    let v := x.sreg e.toNat
    let r := LkRec.ofBytes (s.homeRead .ten home 64)
    let zero : LkRec := { r with amax := 0, count := 0, flags := 0, hist := List.replicate 24 0, gen := r.gen + 1 }
    let put (q : LkRec) : State := s.homeWrite .ten home q.toBytes
    let fails (j : Instr) (sub : Nat) (lanes : W) : Prop := exec j s = .next (s.trap x sd c
      { cause := Cause.access, data := 0, frec := some { sub := sub, lane := lowLane m, lanes := lanes, done := 0, addr := 0,
                                                         detail := toDW (2 ^ 32 + i) } })
    (2 ^ 20 ≤ i → exec (.lkread g d a) s = .next (s.trap x sd c (Trap.plain Cause.illegalInstr c.raw)) ∧
      exec (.lkrst g a) s = .next (s.trap x sd c (Trap.plain Cause.illegalInstr c.raw)) ∧
      exec (.lkbind g e a) s = .next (s.trap x sd c (Trap.plain Cause.illegalInstr c.raw))) ∧
    (i < 2 ^ 20 → (s.vf x.pkg x.vf).lkSize.toNat ≤ i →
      fails (.lkread g d a) 0 m ∧ fails (.lkrst g a) 2 (laneBit (lowLane m)) ∧
      fails (.lkbind g e a) 2 (laneBit (lowLane m))) ∧
    (i < 2 ^ 20 → i < (s.vf x.pkg x.vf).lkSize.toNat →
      (s.isPoisoned .ten home 64 = false → exec (.lkread g d a) s = wroteV s x sd c g d.toNat (fun l =>
        if l < 16 then BitVec.ofNat 32 (leNat (((s.homeRead .ten home 64).drop (4 * l)).take 4)) else 0)) ∧
      exec (.lkrst g a) s = .next (((put zero).lkDrop x i).retire c) ∧
      (v.toNat % 256 ≠ 255 → v.toNat / 2 ^ 24 = 0 → v.toNat / 2 ^ 8 % 16 ∈ [0, 1, 2, 3, 4, 5, 0xB, 0xC] →
        exec (.lkbind g e a) s = .next (((put { zero with
          scale := BitVec.ofNat 8 v.toNat
          pol := BitVec.ofNat 8 (v.toNat / 2 ^ 8)
          margin := BitVec.ofNat 8 (v.toNat / 2 ^ 16) }).lkDrop x i).retire c)) ∧
      (v.toNat % 256 = 255 ∨ v.toNat / 2 ^ 24 ≠ 0 ∨ v.toNat / 2 ^ 8 % 16 ∉ [0, 1, 2, 3, 4, 5, 0xB, 0xC] →
        exec (.lkbind g e a) s = .next (s.trap x sd c (Trap.plain Cause.illegalInstr c.raw))))

/-- R248, R250: the 64 bytes of a record hold it, the 24 histogram bins included. A merge counts every element up to the
saturation of COUNT, notes a NaN in FLAGS, never lowers AMAX, and leaves the scale, the policy, the margin and the generation;
finite elements count in one bin each, up to the saturation of the bin, so that where no bin saturates their sum rises by the
number of finite elements. -/
def Obligations.LocketRules : Prop :=
  (∀ (r : LkRec), r.hist.length = 24 → (∀ h ∈ r.hist, h < 65536) →
      LkRec.ofBytes r.toBytes = r ∧ r.toBytes.length = 64) ∧
  (∀ (r : LkRec) (f : Fmt) (vals : List DW),
      r.hist.length = 24 → (∀ h ∈ r.hist, h ≤ 65535) →
      let q := r.merge f vals
      q.count.toNat = min (r.count.toNat + vals.length) 0xFFFFFFFF ∧ r.amax.toNat ≤ q.amax.toNat ∧
      q.scale = r.scale ∧ q.pol = r.pol ∧ q.margin = r.margin ∧ q.gen = r.gen ∧
      q.flags.getLsbD 0 = (r.flags.getLsbD 0 || vals.any (fun v => (Fmt.value f v.toNat).isNan)) ∧
      q.hist.length = 24 ∧ (∀ h ∈ q.hist, h ≤ 65535) ∧
      let finite (v : DW) : Bool := !(Fmt.value f v.toNat).isNan && !(Fmt.value f v.toNat).isInf
      (∀ k, k < 24 → q.hist.getD k 0 =
        min 65535 (r.hist.getD k 0 + vals.countP (fun v => finite v && lkBin r.scale (Fmt.value f v.toNat) == k))) ∧
      ((∀ h ∈ q.hist, h < 65535) → q.hist.foldl (· + ·) 0 = r.hist.foldl (· + ·) 0 + vals.countP finite))

/-! ### Handles -/

/-- R84, R86 to R88, R123, R180, R223, R245, R401 to R407: HWAIT and HTEST read a handle's status, HWAIT waiting for a PENDING
one, and a status that is read is observed; HMOV copies a handle; HCANCEL acts on the operation that a PENDING handle is bound
to: where it is before its point of no return (R223, R245) it leaves its engine with what it holds, every handle bound to it
reads 0x1703, no byte is written and no record (one that an earlier ORD copy or a merge holds back leaves later, with that
status), a collective leaves with all its participants, and what is past that point goes on; HSAVE stores the token; HLOAD of
token 0 makes the handle IDLE, a token of the group's VF and package gives the handle that token's state, which is the one saved
where the instance is kept, and any other value raises HANDLE. A word that would overwrite a handle waits while it is PENDING;
an HWAIT of the sibling side that still waits on the handle then returns the state it had before, not the new one (`Side.tell`,
`Side.told`). Observing a resolution gives the group the accumulators of its MMA (the model's choice of the moment:
notes/assumptions/13.md). -/
def Obligations.HandleResults : Prop :=
  (∀ (s : State) (x : Agent) (sd : Side) (c : Cursor) (g : Pred) (h k : Hnd) (r : SReg) (b : SPair) (tg : Target)
      (bs : List Byte),
      Issues s x sd c → MemoryWf s → activeMask x sd g ≠ 0 →
      let v := x.handle h.toNat
      let told := sd.told h.toNat v
      let busy (n : Nat) : Prop := (x.handle n).isPending = true
      let va := x.spair b.toNat
      let l := lowLane (activeMask x sd g)
      let reads (i : Instr) (v : Handle) (ss : List Nat) : Prop :=
        ∃ t y, exec i s = .next t ∧ Advanced s t x c sd (BitVec.allOnes 32) (accRegs s x) ss ∧ SameBytes s t ∧
          t.agent? x.id = some y ∧ ∀ n ∈ ss, y.sreg n = match v with
            | .resolved _ w => w
            | _ => 0
      (sd.began = none → told = v) ∧
      (told.isPending = true → exec (.hwait g h (some r)) s = .next (s.stall c (.hwait h.toNat)) ∧
        exec (.hwait g h none) s = .next (s.stall c (.hwait h.toNat))) ∧
      (told.isPending = false → reads (.hwait g h (some r)) told [r.toNat] ∧ reads (.hwait g h none) told []) ∧
      reads (.htest g h r) v [r.toNat] ∧
      (busy k.toNat → exec (.hmov g k h) s = .next (s.stall c (.handle k.toNat))) ∧
      (¬busy k.toNat → k ≠ h → ∃ t y, exec (.hmov g k h) s = .next t ∧ t.agent? x.id = some y ∧
        y.handle k.toNat = v ∧ (∀ j, j < 16 → j ≠ k.toNat → y.handle j = x.handle j) ∧
        y.side (!c.slot) = (x.side (!c.slot)).map (Side.tell k.toNat (x.handle k.toNat))) ∧
      (¬busy h.toNat → exec (.hmov g h h) s = .next (s.retire c)) ∧
      (∀ i, v = .pending i false → exec (.hcancel g h) s = .next ((s.cancelInst i).retire c)) ∧
      ((∀ i, v ≠ .pending i false) → exec (.hcancel g h) s = .next (s.retire c)) ∧
      (Lands s x Kind.store 8 [l] (fun _ => va) [(l, va, tg)] → tg.place.1 ≠ 2 → (∀ pa, tg ≠ .ctl pa 1) →
        ∃ t, exec (.hsave g b h) s = .next t ∧ Advanced s t x c sd 0 [] [] ∧
          Stored s t (byteOf tg 8 (match v with
            | .idle => 0
            | .pending i _ => i % 2 ^ 32 + x.vf % 128 * 2 ^ 32 + x.pkg % 512 * 2 ^ 40 + 2 ^ 63
            | .resolved i _ => i % 2 ^ 32 + x.vf % 128 * 2 ^ 32 + x.pkg % 512 * 2 ^ 40 + 2 ^ 63))) ∧
      (busy h.toNat → exec (.hload g b h) s = .next (s.stall c (.handle h.toNat))) ∧
      (¬busy h.toNat → Lands s x Kind.load 8 [l] (fun _ => va) [(l, va, tg)] → Clean s x 8 [(l, va, tg)] →
        plainBytes s tg 8 = some bs →
        let tok : DW := BitVec.ofNat 64 (leNat bs)
        (tok = 0 ∨ tokenOk tok x.vf x.pkg = true →
          ∃ t y, exec (.hload g b h) s = .next t ∧ t.agent? x.id = some y ∧
            y.handle h.toNat = (if tok = 0 then .idle else s.tokenState x tok) ∧
            ∀ j, j < 16 → j ≠ h.toNat → y.handle j = x.handle j) ∧
        (tok ≠ 0 → tokenOk tok x.vf x.pkg = false → ∃ u : State, u.agents = s.agents ∧
          exec (.hload g b h) s = .next (u.trap x sd c (Trap.plain Cause.handle (h.setWidth 32)))))) ∧
  (∀ (s : State) (x : Agent) (e : Inst) (b : Bool),
      s.agent? x.id = some x → x.vf < 128 → x.pkg < 512 → e ∈ s.insts → e.agent = x.id →
      (∀ f ∈ s.insts, f.inst % 2 ^ 32 = e.inst % 2 ^ 32 → f = e) →
      let h : Handle := match e.status with
        | some st => .resolved e.inst st
        | none => .pending e.inst b
      tokenOk (h.token x.vf x.pkg) x.vf x.pkg = true ∧
      s.tokenState x (h.token x.vf x.pkg) = (match e.status with
        | some st => .resolved e.inst st
        | none => .pending e.inst true)) ∧
  (∀ (z : Side) (n : Nat) (v now : Handle), z.began = some (.hwait n) → (Side.tell n v z).told n now = v) ∧
  (∀ (s : State) (i : Nat), s.tlbInvs = [] →
      let t := s.cancelInst i
      let off (l : List Nat) : Prop := ∀ a h d b, s.agent? a.id = some a → d ∈ l → a.handle h = .pending d b →
        ∃ y, t.agent? a.id = some y ∧ y.handle h = .resolved d 0x1703
      let gone (l : List Cmd) : Prop := t.cmds = s.cmds.filter (fun d => !(l.any (fun e => e.inst == d.inst))) ∧
        off (l.map Cmd.inst) ∧ SameBytes s t ∧ ((∀ d ∈ l, d.resumes = false) → ∀ p v, t.vf p v = s.vf p v)
      (s.cmd? i = none → s.mma? i = none → off [i] ∧ SameBytes s t ∧ t.cmds = s.cmds ∧ t.mmas = s.mmas) ∧
      (∀ m, s.cmd? i = none → s.mma? i = some m →
        (m.done ≠ 0 ∨ m.busy ≠ none → t = s) ∧
        (m.done = 0 → m.busy = none → off [m.inst] ∧ SameBytes s t ∧ t.cmds = s.cmds ∧
          t.mmas.map MmaReq.inst = (s.mmas.map MmaReq.inst).filter (fun n => n != m.inst))) ∧
      (∀ c, s.cmd? i = some c → c.kind = .tsend →
        (c.phase ≠ .armed → t = s) ∧
        (c.phase = .armed → c.open_ = [] → (∀ e ∈ s.merges, e.inst ≠ c.inst) → gone [c])) ∧
      (∀ c, s.cmd? i = some c → c.kind ≠ .coll → c.kind ≠ .tsend →
        let l := s.setOf c.set
        let total := (l.map Cmd.bytesTotal).foldl (· + ·) 0
        let left := total - (l.map Cmd.bytesDone).foldl (· + ·) 0
        let late : Prop := left < min 4096 total ∨ ∃ d ∈ l, d.final ≠ none
        let held : Prop := (∃ d ∈ l, s.ordHeld d = true) ∨ ∃ e ∈ s.merges, ∃ d ∈ l, e.inst = d.inst
        let lead : Prop := s.vfStarts c.pkg c.vf = false ∧ ∀ d ∈ l, d.started = false
        (late → t = s) ∧
        (¬late → lead ∨ ¬held → gone l) ∧
        (¬late → ¬lead → held → SameBytes s t ∧ t.agents = s.agents ∧ t.cmds.map (fun d => { d with open_ := [] }) =
          s.cmds.map (fun d => { (if l.any (fun e => e.inst == d.inst) then
            { d with phase := .ended, wait := none, fault := none, final := some 0x1703 } else d) with open_ := [] }))) ∧
      (∀ c, s.cmd? i = some c → c.kind = .coll →
        (c.started = true → ¬((c.phase = .running ∨ c.phase = .queued) ∧ c.bytesDone = 0) → t = s) ∧
        (c.started = true → c.phase = .running ∨ c.phase = .queued → c.bytesDone = 0 →
          off (((s.setOf c.set).filter (fun d => d.phase != .dead && d.phase != .reporting)).map Cmd.inst)) ∧
        (c.started = false → c.phase ≠ .queued → c.phase ≠ .joining → t = s) ∧
        (c.started = false → c.phase = .queued ∨ c.phase = .joining → (∀ d ∈ s.cmds, d.staddr = none ∧ d.phase ≠ .reporting) →
          let l := c :: (s.collPeers c).filter (fun d => !d.started && (d.phase == .queued || d.phase == .joining))
          off (l.map Cmd.inst) ∧ ∀ d ∈ t.cmds, (∃ e ∈ l, e.inst = d.inst) → d.phase = .dead)))

/-! ### Engine words, counters and channels -/

/-- R84, R88, R118, R179, R181, R196 to R198, R202, R205, R216, R222, R364, R366, R404, R407: an engine word binds its handle to
a new instance, PENDING, and only then releases its group's stores and reads its block; it waits, with its handle PENDING, for a
held release or a full queue, and goes on with the same instance and address. A block that fails its checks resolves it with
ENGINE_DESC, after earlier ORD copies where it is one itself, and a poisoned one with POISON; a sound one goes to the engine: a
COPY of one slice is queued, a send to a lost package is refused, one whose trigger is met runs and one whose trigger is not
met, whose VF may not start commands now, or which stands behind a queued command or an engine word of its group, is armed; a
misaligned block address traps, its record naming the lowest active lane (the model's choice, notes/assumptions/47.md), and a
handle in use makes the side wait. An instance number is not 0 in its 32 bits and names no other instance whose status is kept
(numbers come from one counter: the model's choice, notes/assumptions/20.md). Where the block is read the core whose word issues
has nothing dirty in its L1 (what the release of R179 writes home is the model's choice, notes/assumptions/74.md). -/
def Obligations.EngineWordResults : Prop :=
  (∀ (s : State) (x : Agent) (sd : Side) (c : Cursor) (g : Pred) (b : SPair) (h : Hnd) (tg : Target),
      Issues s x sd c → activeMask x sd g ≠ 0 →
      let va := x.spair b.toNat
      let l := lowLane (activeMask x sd g)
      let busy := (x.handle h.toNat).isPending
      let go (i : Instr) (k : CmdKind) (join : State → Cmd → State) : Prop :=
        let reads (w : State) (n : Nat) (va : DW) : Prop :=
          let eng := engineOf x k
          let blk := w.homeGet tg 128
          let u := w.blockSent (w.who x) va blk
          let cmd := u.newCmd x h.toNat n k va blk
          let ok := u.blkOk (u.whoCmd cmd) k blk
          let set := if k = .copy then some (h.toNat, blkNslice blk) else none
          (∀ st, (w.release x.pkg (cacheCore x)).1 = some st → exec i s = .next (w.stall c st)) ∧
          ((∀ p ∈ w.pkgs, p.num = x.pkg → ∀ z ∈ p.l1, z.core = cacheCore x → z.dirty = 0) →
           w.checkAddr (w.who x) Kind.load va 128 = .ok tg →
            (w.targetPoisoned tg 128 = true →
              exec i s = .next (((w.readBy (w.who x) Kind.load va 128).resolve n 0x1403).retire c)) ∧
            (w.targetPoisoned tg 128 = false → queueRoom eng ≤ w.queued x.pkg eng → w.mayJoin x set = false →
              exec i s = .next (w.stall c (.queue eng set))) ∧
            (w.targetPoisoned tg 128 = false → w.queued x.pkg eng < queueRoom eng →
              (ok = false → u.ordHeld cmd = false → exec i s = .next ((u.resolve n 0x1203).retire c)) ∧
              (ok = false → u.ordHeld cmd = true → exec i s = .next (({ u with cmds := u.cmds ++
                [{ cmd with phase := .ended, wait := none, fault := none, final := some 0x1203 }] }).retire c)) ∧
              (ok = true → exec i s = .next ((join u { cmd with resumes := isResume blk }).retire c))))
        let r := s.post x c h.toNat k va
        (s.postOf x sd h.toNat = none →
          (va.toNat % 128 ≠ 0 → exec i s = .next (s.trap x sd c (memTrap c 0 Cause.misaligned l (laneBit l) va 0))) ∧
          (va.toNat % 128 = 0 → busy = true → exec i s = .next (s.stall c (.handle h.toNat))) ∧
          (va.toNat % 128 = 0 → busy = false → reads r.2 r.1 va)) ∧
        (∀ n kind eng at_, sd.began = some (.posting h.toNat n kind eng at_) →
          ((x.handle h.toNat).boundTo n = true → reads s n at_) ∧
          ((x.handle h.toNat).boundTo n = false → exec i s = .next (s.retire c)))
      let adds (u : State) (k : Cmd) : State := { u with cmds := u.cmds ++ [k] }
      go (.copy g b h) .copy State.joinSet ∧ go (.gather g b h) .gather adds ∧ go (.scatter g b h) .scatter adds ∧
      go (.mgt g b h) .mgt adds ∧ go (.coll g b h) .coll State.collAccept ∧ go (.tsend g b h) .tsend State.armSend ∧
      ∀ k, ∃ y e, (s.post x c h.toNat k va).2.agent? x.id = some y ∧ y.handle h.toNat = .pending (s.bind x.id h.toNat).1 false ∧
        y.side c.slot = some e ∧ e.began = some (.posting h.toNat (s.bind x.id h.toNat).1 k (engineOf x k) va)) ∧
  (∀ (s : State) (x : Agent) (h : Nat) (c : Cmd),
      s.agent? x.id = some x → h < 16 →
      let r := s.bind x.id h
      (r.2.cmds = s.cmds ∧ r.1 < r.2.nextId ∧ s.nextId ≤ r.1 ∧
        (∃ y, r.2.agent? x.id = some y ∧ y = (x.tell h).setHandle h (.pending r.1 false) ∧ y.handle h = .pending r.1 false) ∧
        (s.insts.length + 2 ≤ 2 ^ 32 → r.1 % 2 ^ 32 ≠ 0 ∧
          ∀ e ∈ s.insts, ¬(e.agent = x.id ∧ e.hnum = h) → e.inst % 2 ^ 32 ≠ r.1 % 2 ^ 32)) ∧
      ((∀ d ∈ s.cmds, d.kind = .coll → d.inst ≠ c.inst → d.phase = .dead) →
        s.collAccept c = { s with cmds := s.cmds.filter (fun d => d.inst != c.inst) ++ [c] }) ∧
      (blkNslice c.blk = 1 → (∀ d ∈ s.cmds, d.phase ≠ .joining) → c.set = c.inst →
        (s.joinSet c).cmds = s.cmds.map (fun d => if d.set = c.inst then { d with phase := .queued } else d) ++
          [{ c with phase := .queued }]) ∧
      (s.armed c.pkg none < 1024 → s.armed c.pkg (some c.vf) < (s.vf c.pkg c.vf).armsh.toNat →
        let k := blkU c.blk 0x1C 2
        let met : Prop := k = 0xFFFF ∨ blkU c.blk 0x20 8 ≤ ((s.vf c.pkg c.vf).ctr k).toNat
        let d : Cmd := { c with eng := if k = 0xFFFF then c.eng else 64 + k / 2048, held := !s.vfStarts c.pkg c.vf }
        let behind : Prop := s.postsBefore d.agent d.eng d.inst = true ∨ ∃ e ∈ s.cmds,
          e.pkg = d.pkg ∧ e.eng = d.eng ∧ e.agent = d.agent ∧ e.inst < d.inst ∧ e.phase = .queued
        (s.dstLost d = true → s.armSend c = s.refuseSend d Cause.peerLost 0) ∧
        (s.dstLost d = false →
          (met → s.vfStarts c.pkg c.vf = true → s.vfRuns c.pkg c.vf = true → ¬behind →
            s.armSend c = { s with cmds := s.cmds ++ [s.started d] }) ∧
          (met → behind → s.armSend c = { s with cmds := s.cmds ++ [{ d with phase := .armed, due := true }] }) ∧
          (met → s.vfStarts c.pkg c.vf = false →
            s.armSend c = { s with cmds := s.cmds ++ [{ d with phase := .armed, due := true }] }) ∧
          (¬met → s.armSend c = { s with cmds := s.cmds ++ [{ d with phase := .armed, due := false }] }))))

/-- R91 to R95, R143, R220 to R222, R354 to R357, R367, R368: CTRSET, CTRADD and CTRRD: once what the core has stored in SOFT
lines is home (notes/assumptions/74.md), the counter takes the value, or the sum modulo 2^64, every other counter of the VF
stays, and every armed send whose trigger is now met fires, or is due once it may; CTRRD reads it into a scalar pair. CHSEND
copies the range of its scratchpad into the oldest free slot of the consumer with the most free slots, each bead as it stands or
as it stood when the send first issued, and waits where none is free or while an earlier send of its group to the channel waits;
a channel that is not there or not the stage's, and a length that does not fit it, raise CHANNEL, a misaligned source
MISALIGNED, and one that leaves the scratchpad ACCESS, whose records name the lowest active lane (the model's choice,
notes/assumptions/47.md). CHRECV takes the oldest complete message, holds its slot and names it, or waits, or reads the end of a
closed channel. -/
def Obligations.CounterAndChannelResults : Prop :=
  (∀ (s : State) (x : Agent) (sd : Side) (c : Cursor) (g : Pred) (b : SPair) (k : BitVec 12),
      Issues s x sd c → activeMask x sd g ≠ 0 → (s.pkg? x.pkg).isSome → x.vf < 128 →
      ((s.vf x.pkg x.vf).ctrs.map (fun y => y.1)).Pairwise (· < ·) →
      let old := (s.vf x.pkg x.vf).ctr k.toNat
      let home := s.release x.pkg (cacheCore x)
      let sets (i : Instr) (v : DW) : Prop :=
        (∀ st, home.1 = some st → exec i s = .next (s.stall c st)) ∧
        (home.1 = none →
        ∃ t, exec i s = .next t ∧ Advanced s t x c sd 0 [] [] ∧ SameBytes home.2 t ∧ (t.vf x.pkg x.vf).ctr k.toNat = v ∧
          (∀ j, j ≠ k.toNat → (t.vf x.pkg x.vf).ctr j = (s.vf x.pkg x.vf).ctr j) ∧
          (let u := home.2.modVf x.pkg x.vf (fun f => { f with ctrs := ctrPut k.toNat v f.ctrs })
           t.cmds = s.cmds.map (fun e =>
            if e.kind = .tsend ∧ e.phase = .armed ∧ e.pkg = x.pkg ∧ e.vf = x.vf ∧ blkU e.blk 0x1C 2 = k.toNat ∧
              blkU e.blk 0x20 8 ≤ v.toNat then (if u.mayFire e then u.started e else { e with due := true }) else e)) ∧
          ((t.vf x.pkg x.vf).ctrs.map (fun y => y.1)).Pairwise (· < ·))
      sets (.ctrset g b k) (x.spair b.toNat) ∧ sets (.ctradd g b k) (old + x.spair b.toNat) ∧
      ∃ t y, exec (.ctrrd g b k) s = .next t ∧ t.agent? x.id = some y ∧ y.spair b.toNat = old ∧ SameBytes s t ∧
        Advanced s t x c sd 0 [] [2 * b.toNat, 2 * b.toNat + 1]) ∧
  (∀ (s : State) (x : Agent) (sd : Side) (c : Cursor) (g : Pred) (b : SPair) (n : BitVec 6) (ch : Chan) (src d : Crew)
      (r q : Ring) (i len : Nat),
      Issues s x sd c → activeMask x sd g ≠ 0 → s.chan? x.launch n.toNat = some ch →
      let off := (x.sreg (2 * b.toNat)).toNat
      let size := (x.sreg (2 * b.toNat + 1)).toNat
      let at_ := r.base + i * ch.size
      let free := s.modCrew x.crew (fun k => k.release n.toNat x.id s.aclk)
      (x.stage = ch.src → size % 16 = 0 → 16 ≤ size → size ≤ ch.size → off % 16 = 0 → s.crew? x.crew = some src →
        off + size ≤ src.size →
        let now := src.bytes off size
        let old := sd.sendOld now
        let seq := sd.sendSeq s.nextId
        let later := x.sendsBefore n.toNat seq
        let bead (bs : List Byte) (j : Nat) : List Byte := (bs.drop (16 * j)).take 16
        (sd.began = none → old = now ∧ seq = s.nextId) ∧
        (s.bestConsumer x.launch ch.dst n.toNat = none ∨ later = true →
          exec (.chsend g b n) s =
            .next (({ s with nextId := max s.nextId (seq + 1) }).stall c (.chsend n.toNat seq old))) ∧
        (s.bestConsumer x.launch ch.dst n.toNat = some (d, r) → later = false → r.oldestFree = some i →
          ∃ bs free, bs.length = size ∧ (∀ j, j < size / 16 → bead bs j = bead now j ∨ bead bs j = bead old j) ∧
            (old = now → bs = now ∧ free = s.free) ∧
            exec (.chsend g b n) s = .next ((((({ s with nextId := s.nextId + 1, free := free }).note (.pad d.id) at_ size).modCrew
              d.id (fun k => k.deliver n.toNat i at_ ch.size bs s.nextId)).msgTell x.id s.nextId).retire c))) ∧
      (x.stage ≠ ch.src → exec (.chsend g b n) s = .next (s.trap x sd c (Trap.plain Cause.channel (n.setWidth 32)))) ∧
      (x.stage ≠ ch.dst → exec (.chrecv g b n) s = .next (s.trap x sd c (Trap.plain Cause.channel (n.setWidth 32)))) ∧
      (x.stage = ch.dst → (free.crew? x.crew).bind (fun k => k.ring? n.toNat) = some q →
        (q.oldestMsg = some (i, len) →
          ∃ t y, exec (.chrecv g b n) s = .next t ∧ t.agent? x.id = some y ∧
            y.sreg (2 * b.toNat) = BitVec.ofNat 32 (q.base + i * ch.size) ∧
            y.sreg (2 * b.toNat + 1) = BitVec.ofNat 32 len ∧
            t.crews = (free.modCrew x.crew (fun k => k.setSlot n.toNat i (.held x.id))).crews) ∧
        (q.oldestMsg = none → free.chanClosed x.launch ch.src = true →
          ∃ t y, exec (.chrecv g b n) s = .next t ∧ t.agent? x.id = some y ∧ y.sreg (2 * b.toNat) = 0xFFFFFFFF ∧
            y.sreg (2 * b.toNat + 1) = 0 ∧ t.crews = free.crews) ∧
        (q.oldestMsg = none → free.chanClosed x.launch ch.src = false →
          exec (.chrecv g b n) s = .next (free.stall c (.chrecv n.toNat b.toNat))))) ∧
  (∀ (s : State) (x : Agent) (sd : Side) (c : Cursor) (g : Pred) (b : SPair) (n : BitVec 6) (l : Launch) (src : Crew),
      Issues s x sd c → activeMask x sd g ≠ 0 → s.launch? x.launch = some l → s.crew? x.crew = some src →
      let off := x.sreg (2 * b.toNat)
      let size := (x.sreg (2 * b.toNat + 1)).toNat
      let lane := lowLane (activeMask x sd g)
      let stops (i : Instr) (tr : Trap) : Prop := exec i s = .next (s.trap x sd c tr)
      let badCh := Trap.plain Cause.channel (n.setWidth 32)
      let badAt (cause : Nat) := memTrap c 0 cause lane (laneBit lane) (0x8000000000000000 + off.setWidth 64) 0
      (l.chans.length ≤ n.toNat → stops (.chsend g b n) badCh ∧ stops (.chrecv g b n) badCh) ∧
      ∀ ch, l.chans[n.toNat]? = some ch → x.stage = ch.src →
        let fits : Prop := size % 16 = 0 ∧ 16 ≤ size ∧ size ≤ ch.size
        (¬fits → stops (.chsend g b n) badCh) ∧
        (fits → off.toNat % 16 ≠ 0 → stops (.chsend g b n) (badAt Cause.misaligned)) ∧
        (fits → off.toNat % 16 = 0 → src.size < off.toNat + size → stops (.chsend g b n) (badAt Cause.access)))

/-! ### Class MTX -/

/-- R84, R113, R179, R231 to R238, R240, R241, R244, R404, R422 to R425, R431: the nine checks of an MMA, taken in the order of
R241, each with its cause and its TRAPDATA; one that passes them all is posted: its handle PENDING on a new request with the
descriptors, the passes and the follower that the rules give; OPRDY sets the group's ready bit, and changes nothing where it is
set; MKDESC builds the low word of a descriptor. The core whose MMA issues has nothing dirty in its L1 here (what the release of
R179 writes home is the model's choice, notes/assumptions/74.md), and what OPRDY notes beside the bit serves the free values of
notes/assumptions/13.md. -/
def Obligations.MatrixWordResults : Prop :=
  ∀ (s : State) (x : Agent) (sd : Side) (c : Cursor) (da db : SPair) (acc : VReg) (h : Hnd) (back : Bool) (ext : W)
    (d e : Desc) (kp : Nat) (g : Pred) (rd ra : SReg) (b : SSrc) (k off : Nat) (gg : Bool) (w : Crew),
    Issues s x sd c → (∀ n ∈ s.mmas, n.inst < s.nextId) →
    let inst := (s.bind x.id h.toNat).1
    let busy := (x.handle h.toNat).isPending
    let go (i : Instr) (ext : W) : Prop :=
      (∀ tr, s.mmaCheck x sd da db acc ext = .inl tr → exec i s = .next (s.trap x sd c tr)) ∧
      (s.mmaCheck x sd da db acc ext = .inr (d, e, kp) →
        (busy = true → exec i s = .next (s.stall c (.handle h.toNat))) ∧
        (busy = false → 16 ≤ s.posted x.pkg (x.core / 4) → exec i s = .next (s.stall c (.table (x.core / 4)))) ∧
        (busy = false → s.posted x.pkg (x.core / 4) < 16 →
          (∀ p ∈ s.pkgs, p.num = x.pkg → ∀ z ∈ p.l1, z.core = cacheCore x → z.dirty = 0) →
          ∃ t y, exec i s = .next t ∧ t.agent? x.id = some y ∧
            (ext.getLsbD 7 = false → y.handle h.toNat = .pending inst false ∧
              ∃ m, t.mmas = s.mmas ++ [m] ∧ m.inst = inst ∧ m.a = d ∧ m.b = e ∧ m.kp = kp ∧ m.acc = acc.toNat ∧
                m.leader = x.core ∧ m.follower = x.core / 4 * 4 + (x.core % 4 + (if back then 3 else 1)) % 4 ∧
                m.passes = (d.klen + kp - 1) / kp ∧ m.done = 0 ∧ m.busy = none ∧ m.ovw = ext.getLsbD 0)))
    let checks (i : Instr) (ext : W) : Prop := ∀ cr, s.crew? x.crew = some cr →
      let A := (x.spair da.toNat).toNat
      let B := (x.spair db.toNat).toNat
      let bits (v lo n : Nat) : Nat := v / 2 ^ lo % 2 ^ n
      let stops (cause : Nat) (data : W) : Prop := exec i s = .next (s.trap x sd c (Trap.plain cause data))
      let regs (r : Nat) : Prop := (acc.toNat ≤ r ∧ r < acc.toNat + 32) ∨
        (bits A 17 1 = 1 ∧ bits A 0 7 ≤ r ∧ r < bits A 0 7 + 16) ∨ (bits B 17 1 = 1 ∧ bits B 0 7 ≤ r ∧ r < bits B 0 7 + 8)
      let one : Prop := (∃ l, l < 32 ∧ sd.mask = (1 : W) <<< l) ∧ 8 * (x.grp / 8) + 8 ≤ cr.ngroups
      let clear : Prop := bits A 26 6 = 0 ∧ bits B 26 6 = 0 ∧ ext.toNat / 2 ^ 13 = 0 ∧
        (ext.getLsbD 1 = false → bits ext.toNat 2 5 = 0) ∧ (ext.getLsbD 7 = false → bits ext.toNat 8 5 = 0)
      (¬one → stops Cause.illegalInstr 0) ∧
      (one → ∀ r, regs r → x.nregs ≤ r → (∀ q, regs q → q < r → q < x.nregs) →
        stops Cause.regRange (BitVec.ofNat 32 r)) ∧
      (one → (∀ r, regs r → r < x.nregs) → ¬clear → stops Cause.mtxOperand 1) ∧
      (one → (∀ r, regs r → r < x.nregs) → clear →
        let pair (f g : Fmt) (k : Nat) : Prop := Fmt.ofCode (bits A 22 4) = some f ∧ Fmt.ofCode (bits B 22 4) = some g ∧
          (f, g, k) ∈ [(Fmt.bf16, Fmt.bf16, 64), (.fp16, .fp16, 64), (.bf16, .int4g, 64), (.e4m3, .e4m3, 128),
            (.e4m3, .e5m2, 128), (.e5m2, .e4m3, 128), (.e5m2, .e5m2, 128), (.i8, .i8, 128), (.e2m1x, .e2m1x, 256)]
        ((¬∃ f g k, pair f g k) → stops Cause.mtxOperand 2) ∧
        ∀ f g kp, pair f g kp →
          let klen := bits A 52 12
          let nsteps := (klen + kp - 1) / kp
          let lens : Prop := klen ≠ 0 ∧ bits B 52 12 =
            if g = .int4g then (klen + fmtGsz sd.fmt - 1) / fmtGsz sd.fmt else if g = .e2m1x then (klen + 31) / 32 else 0
          let rows (D n : Nat) : Nat := if bits D 18 1 = 1 then kp else n
          let width (D n : Nat) (h : Fmt) : Nat := if bits D 18 1 = 1 then n * h.bits / 8 else kp * h.bits / 8
          let sound (D n : Nat) (h : Fmt) : Prop := bits D 17 1 = 1 ∨
            (bits D 19 3 ≤ 3 ∧ (bits D 19 3 = 0 ∨ bits D 32 10 % 32 = 0) ∧ (bits D 18 1 = 1 → 8 ≤ h.bits) ∧
              width D n h ≤ bits D 32 10 * 16 ∧ (nsteps ≤ 1 ∨ rows D n * bits D 32 10 ≤ bits D 42 10 ∨
                (width D n h ≤ bits D 42 10 * 16 ∧ nsteps * bits D 42 10 ≤ bits D 32 10)))
          let extent (D n : Nat) (h : Fmt) : Nat :=
            ((nsteps - 1) * bits D 42 10 * 16 + (rows D n - 1) * bits D 32 10 * 16 + width D n h + 15) / 16 * 16
          let side (D n : Nat) (h : Fmt) : Nat :=
            if h = .int4g then bits D 52 12 * 160 else if h = .e2m1x then 2 * n * ((klen + 31) / 32) else 0
          let inside (D n : Nat) (h : Fmt) : Prop := bits D 17 1 = 1 ∨
            ∃ u, s.gangCrew x.pkg cr.gang (x.core / 4 * 4 + bits D 15 2) = some u ∧
              bits D 0 15 * 16 + extent D n h + side D n h ≤ u.size
          let inRegs (D n : Nat) (h : Fmt) : Prop := bits D 17 1 = 0 ∨
            (h ∈ [Fmt.bf16, .fp16, .e4m3, .e5m2, .i8] ∧ klen ≤ kp ∧
              (bits D 0 7 + n ≤ acc.toNat ∨ acc.toNat + 32 ≤ bits D 0 7))
          let words : Prop := (ext.getLsbD 1 = true → (x.spair (bits ext.toNat 2 5)).toNat % 4 = 0) ∧
            (ext.getLsbD 7 = true → (x.spair (bits ext.toNat 8 5)).toNat % 4 = 0)
          (¬lens → stops Cause.mtxOperand 3) ∧
          (lens → ¬(sound A 128 f ∧ sound B 64 g) → stops Cause.mtxOperand 4) ∧
          (lens → sound A 128 f → sound B 64 g → ¬(inside A 128 f ∧ inside B 64 g) → stops Cause.mtxOperand 5) ∧
          (lens → sound A 128 f → sound B 64 g → inside A 128 f → inside B 64 g →
            (¬(inRegs A 16 f ∧ inRegs B 8 g) → stops Cause.mtxOperand 6) ∧
            (inRegs A 16 f → inRegs B 8 g → ¬words → stops Cause.misaligned 0) ∧
            (inRegs A 16 f → inRegs B 8 g → words → ∃ u v, s.mmaCheck x sd da db acc ext = .inr (u, v, kp) ∧
              Desc.ofBits (x.spair da.toNat) = some u ∧ Desc.ofBits (x.spair db.toNat) = some v)))
    go (.mma da db acc h back) 0 ∧ go (.mmaX da db acc h back ext) ext ∧
    checks (.mma da db acc h back) 0 ∧ checks (.mmaX da db acc h back ext) ext ∧
    (activeMask x sd g ≠ 0 → ∀ r, s.crew? x.crew = some r →
      (r.ready.getLsbD x.grp = true → exec (.oprdy g) s = .next (s.retire c)) ∧
      (r.ready.getLsbD x.grp = false → exec (.oprdy g) s = .next (((s.modCrew x.crew (fun k =>
        { k with ready := k.ready ||| ((1 : W) <<< x.grp)
                 readyAt := (x.grp, x.id, x.vcount, s.wlog.length) :: k.readyAt.filter (fun z => z.1 != x.grp) })).tellReady
                   x.id).retire c))) ∧
    (let v := (SSrc.get x b).toNat
     let va := pairVal (x.sreg ra.toNat) (x.sreg (ra.toNat + 1))
     activeMask x sd g ≠ 0 → v / 256 = 0 → v / 32 ≤ 3 → (Fmt.ofCode (v % 16)).isSome → x.isCc = false →
      va.toNat / 2 ^ 62 = 2 → s.padTarget (s.who x) va 0 = some (.pad k off gg) → off % 16 = 0 → s.crew? k = some w →
      off < w.size → w.core / 4 = x.core / 4 →
      exec (.mkdesc g rd ra b) s = wroteS s x c rd.toNat (BitVec.ofNat 32
        (off / 16 + w.core % 4 * 2 ^ 15 + v / 16 % 2 * 2 ^ 18 + v / 32 * 2 ^ 19 + v % 16 * 2 ^ 22)))

/-! ### Steps -/

/-- R69, R136, R302, R303, R305, R316: a turn of a side inside a clause whose word, with the extension word that it asks for, is
fetched and decodes to an instruction is `exec` of that instruction, and the books of the turn (`issueEnd`), where the agent may
run; a word that touches a scalar pair which a CHRECV of the sibling side covers waits (R112, R355); a word of no instruction
traps, and counts as one word long where it asks for no extension word (the model's choice, notes/assumptions/43.md); a side at
a header that is well formed and whose waits are met goes on inside the clause in the same turn; and the word that a fetch gives
is the one in memory, of a page that was not written while a launch that fetches from it ran (`codeLate`: the model's reading of
R306, notes/assumptions/102.md); a fetch at a system-class address raises PRIVILEGED but in supervisor state, one at any other
address that is not translated ACCESS. A group whose divergence-stack area an access has reached issues with free registers,
predicates, sides and stack entries, since R71 calls its later behaviour unpredictable, and nothing else of the machine changes by
that, as R7 asks (the model's form of it, notes/assumptions/12.md). That turns stand in an agenda, one to a step, and that a
word is decoded in the class of its clause, are the model's choices (notes/assumptions/5.md, 7.md). -/
def Obligations.StepRunsDecoded : Prop :=
  (∀ (s : State) (a : Agent) (sd : Side) (slot : Bool) (rest : List Turn) (w : W) (s1 : State) (i : Instr),
      s.agenda = .issue a.id slot :: rest → s.agent? a.id = some a → a.side slot = some sd →
      let s0 := { s with agenda := rest }
      let at_ (len : Nat) : Cursor := { agent := a.id, slot := slot, raw := w, len := len, left := false }
      let go (u : State) (len : Nat) : Host.Outcome State Fault Refusal :=
        match a.pairHeld slot i with
        | some n => .next ((u.stall (at_ len) (.pair n)).issueEnd a slot)
        | none =>
          match exec i { u with cur := some (at_ len) } with
          | .next t => .next (t.issueEnd a slot)
          | .fault f => .fault f
          | .refused r => .refused r
      let trap (u : State) (len cause : Nat) (data : W) : State :=
        (u.takeTrap a.id slot sd.pt len (Trap.plain cause data)).issueEnd a slot
      (s0.runs a = false → step s = .next s0) ∧
      (s0.runs a = true → a.id ∈ s.strayed → step s = (s0.unsettle a.id).issueAs a.id slot ∧
        (s0.unsettle a.id).agent? a.id = some (a.adrift s.free) ∧ SameBytes s (s0.unsettle a.id) ∧
        ∀ j, j ≠ a.id → (s0.unsettle a.id).agent? j = s.agent? j) ∧
      (s0.runs a = true → a.id ∉ s.strayed → sd.pt.pos ≠ 0 → s0.fetchAt a slot sd sd.pt.addr = .word w s1 →
        (decode sd.pt.cls w none = .ok i 1 → step s = go s1 1) ∧
        (decode sd.pt.cls w none = .illegal → step s = .next (trap s1 1 Cause.illegalInstr w)) ∧
        (decode sd.pt.cls w none = .needExt →
          (sd.pt.count < sd.pt.pos + 1 → step s = .next (trap s1 1 Cause.illegalClause sd.pt.head)) ∧
          ∀ e s2, sd.pt.pos + 1 ≤ sd.pt.count → s1.fetchAt a slot sd (sd.pt.addr + 4) = .word e s2 →
            (decode sd.pt.cls w (some e) = .ok i 2 → step s = go s2 2) ∧
            (decode sd.pt.cls w (some e) = .illegal → step s = .next (trap s2 2 Cause.illegalInstr w)))) ∧
      (s0.runs a = true → a.id ∉ s.strayed → sd.pt.pos = 0 → s0.fetchAt a slot sd sd.pt.hdr = .word w s1 →
        (headerFor a w = none → step s = .next (trap s1 1 Cause.illegalClause w)) ∧
        ∀ h, headerFor a w = some h → s1.waitsMet a w = true →
          let s2 := (s1.modAgent a.id (fun b => b.setSide slot (some (s1.entered a sd w h)))).observeWaits a w
          step s = step { s2 with agenda := .issue a.id slot :: rest })) ∧
  (∀ (s : State) (a : Agent) (sd : Side) (slot : Bool) (va : DW) (t : Target) (sp : Space) (pa : Nat),
      s.fetchCheck (s.who a) va = .ok t → t.code = some (sp, pa) → s.isPoisoned sp pa 4 = false →
      s.codeLate a.launch (s.who a) va = false → OffStacks s t 4 →
      ∃ s1, s.fetchAt a slot sd va = .word (BitVec.ofNat 32 (leNat (s.homeRead sp pa 4))) s1 ∧ SameBytes s s1 ∧
        s1.agents = s.agents) ∧
  (∀ (s : State) (w : Who) (va : DW),
      (va.toNat / 2 ^ 62 = 3 → w.supervisor = false → s.fetchCheck w va = .bad Cause.privileged 0) ∧
      (va.toNat / 2 ^ 62 = 2 ∨ (va.toNat / 2 ^ 62 = 3 ∧ w.supervisor = true) → s.fetchCheck w va = .bad Cause.access 0))

/-! ### Encodings -/

/-- R307 to R314, R318 to R321: decoding the word, and the extension word where there is one, that the encoding tables give a
well-formed instruction, in its class, gives that instruction back and its length; a word with an extension word asks for it. -/
def Obligations.DecodeEncode : Prop :=
  ∀ (i : Instr) (e : Enc), WellFormed i = true → encode i = some e →
    match e.ext with
    | none => ∀ x, decode e.cls e.word x = .ok i 1
    | some x => decode e.cls e.word none = .needExt ∧ decode e.cls e.word (some x) = .ok i 2

/-- Words of classes ALU and CTL that the reference entries of the spec assemble decode to what they stand for. -/
def Obligations.DecodesWords : Prop :=
  decode .alu 0x08004103 none = .ok (.isubV 0 1 2 (.v 3)) 1 ∧
  decode .alu 0x1C210286 none = .ok (.imadV 0 4 5 (.s 6)) 1 ∧
  decode .alu 0x30008003 none = .ok (.iabsV 0 2 (.v 3)) 1 ∧
  decode .alu 0x0621037F (some 0xFFFFFFFF) = .ok (.iaddDS 0 4 6 (.lit 0xFFFFFFFF)) 2 ∧
  decode .alu 0xD401C181 none = .ok (.vred 0 7 3 .sumF) 1 ∧
  decode .alu 0xCA23057F (some 0) = .ok (.pack 0 12 10 (.lit 0)) 2 ∧
  decode .ctl 0x1E000181 none = .ok (.sread 0 0 (.v 3)) 1 ∧
  decode .ctl 0x20080005 none = .ok (.swrite 0 0x20 5) 1 ∧
  decode .ctl 0x14000000 none = .ok (.yield 0) 1 ∧
  decode .ctl 0xFE000000 none = .ok .nop 1

/-! ### What every step keeps -/

/-- The memories and the scratchpads stay in their canonical form (the model's own form: notes/assumptions/1.md). -/
def Obligations.StepKeepsMemoryWf : Prop :=
  ∀ (s t : State), MemoryWf s → step s = .next t → MemoryWf t

/-! ### Reset -/

/-- R10, R114, R115, R282, R287, R295, R299, R300: the state after reset: its memories hold nothing, and so does any invariant
of them; the registers at the values that the spec gives; sixteen control cores in supervisor state. The model's choices here:
SLOTLEN is 130,000 and NREC is 0, which firmware sets and the spec gives no number (notes/assumptions/3.md); memory reads as
zeros (notes/assumptions/1.md), the control cores are halted until bring-up starts them (3.md), and the domain is package 0
alone, which DOMAIN_FORM is still to join (4.md). -/
def Obligations.ResetState : Prop :=
  MemoryWf State.reset ∧ (∀ p, Memory.read State.reset.ctl p = 0 ∧ Memory.read State.reset.ten p = 0) ∧
  State.reset.crews = [] ∧ State.reset.launches = [] ∧ State.reset.cmds = [] ∧ State.reset.agents.length = 16 ∧
  (∀ k, k < 16 → ∃ a c, State.reset.agent? k = some a ∧ a.cc = some c ∧ c.num = k ∧ c.supervisor = true ∧
    c.halted = true ∧ c.asid = 0x80) ∧
  ∃ p, State.reset.pkg? 0 = some p ∧ p.slt.en = false ∧ p.slt.slotlen = 130000 ∧ p.slt.lead = 13000 ∧ p.slt.dmax = 65000 ∧
    p.hsem.holder = 0 ∧ p.hsem.tmo = 100 ∧ p.mp.hatmo = 1000 ∧ p.mp.log2q = 20 ∧ p.queues = [] ∧
    ∀ v, v < 128 → (p.vf v).armsh = 8 ∧ (p.vf v).cfg.donee = 0xFF ∧ (p.vf v).lkSize = 0
/-! ### Events of the engines -/

/-- R119, R123, R161, R196, R204, R205, R209, R212, R214, R219, R222, R226, R228, R249, R250, R257, R369, R397, R420, R449,
R465: the events of the copy and collective engines. A complete set whose slices may start starts; an iteration that goes
through moves its command to the next vector of its nest, or ends it at the last; one that stops ends its command with a fault
at the vector reached. What sends flits to other packages first sends them, and comes about when they have been accepted (the
model's choice, notes/assumptions/9.md). One iteration of COPY, GATHER, SCATTER or TSEND writes the element of its source,
converted where CVT asks for it, at its destination, one of MGT the sum of its taps, and no other byte; of a source written
since the command started a destination bead takes the bytes of one moment (that it is one of the log of writes is the model's
form of R161, 87.md). A set that cannot run ends with ENGINE_DESC, and its records are written when it is done (R205, R226). A
check point lets the command go on; a set that is done resolves with the status OK, or the one decided before, and leaves its
engine; a command whose VF is not served stops at its vector; merges and increments take effect at their home; old record copies
go. That a chunk ends where no scratchpad bead is in part, and one iteration is a group here, is the model's choice
(notes/assumptions/14.md); an element that a GATHER or a SCATTER reads where it also writes is left out, since the model takes
it to be unpredictable (86.md). -/
def Obligations.EngineEventResults : Prop :=
  (∀ (s : State) (set : Nat),
      let l := (s.setOf set).filter (fun c => c.kind == .copy)
      l ≠ [] → (∀ c ∈ l, s.canStart c = true ∧ s.cmdReady c = true ∧ isSnap c.blk = false) →
      exec (.copySetStart set) s = .next { s with cmds := s.cmds.map (fun c =>
        if l.any (fun d => d.inst == c.inst) then s.started c else c) }) ∧
  (∀ (s : State) (set crew : Nat) (c : Cmd),
      let refused (iv : List Nat) : CmdFault :=
        { seq := 0, cause := 0x12, sub := 0, complete := false, ivec := iv, faddr := 0, detail := 0 }
      let bad (d : Cmd) : Cmd := { d with phase := .ended, wait := none, fault := some (refused d.ivec) }
      let l := s.openSet c.crew c.hnum (blkNslice c.blk)
      let num := ((l.head?).map (fun d => d.set)).getD c.inst
      let withC : List Cmd := s.cmds ++ [{ c with set := num }]
      (s.failSet set).cmds = s.cmds.map (fun d => if d.kind = .copy ∧ d.set = set then bad d else d) ∧
      ((∃ d ∈ l, d.agent = c.agent ∨ d.blk.getD 1 0 ≠ c.blk.getD 1 0 ∨ blkSlice d.blk = blkSlice c.blk) →
        (s.joinSet c).cmds = withC.map (fun d => if d.kind = .copy ∧ d.set = num then bad d else d)) ∧
      (s.failOpenSets crew).cmds = s.cmds.map (fun d => if d.kind = .copy ∧ d.phase = .joining ∧ d.crew = crew ∧
        (∀ a ∈ s.agents, a.crew = crew → a.isCc = false → ∃ e ∈ s.cmds, e.set = d.set ∧ e.agent = a.id) then bad d else d) ∧
      (∀ k, c.vf < 128 → c.fault = some (refused c.ivec) → isResume c.blk = false → blkNslice c.blk = 1 → blkSlice c.blk = 0 →
        freeRun (s.vf c.pkg c.vf).rpUsed 1 = some k →
        (s.setStatus [c]).1 = BitVec.ofNat 32 (3 + 256 * 0x12 + 65536 * k) ∧
        ∀ pa, s.recordPa c.pkg c.vf k = some pa → MemoryWf s → (s.pkg? c.pkg).isSome = true →
          Memory.readN (s.setStatus [c]).2.ctl pa 64 = recordBytes c.kind.code 0x12 0 0 0 1 c.cbaddr c.ivec 0 0)) ∧
  (∀ (s : State) (c : Cmd), nestTotal (nestCounts c.kind c.blk) ≠ 0 → isResume c.blk = false →
      s.started c = { c with
        started := true, held := false, due := false, phase := .running, since := 0, wait := none, ran := s.wlog.length }) ∧
  (∀ (s : State) (c : Cmd), s.cmd? c.inst = some c → c.blk ≠ [] → c.kind ≠ .coll → c.phase = .running →
      s.vfRuns c.pkg c.vf = true ∨ c.sent = true → s.cmdReady c = true → s.flying c.inst = false → s.engFree c = true →
      s.ordHeld c = false → c.since = 0 → blkLk c.blk = none →
      let out := s.flitsFor (State.oneChunk c 1 s) c.inst
      let lands : Prop := c.sent = true ∨ out = []
      (c.sent = false → out ≠ [] → exec (.engineTransferChunk c.inst 1) s =
        .next (({ s with traffic := s.traffic ++ out } : State).modCmd c.inst (fun d => { d with sent := true }))) ∧
      (lands → ∀ s1 cause fa, s.iterate c = .stop s1 cause fa → s1.cmds = s.cmds →
        (∀ z, s.writesAt c c.ivec = some z → z.1.toNat / 2 ^ 62 ≠ 2) →
        ∃ t d, exec (.engineTransferChunk c.inst 1) s = .next t ∧ t.cmd? c.inst = some d ∧ SameBytes s1 t ∧
          d.phase = .ended ∧ d.ivec = c.ivec ∧ d.fault.isSome = true) ∧
      (lands → ∀ s1 v note, s.iterate c = .ok s1 v note → s1.cmds = s.cmds → (c.kind = .scatter → isCombine c.blk = false) →
        (∀ z, s.writesAt c c.ivec = some z ∨ s.readsAt c c.ivec = some z → z.1.toNat / 2 ^ 62 ≠ 2) →
        ∃ t d, exec (.engineTransferChunk c.inst 1) s = .next t ∧ t.cmd? c.inst = some d ∧ SameBytes s1 t ∧
          match nestNext (nestCounts c.kind c.blk) c.ivec with
          | some iv => d.ivec = iv ∧ d.phase = .running
          | none => d.ivec = c.ivec ∧ d.phase = .ended)) ∧
  (∀ (s : State) (c : Cmd) (p q r : Nat) (ps pw : Nat × Nat × Nat × Nat → Nat),
      MemoryWf s →
      let w := s.whoCmd c
      let b := c.blk
      let i := c.ivec.getD 0 0
      let n := if c.kind = .tsend then 16 else blkElem b
      let dw := destWidth c.kind b
      let reads (va : DW) (k at_ : Nat) : Prop :=
        va.toNat % 65536 + k ≤ 65536 ∧ s.engCheck w Kind.engineRead va k = .ok (.ten at_) ∧ s.isPoisoned .ten at_ k = false
      let writes (va : DW) (k at_ : Nat) : Prop :=
        va.toNat % 65536 + k ≤ 65536 ∧ s.engCheck w Kind.engineWrite va k = .ok (.ten at_)
      let apart (own : List (Target × Nat)) (at_ k : Nat) : Prop :=
        ∀ y ∈ own, ∀ o, y.1 = .ten o → o + y.2 ≤ at_ ∨ at_ + k ≤ o
      let puts (bs : List Byte) : Prop :=
        ∃ s1 v note, s.iterate c = .ok s1 v note ∧ s1.cmds = s.cmds ∧ Memory.readN s1.ten q dw = bs ∧
          ∀ a, a < q ∨ q + dw ≤ a → Memory.read s1.ten a = Memory.read s.ten a
      let still (at_ k : Nat) : Prop := s.wroteSince c.ran .ten at_ k = false
      let moves (src dst : DW) : Prop :=
        reads src n p → writes dst dw q →
        (c.kind ≠ .tsend → blkCvt b = none → dst.toNat % 16 + dw ≤ 16 →
          ∃ k, min c.ran s.wlog.length ≤ k ∧ k ≤ s.wlog.length ∧ puts (Memory.readN (s.asOf k).ten p n)) ∧
        ((c.kind = .tsend ∨ still p n) →
        let old := Memory.readN s.ten p n
        (blkCvt b = none ∨ c.kind = .tsend → puts old) ∧
        ∀ f h, c.kind ≠ .tsend → blkCvt b = some (some f, some h) →
          let v := convertTo h (rndRm (blkU b 0x1B 1)) (rndOv (blkU b 0x1B 1)) false (Fmt.value f (leNat old))
          (v.trap = false → puts (toLE (h.bits / 8) v.bits)) ∧
          (v.trap = true → ∃ u, s.iterate c = .stop u Cause.cvtOverflow 0 ∧ u.cmds = s.cmds ∧ SameBytes s u))
      let entry : DW := blkA b 0x20 + toDW (i * idxBytes b)
      let j := leNat (Memory.readN s.ten r (idxBytes b))
      let indexed : Prop := reads entry (idxBytes b) r ∧ s.wroteSince c.mark .ten r (idxBytes b) = false
      (c.kind = .tsend → moves (blkSrc b + toDW (16 * i)) (nestDest .tsend b c.ivec)) ∧
      (c.kind = .copy → isExp b = false → apart (s.copySource c w) q dw →
        moves (addrAdd (blkSrc b) (strideSum c.ivec (copyStrides b 0x24)))
          (addrAdd (blkDst b) (strideSum c.ivec (copyStrides b 0x28)))) ∧
      (c.kind = .gather → indexed → apart (s.gatherDests c w) p n →
        moves (blkSrc b + BitVec.ofNat 64 (j * n)) (addrAdd (blkDst b) (i * dw))) ∧
      (c.kind = .scatter → isCombine b = false → indexed → apart (s.scatterDests c w) p n →
        moves (blkSrc b + toDW (i * n)) (blkDst b + BitVec.ofNat 64 (j * dw))) ∧
      (∀ sf df, c.kind = .mgt → gridFmt (blkU b 0x16 1) = some sf → gridFmt (blkU b 0x2E 1) = some df →
        apart (s.gridSource c w) q dw → writes (nestDest .mgt b c.ivec) dw q →
        let wf : Fmt := if sf = .fp64 then .fp64 else .fp32
        let taps := mgtTaps b i (c.ivec.getD 1 0) (c.ivec.getD 2 0)
        (∀ t ∈ taps,
          reads (addrAdd (blkSrc b) (((t.2.1 : Int) + t.2.2.1 * blkI b 0x18 + t.2.2.2 * blkI b 0x1C) *
            ((sf.bits / 8 : Nat) : Int))) (sf.bits / 8) (ps t) ∧
          s.wroteSince c.mark .ten (ps t) (sf.bits / 8) = false ∧ still (ps t) (sf.bits / 8) ∧ still (pw t) (wf.bits / 8) ∧
          reads (blkA b 0x38 + toDW (t.1 * (wf.bits / 8))) (wf.bits / 8) (pw t) ∧
          s.wroteSince c.mark .ten (pw t) (wf.bits / 8) = false) →
        let sum := sumExact false ((.fin false 0 0) :: taps.map (fun t =>
          (Fmt.value wf (leNat (Memory.readN s.ten (pw t) (wf.bits / 8)))).mul
            (Fmt.value sf (leNat (Memory.readN s.ten (ps t) (sf.bits / 8))))))
        let v := convertTo df (rndRm (blkU b 0x42 1)) (rndOv (blkU b 0x42 1)) false sum
        v.trap = false → puts (toLE (df.bits / 8) v.bits))) ∧
  (∀ (s : State) (c : Cmd), s.cmd? c.inst = some c → c.phase = .running → s.tlbInvs = [] →
      exec (.engineTranslationCheck c.inst) s = .next (s.modCmd c.inst (fun d => { d with since := 0 }))) ∧
  (∀ (s : State) (c : Cmd), s.cmd? c.inst = some c → s.tlbInvs = [] →
      let l := s.setOf c.set
      c.kind ≠ .coll → c.kind ≠ .tsend → (∀ d ∈ l, d.phase = .ended ∧ s.ordHeld d = false ∧
        (d.fault = none ∨ (l.any (fun e => e.final.isSome)) = true) ∧
        ∀ m ∈ s.merges, m.inst ≠ d.inst) →
      ∃ t, exec (.engineCommandDone c.inst) s = .next t ∧
        t.cmds = s.cmds.filter (fun x => !(l.any (fun d => d.inst == x.inst))) ∧ SameBytes s t ∧
        ∀ a h d b, s.agent? a.id = some a → d ∈ l → a.handle h = .pending d.inst b →
          ∃ y, t.agent? a.id = some y ∧ y.handle h = .resolved d.inst ((l.findSome? (fun e => e.final)).getD 1)) ∧
  (∀ (s : State) (set : Nat) (c : Cmd),
      let l := s.collMembers set
      c ∈ l → l.length = collNpart c.blk → 2 ≤ collOp c.blk → (∀ d ∈ l, collNpart d.blk = l.length ∧ collOp d.blk = collOp c.blk) →
      exec (.collStart set) s = .next (({ s with cmds := s.cmds.map (fun d =>
        if l.any (fun x => x.inst == d.inst) then
          let es := collPart l [] (collMyidx d.blk)
          { d with phase := if es.isEmpty then .ended else if s.vfStarts d.pkg d.vf then .running else .queued,
                   started := true, buf := [], ivec := [0, 0, 0, 0, 0], since := 0, pageIv := [0, 0, 0, 0, 0], pages := [],
                   sincePage := 0, redo := 0, result := es.flatMap (fun x => x.1),
                   badAt := ((List.range es.length).zip es).filterMap (fun x => if x.2.2 then some x.1 else none),
                   poisoned := d.buf.any (fun x => x.2.2) || es.any (fun x => x.2) }
        else d) } : State).collTraffic l)) ∧
  (∀ (s : State) (b : List Byte) (e : Int) (xs : List (List Byte × Bool)),
      collFmt b = .i32 → collRed b = 0 → (∀ x ∈ xs, x.2 = false) →
      s.reduceOne b e xs =
        ((toLE 4 (((xs.map (fun (x : List Byte × Bool) => (BitVec.ofNat 32 (leNat x.1)).toInt)).foldl (· + ·) 0) % 2 ^ 32).toNat, false), s)) ∧
  (∀ (s : State) (c : Cmd), s.cmd? c.inst = some c → c.phase = .ended → c.fault = none → c.poisoned = false →
      c.resumes = false → (∀ m ∈ s.merges, m.inst ≠ c.inst) → (∀ x ∈ s.incs, x.inst ≠ c.inst) →
      (c.kind = .coll → exec (.collResolve c.inst) s = .next ((s.resolveSet [c] 1).subDone c 1)) ∧
      (c.kind = .tsend → exec (.tsendComplete c.inst) s = .next ((s.resolveSet [c] 1).subDone c 1))) ∧
  (∀ (s : State) (c : Cmd), s.cmd? c.inst = some c → c.kind = .tsend → c.phase = .armed → c.due = true →
      (if c.held then s.vfStarts c.pkg c.vf else s.vfRuns c.pkg c.vf) = true →
      (∀ d ∈ s.cmds, d.pkg = c.pkg → d.eng = c.eng → d.agent = c.agent → d.inst < c.inst → d.phase ≠ .queued) →
      exec (.tsendFire c.inst) s = .next (s.modCmd c.inst s.started)) ∧
  (∀ (s : State) (c : Cmd), s.cmd? c.inst = some c → c.phase = .running → c.vf < 128 → s.vfRuns c.pkg c.vf = false →
      c.sent = false → exec (.engineSuspend c.inst) s = .next (s.modCmd c.inst (fun d => { d with phase := .suspended, since := 0 }))) ∧
  (∀ (s : State) (i : Nat) (x : PendInc), s.incs[i]? = some x → (s.pkg? x.pkg).isSome = true → x.vf < 128 →
      ((s.vf x.pkg x.vf).ctrs.map (fun y => y.1)).Pairwise (· < ·) →
      ∃ t, exec (.counterIncrement i) s = .next t ∧ t.incs = s.incs.eraseIdx i ∧ SameBytes s t ∧
        (t.vf x.pkg x.vf).ctr x.ctr = (s.vf x.pkg x.vf).ctr x.ctr + x.inc ∧
        (∀ j, j ≠ x.ctr → (t.vf x.pkg x.vf).ctr j = (s.vf x.pkg x.vf).ctr j) ∧
        ∀ c, s.cmd? c.inst = some c → c.kind = .tsend → c.phase = .armed → c.pkg = x.pkg → c.vf = x.vf → c.held = false →
          blkU c.blk 0x1C 2 = x.ctr →
          ∃ d, t.cmd? c.inst = some d ∧
            (if blkU c.blk 0x20 8 ≤ ((s.vf x.pkg x.vf).ctr x.ctr + x.inc).toNat then
              (if s.mayFire c then d.started = true else d = { c with due := true }) else d = c)) ∧
  (∀ (s : State) (i : Nat) (m : PendMerge), s.merges[i]? = some m → m.vals ≠ [] → MemoryWf s →
      let home := (s.vf m.pkg m.vf).lkBase.toNat + 64 * m.idx
      let r := LkRec.ofBytes (s.homeRead .ten home 64)
      ∃ t, exec (.locketMerge i) s = .next t ∧ t.merges = s.merges.eraseIdx i ∧
        Memory.readN t.ten home 64 = (r.merge m.fmt m.vals).toBytes ∧
        ∀ a, a < home ∨ home + 64 ≤ a → Memory.read t.ten a = Memory.read s.ten a) ∧
  (∀ (s : State) (pkg core : Nat) (p : Pkg), s.pkg? pkg = some p →
      exec (.locketCacheExpire pkg core) s = .next (s.modPkg pkg (fun q => { q with
        lk := q.lk.filter (fun c => !(c.core == core && decide (c.since + 4096 < s.aclk))) })))
/-! ### Events of the matrix engines and of issue -/

/-- R72, R75, R82, R83, R99, R100, R112, R113, R182, R230, R232, R239, R243, R245, R425: the arbiter grants a pass of 32 aclk to
the request that is first among those it may serve, and promotes one that has waited; a pass that ends is counted, and the last
one resolves the handle, lets the request leave and holds the results for the groups of the team; a group that the resolution is
ordered before takes them, and its accumulators read as the results where it has not written them since the post; an MMA
cancelled before its first pass gives back the accumulators it took, poisoned where they were (R277); the exact integer result.
Woken sides go on at their next clause with an acquire; sides that stand at one header, their first word still to issue (93.md),
merge; a hold that is over goes; a side and a group that have waited too long are noted. That a YIELD hold is dropped at a merge
is the model's choice (notes/assumptions/71.md), and so are the record of results not yet ordered (notes/assumptions/13.md) and
the counts by which a side or a group has waited (notes/assumptions/59.md). -/
def Obligations.MatrixAndIssueEvents : Prop :=
  (∀ (s : State) (m : MmaReq), s.mma? m.inst = some m →
      (m.needsMap = false → s.grantable m = true →
        (∀ n ∈ s.mmas, n.pkg = m.pkg → n.cluster = m.cluster → s.grantable n = true → n.before m = false) →
        exec (.mmaPassGrant m.inst) s = .next (s.modMma m.inst (fun n =>
          { n with busy := some (s.aclk + 32), waitFrom := s.aclk, promoted := none }))) ∧
      (m.saved = false → m.busy = none → m.promoted = none → m.waitFrom + 2048 ≤ s.aclk →
        exec (.mmaPromote m.inst) s = .next (s.modMma m.inst (fun n => { n with promoted := some s.aclk }))) ∧
      (∀ a l, m.needsMap = true → m.dup = some a → m.saved = false → s.mmaReady m = true → s.mapRead m = .words l → m.klen ≠ 0 →
        exec (.mmaPassGrant m.inst) s = .next ((s.readBy (s.whoMma m) Kind.load a (4 * ceilDiv m.klen 64)).modMma m.inst
          (fun n => { n with map := l, wait := none }))) ∧
      (∀ b, m.busy = some b → b ≤ s.aclk →
        let s1 := s.modMma m.inst (fun n => { n with busy := none, done := n.done + 1 })
        let r := s1.mmaResults { m with busy := none, done := m.done + 1 }
        (m.done + 1 < m.passes → exec (.mmaPassDone m.inst) s = .next s1) ∧
        (m.passes ≤ m.done + 1 → m.amx = none → s.mmas = [m] →
          ∃ t, exec (.mmaPassDone m.inst) s = .next t ∧ t.mmas = [] ∧ SameBytes s t ∧
            (∀ a, s.agent? a.id = some a → ∃ y, t.agent? a.id = some y ∧ ∀ h p, a.handle h = .pending m.inst p →
              y.handle h = .resolved m.inst (statusWord (if r.1.2 then Cause.poison else 0) 0)) ∧
            ((∀ a ∈ s.agents, ∀ h, a.handle h ≠ .pending m.inst true) →
              (∃ a ∈ s.agents, a.isCc = false ∧ a.crew = m.crew ∧ a.grp / 8 = m.team) →
              ∃ e ∈ t.accRes, e.inst = m.inst ∧ e.crew = m.crew ∧ e.team = m.team ∧ e.acc = m.acc ∧
                e.regs = List.range 32 ∧ e.res = r.1.1 ∧ e.bad = [] ∧ e.marks = m.accMarks ∧ e.know = []))) ∧
      (m.done = 0 → m.busy = none → s.mmas = [m] → (∀ a ∈ s.agents, ∀ h, a.handle h ≠ .pending m.inst true) →
        (∃ a ∈ s.agents, a.isCc = false ∧ a.crew = m.crew ∧ a.grp / 8 = m.team) →
        (s.mmaCancel m).mmas = [] ∧ ∃ e ∈ (s.mmaCancel m).accRes, e.inst = m.inst ∧ e.crew = m.crew ∧ e.team = m.team ∧
          e.acc = m.acc ∧ e.regs = List.range 32 ∧ e.res = m.acc0 ∧ e.bad = m.acc0Bad ∧ e.marks = m.accMarks ∧ e.know = [])) ∧
  (∀ (a : Agent) (e : MmaRes) (free i l : Nat), e.regs = List.range 32 → i < 32 → l < 32 → e.acc + i < 128 →
      (∀ x ∈ e.marks, x.1 = a.id → ∀ j k, j < 32 → k < 32 → a.vwrote (e.acc + j) k ≤ x.2) → (∃ x ∈ e.marks, x.1 = a.id) →
      (a.takeRes e free).vreg (e.acc + i) l = e.res.getD (64 * accRow (a.grp % 8) l + accCol i l) 0 ∧
      (a.takeRes e free).vpoison.contains (32 * (e.acc + i) + l) = e.bad.contains (64 * accRow (a.grp % 8) l + accCol i l)) ∧
  (∀ (klen : Nat) (av bv : Nat → FVal) (acc : W),
      mmaCell true klen av bv acc =
        acc + BitVec.ofInt 32 (((List.range klen).map (fun k => ((av k).mul (bv k)).toIntAt 0)).foldl (· + ·) 0)) ∧
  (∀ (s : State) (a : Agent), s.agent? a.id = some a →
      let up (x : Option Side) : Option Side := x.map (fun sd =>
        match sd.stall with
        | some (.woken _) => { sd with stall := none, pt := ClausePt.at sd.pt.nextClause }
        | _ => sd)
      (∃ t y, exec (.barrierWake a.id) s = .next t ∧ t.agent? a.id = some y ∧ SameBytes s t ∧
        y = { a with prim := up a.prim, sec := up a.sec } ∧
        ∀ p k sd g, s.pkg? a.pkg = some p → a.side k = some sd → sd.stall = some (.woken g) →
          ∃ q, t.pkg? a.pkg = some q ∧ (∀ c ∈ q.lk, c.core = a.core → a.id ∈ c.stale) ∧
            (g = true → ∀ x ∈ q.l1, x.core = cacheCore a → x.space ≠ .ten)) ∧
      (∀ p q, a.prim = some p → a.sec = some q → p.atHeader = true → q.atHeader = true → p.pt.hdr = q.pt.hdr →
        p.inHandler = false → q.inHandler = false →
        (a.stack = [] →
          (∀ b ∈ s.agents, ∀ k sd h, b.side k = some sd → sd.hold = some h → ∀ x ∈ h.noted, x.1 ≠ a.id) →
          exec (.regang a.id) s = .next ((s.setAgent { a with prim := some (p.merge q), sec := none }).leaveSlot a.id)) ∧
        ∃ t y z, exec (.regang a.id) s = .next t ∧ t.agent? a.id = some y ∧ y.prim = some z ∧ z.pt = ClausePt.at p.pt.hdr ∧
          z.mask &&& (p.mask ||| q.mask) = p.mask ||| q.mask) ∧
      (∀ k sd h, a.side k = some sd → sd.hold = some h → s.holdOver h = true →
        exec (.yieldHoldExpire a.id k) s = .next (s.setAgent (a.setSide k (some { sd with hold := none })))) ∧
      (∀ k sd, a.side k = some sd → 64 ≤ sd.waited →
        exec (.sideStarvationIssue a.id k) s = .next (s.setAgent (a.setSide k (some { sd with starved := true })))) ∧
      (512 ≤ a.waited → exec (.groupMark a.id) s = .next (s.setAgent { a with marked := true })))

/-! ### Events of queues and launches -/

/-- R66, R97, R98, R101 to R104, R106 to R109, R111, R284: an active queue whose TAIL is ahead of HEAD gives its next record;
the sweep, the scan, the timeout and the eviction move a queue from state to state where the MP itself runs the table (RES = 0),
and the sweep faults a queue of any state whose TAIL is out of range; a launch whose turn it is reads its header, starts with
one gang of every stage, or starts the next gang of a stage, each group at the state of R66; a launch or marker that is complete
releases what its VF has stored (R179), makes its write and leaves; the moods of stages follow the occupancy of their channels.
The model's choices in it: where gangs and groups are placed (notes/assumptions/25.md), HEAD at QCREATE and the time since which
a queue is pending (notes/assumptions/28.md), which launch dispatches first (notes/assumptions/61.md), that a slot a receiver
holds is not full (notes/assumptions/73.md), a ring or tail line on a page neither HARD nor UNCACHED (notes/assumptions/78.md)
and the cause 0x12 of the report (notes/assumptions/79.md). -/
def Obligations.QueueAndLaunchEvents : Prop :=
  (∀ (s : State) (pkg n : Nat) (q : Queue) (tl : Nat) (r : List Byte),
      s.queue? pkg n = some q → s.readTail pkg q = .ok tl → q.head ≤ tl → tl ≤ q.head + 2 ^ q.log2n →
      let s1 := (s.tailSent pkg q).modQueue pkg n (fun x => { x with wait := none })
      let becomes (i : Instr) (f : Queue → Queue) : Prop := ∃ t, exec i s = .next t ∧ t.queue? pkg n = some (f q)
      (s.mayFetch pkg q = true → tl ≠ q.head →
        s1.rdVf (s1.whoVf pkg q.vf) q.wait (q.ring + toDW (q.head % 2 ^ q.log2n * 256)) 256 = .ok r →
        s1.queueHeld pkg q = none →
        let l := newLaunch s.nextId pkg q r
        let flight := s.inFlight pkg n
        becomes (.recordFetch pkg n) (fun x => { x with
          head := x.head + 1, wait := none, emptySince := s.aclk, last := if l.marker then x.last else some l.id,
          gate := if flight.length + 1 = 8 then flight.head?.map (fun m => m.id) else none }) ∧
        ∃ t, exec (.recordFetch pkg n) s = .next t ∧ t.launches = s.launches ++ [l]) ∧
      (s.mayFetch pkg q = true → tl = q.head → exec (.recordFetch pkg n) s = .next s1) ∧
      (∀ p, s.pkg? pkg = some p → p.queues = [q] → q.stb = 1 → q.destroying = false → q.wait = none →
        (q.st ≠ .idle ∨ tl = q.head → becomes (.queueSweep pkg) (fun x => x)) ∧
        (q.st = .idle → tl ≠ q.head →
          becomes (.queueSweep pkg) (fun x => { x with
            st := .pending, pendAt := if s.pendingBit pkg q = true then x.bitAt.getD s.aclk else s.aclk })) ∧
        (q.st = .idle → s.pendingBit pkg q = true → p.mp.res = false → p.haOpen 1 n = false → q.vf < 128 →
          0 < (p.vf q.vf).cfg.qslots.toNat →
          becomes (.residencyScan pkg) (fun x => { x with
            st := .resident, pendAt := x.bitAt.getD s.aclk, emptySince := s.aclk }))) ∧
      (∀ p w, s.pkg? pkg = some p → p.mp.res = false → p.haOpen 1 n = false → q.st = .resident →
          q.emptySince + 130000 ≤ s.aclk → p.nextPending q.vf = some w →
        p.spareSlots q.vf = 0 → s.waitOver pkg q.wait = true → tl = q.head →
        becomes (.queueEmptyTimeout pkg n) (fun x => { x with st := .evicting, wait := none })) ∧
      (q.st = .evicting → s.waitOver pkg q.wait = true →
        (tl = q.head → becomes (.evictionComplete pkg n) (fun x => { x with st := .idle, wait := none })) ∧
        (tl ≠ q.head → s1.queueHeld pkg q = none →
          let at_ := if s.pendingBit pkg q = true then q.bitAt.getD s.aclk else s.aclk
          becomes (.evictionComplete pkg n) (fun x => { x with
            st := .pending, pendAt := at_, bitAt := some at_, wait := none })))) ∧
  (∀ (s : State) (pkg n : Nat) (p : Pkg) (q : Queue) (tl : Nat),
      s.queue? pkg n = some q → s.readTail pkg q = .ok tl → tl < q.head ∨ q.head + 2 ^ q.log2n < tl →
      s.pkg? pkg = some p → p.queues = [q] → q.stb = 1 → q.destroying = false → q.wait = none →
      exec (.queueSweep pkg) s =
        .next (((s.tailSent pkg q).modQueue pkg n (fun x => { x with st := .faulted, stb := 2, wait := none })).emit
          (.firmware pkg 0x12 q.vf (toDW n)))) ∧
  (∀ (s : State) (l : Launch), s.launch? l.id = some l → (s.nextLaunch l.pkg).map (fun x => x.id) = some l.id →
      (∀ m, l.phase = .waiting → l.stages = [] → l.depAddr = 0 → s.readHeader l = .ok m →
        (placeAll (fun _ => true) m m.stages 0 ((s.vfCores l.pkg l.vf).map CoreRoom.empty)).isSome = true →
        ∀ i, exec (.gangDispatch l.id i) s = .next ((s.headerSent l).modLaunch l.id (fun _ => m))) ∧
      (∀ ps i, l.phase = .waiting → l.stages ≠ [] → s.startsOn l = some ps →
        exec (.gangDispatch l.id i) s = .next
          (((List.range ps.length).zip ps).foldl (fun s x => s.startGang l x.1 x.2)
            (s.modLaunch l.id (fun l => { l with phase := .running, mark := s.wlog.length })))) ∧
      (∀ i cores, l.phase = .running → s.nextGang l = some (i, cores) →
        exec (.gangDispatch l.id i) s = .next (s.startGang l i cores))) ∧
  (∀ (s : State) (l : Launch) (i : Nat) (st : Stage) (co : List Nat) (k : Crew) (grp : Nat),
      ∃ a, (s.startGroup l i st co k grp).agents = s.agents ++ [a] ∧ a.id = s.nextId ∧ a.crew = k.id ∧ a.grp = grp ∧
        a.prim = some (Side.at (BitVec.allOnes 32) (l.code + st.entry.setWidth 64) l.fmt0) ∧ a.sec = none ∧ a.stack = [] ∧
        a.spair 0 = l.arg ∧ (∀ r, 2 ≤ r → r < 64 → a.sreg r = 0) ∧ (∀ r j, a.vreg r j = 0) ∧
        a.pred 7 = l.shapeMask st co k.idx grp ∧ (∀ p, 0 < p → p < 7 → a.pred p = 0) ∧ ∀ h, a.handle h = .idle) ∧
  (∀ (s : State) (l : Launch) (pa : Nat),
      s.launch? l.id = some l → MemoryWf s → l.wroteErr = false → l.errAddr = 0 → l.records = [] →
      let mine (p : Nat) (z : L1Line) : Bool := p == l.pkg && z.vf == l.vf
      let ends (i : Instr) : Prop :=
        (l.doneAddr = 0 → (∀ k ∈ s.cmds, k.snap = [] ∧ k.snapVa = []) →
          exec i s = .next ((s.l1Clean mine).dropLaunch l)) ∧
        ((∀ p ∈ s.pkgs, ∀ z ∈ p.l1, mine p.num z = true → z.dirty = 0) → l.doneAddr ≠ 0 →
          s.checkAddr (s.whoVf l.pkg l.vf) Kind.store l.doneAddr 8 = .ok (.ctl pa 0) →
          ∃ t, exec i s = .next t ∧ (∀ x ∈ t.launches, x.id ≠ l.id) ∧ Memory.readN t.ctl pa 8 = toLE 8 l.doneVal.toNat ∧
            ∀ a, a < pa ∨ pa + 8 ≤ a → Memory.read t.ctl a = Memory.read s.ctl a)
      (s.mayFinish l = true → ends (.launchComplete l.id)) ∧ (s.markerDone l = true → ends (.markerComplete l.id)) ∧
      ∃ t m, exec (.channelOccupancySample l.id) s = .next t ∧ t.launch? l.id = some m ∧
        ∀ (i : Nat) (st : Stage), l.stages[i]? = some st →
          m.stages[i]? = some (if s.moodOf l i = st.mood ∨ (st.moodAt ≠ 0 ∧ s.aclk < st.moodAt + 8192) then st
            else { st with mood := s.moodOf l i, moodAt := s.aclk }))
/-! ### Events of the Bezel -/

/-- R26, R27, R114 to R129, R131, R272, R273, R281, R298, R299, R488: the registers of a formed package that is not in recovery
take what is written in four bytes or note a refused field, and one that does not answer yet asks to retry; a frame start takes
the pending configuration and swaps a bank without violation; a slot edge aims its partition at the VF of the entry, which
drains, saves and restores, each once nothing of the partition is on its way but for the VF its engines serve, with an overrun
charged to an edge or a yield only; the engines pass on where no other VF's command runs, and a new aim takes them back from any
other VF; an idle VF yields and banks what of its slot it had and did not use; a pre-emption restores the same owner, whose run
goes on; EN starts and stops the slots, and at the edge it brings about a partition whose entry names no VF stays as it is; the
buckets gain within their bounds. That a switch is checked against the configuration the same frame start brings into force is
the model's choice (notes/assumptions/76.md), and so are the retry of a request that comes too early (51.md), that a restore
within LEAD of the next edge enters RUN, and that a LEAD whose edge keeps the owner goes back to RUN when that edge was due
(85.md). -/
def Obligations.PartitionEvents : Prop :=
  (∀ (s : State) (pkg : Nat) (p : Pkg) (bs : List Byte) (w : Window) (win : Nat), s.pkg? pkg = some p →
      p.answers = false → exec (.configRegisterWrite pkg w win bs) s = .next (s.emit (.retry pkg (windowPort w))) ∧
        exec (.sltSwapRequest pkg) s = .next (s.modPkg pkg (fun _ => p))) ∧
  (∀ (s : State) (pkg : Nat) (p : Pkg) (bs : List Byte) (w : Window) (win port k : Nat), s.pkg? pkg = some p →
      p.formed = true → p.recovery = false →
      let v : W := BitVec.ofNat 32 (leNat bs)
      let put (q : Pkg) : State := s.modPkg pkg (fun _ => q)
      let refused : Pkg := { p with slt := { p.slt with cfgerr := true } }
      let n := v.toNat % 2 ^ 24
      let l := v.toNat % 2 ^ 21
      (2032 ≤ n → n ≤ 2031250 → 2 * p.slt.pLead.toNat ≤ n → exec (.sltFrameWrite pkg v) s =
        .next (put { p with slt := { p.slt with pSlotlen := BitVec.ofNat 24 n } })) ∧
      (n < 2032 ∨ 2031250 < n ∨ n < 2 * p.slt.pLead.toNat → exec (.sltFrameWrite pkg v) s = .next (put refused)) ∧
      (2 * l ≤ p.slt.pSlotlen.toNat → exec (.sltLeadWrite pkg v) s =
        .next (put { p with slt := { p.slt with pLead := BitVec.ofNat 21 l } })) ∧
      (p.slt.pSlotlen.toNat < 2 * l → exec (.sltLeadWrite pkg v) s = .next (put refused)) ∧
      exec (.sltSwapRequest pkg) s = .next (put { p with slt := { p.slt with swap := true } }) ∧
      (bs.length ≠ 4 → exec (.configRegisterWrite pkg w win bs) s = .next s) ∧
      (bs.length = 4 → 600 ≤ v.toNat % 2 ^ 12 → v.toNat % 2 ^ 12 ≤ 2400 →
        exec (.configRegisterWrite pkg (.pf port) 0x200 bs) s =
          .next (put { p with mp := { p.mp with watts := BitVec.ofNat 12 v.toNat } })) ∧
      (bs.length = 4 → v.toNat % 2 ^ 12 < 600 ∨ 2400 < v.toNat % 2 ^ 12 →
        exec (.configRegisterWrite pkg (.pf port) 0x200 bs) s = .next (put refused)) ∧
      (bs.length = 4 → k < 128 → exec (.configRegisterWrite pkg (.vf k) 0 bs) s =
        .next (put (p.setVf k { p.vf k with demoted := (p.vf k).demoted && !v.getLsbD 0,
                                            cancelled := (p.vf k).cancelled && !v.getLsbD 1 }))) ∧
      (bs.length = 4 → win % 4 ≠ 0 → exec (.configRegisterWrite pkg (.pf port) win bs) s = .next (put p)) ∧
      (p.slt.en = false → exec (.sltEnable pkg) s =
        .next (put { p with slt := { p.slt with en := true, slot := 0, frameAt := s.aclk + 1, enAt := s.aclk + 1 } })) ∧
      (p.slt.en = true → ∃ t q, exec (.sltDisable pkg) s = .next t ∧ t.pkg? pkg = some q ∧ q.slt.en = false ∧
        ∀ i, i < 64 → (q.part i).slackOf = none ∧
          ((p.part i).phase = .idle → (q.part i).phase = .idle) ∧
          ((p.part i).phase = .run → (p.part i).owner ≠ none →
            (q.part i).phase = .drain ∧ (q.part i).incoming = none ∧ (q.part i).owner = (p.part i).owner) ∧
          ((p.part i).phase = .restore → (q.part i).phase = .save ∧ (q.part i).incoming = none)) ∧
      (p.slt.en = true →
        let up (x : Vf) : Vf := { x with cfg := x.pend, overruns := 0 }
        let p1 := { p with vfs := p.vfs.map up, slt := { p.slt with
          slotlen := p.slt.pSlotlen, lead := p.slt.pLead, dmax := p.slt.pDmax, slot := 0, frameAt := s.aclk } }
        (p.slt.swap = false → exec (.frameStart pkg) s = .next (put p1)) ∧
        (p.slt.swap = true → p1.badBank (p1.slt.bank (!p1.slt.active)) = none → exec (.frameStart pkg) s =
          .next (put { p1 with slt := { p1.slt with swap := false, active := !p.slt.active } })) ∧
        (∀ a b, p.slt.swap = true → p1.badBank (p1.slt.bank (!p1.slt.active)) = some (a, b) →
          exec (.frameStart pkg) s = .next (put { p1 with slt := { p1.slt with
            swap := false, swaperr := true, errslot := BitVec.ofNat 6 a, errpart := BitVec.ofNat 6 b } }))) ∧
      (let gain (x : Nat) (g : Int) : Int := (max 4 x : Nat) * g
       let full (b g : Int) : Int := min (2 * g) (max b (-8 * g) + g)
       (∃ t q, exec (.linkBucketRefill pkg) s = .next t ∧ t.pkg? pkg = some q ∧ ∀ w j, w < 128 → j < 18 →
          (q.vf w).linkBucket[j]? =
            ((p.vf w).linkBucket[j]?).map (fun b => full b (gain (p.vf w).cfg.linksh.toNat 3500))) ∧
       ∃ t q, exec (.hbmBucketRefill pkg) s = .next t ∧ t.pkg? pkg = some q ∧ ∀ w, w < 128 →
          (q.vf w).hbmBucket = full (p.vf w).hbmBucket
            (gain (p.vf w).cfg.hbmsh.toNat (p.channelGroups (p.vf w).partNum * 6250)))) ∧
  (∀ (s : State) (pkg part : Nat) (p : Pkg), s.pkg? pkg = some p → part < 64 →
      let q := p.part part
      let now := p.slt.entry (p.slt.slotNow s.aclk) part
      let after := p.slt.entry ((p.slt.slotNow s.aclk + 1) % 64) part
      let n := s.aclk - q.edgeAt
      (p.leadsMid part s.aclk = false → p.slt.slotNow s.aclk ≠ 63 → after < 128 → (p.vf after).owed = 0 →
        s.ownerAhead p part = some after) ∧
      (q.phase = .run → q.owner ≠ s.ownerAhead p part →
        exec (.slotLeadStart pkg part) s = .next (s.modPart pkg part (fun x =>
          { x with phase := .lead, leadTo := s.aclk + p.slt.lead.toNat }))) ∧
      (p.slt.en = true → (p.setRow part).en = true → p.slt.slotlen ≠ 0 → (s.aclk - p.slt.frameAt) % p.slt.slotlen.toNat = 0 →
        128 ≤ now → s.aclk = p.slt.enAt → ∃ t r, exec (.slotEdge pkg part) s = .next t ∧ t.pkg? pkg = some r ∧
          (r.part part).phase = q.phase ∧ (r.part part).owner = q.owner ∧ (r.part part).incoming = q.incoming) ∧
      (p.slt.en = true → (p.setRow part).en = true → p.slt.slotlen ≠ 0 → (s.aclk - p.slt.frameAt) % p.slt.slotlen.toNat = 0 →
        now < 128 → (p.vf now).owed = 0 → q.slackOf = none → p.moves part = false → q.held = false →
        ∃ t r, exec (.slotEdge pkg part) s = .next t ∧ t.pkg? pkg = some r ∧
          (q.phase = .run ∨ q.phase = .lead → q.owner ≠ some now →
            (r.part part).phase = .drain ∧ (r.part part).incoming = some now ∧ (r.part part).owner = q.owner ∧
            (r.part part).edgeAt = s.aclk) ∧
          (q.phase = .run ∨ q.phase = .lead → q.owner = some now →
            (r.part part).phase = (if q.leadTo ≤ s.aclk then .run else q.phase)) ∧
          (q.phase = .idle → (r.part part).phase = .restore ∧ (r.part part).incoming = some now)) ∧
      (q.phase = .drain → s.partQuiet pkg part = true →
        exec (.drainDone pkg part) s = .next (s.modPart pkg part (fun x => { x with phase := .save }))) ∧
      (∀ at_, p.slt.en = true → p.slt.frameAt ≤ at_ → (p.slotAt at_).slt.slot = BitVec.ofNat 6 (p.slt.slotNow at_)) ∧
      (∀ v w, q.owner = some v → q.incoming = some w → q.phase = .drain ∨ q.phase = .save → v ≠ w → q.ce = none →
        (∀ c ∈ s.cmds, c.pkg = pkg → c.phase = .running → c.vf < 128 → p.inPart part c.vf = true → c.vf = w) →
        exec (.ceHandover pkg part) s =
          .next ((s.modPart pkg part (fun x => { x with ce := some w })).resumeCmds pkg w)) ∧
      (∀ v, q.phase = .save → s.partQuiet pkg part = true → q.owner = some v → v < 128 →
        ∃ t r, exec (.saveDone pkg part) s = .next t ∧ t.pkg? pkg = some r ∧ (r.part part).owner = none ∧
          (r.part part).phase = (if q.incoming.isSome then .restore else .idle) ∧
          ((q.cause ≠ .edge ∧ q.cause ≠ .yield_) ∨ n ≤ p.slt.dmax.toNat →
            (r.vf v).owed = (p.vf v).owed ∧
            ∀ a, s.agent? a.id = some a → a.cc = none → a.pkg = pkg → a.vf = v →
              ∃ b, t.agent? a.id = some b ∧ b = { a with saved := true }) ∧
          (q.cause = .edge ∨ q.cause = .yield_ → p.slt.dmax.toNat < n →
            (r.vf v).owed = (p.vf v).owed + (n - p.slt.dmax.toNat) ∧ (r.vf v).overruns = (p.vf v).overruns + 1 ∧
            ((p.vf v).overruns + 1 = 3 → (r.vf v).cancelled = true))) ∧
      (∀ v, q.phase = .restore → s.partQuiet pkg part = true → q.incoming = some v → (q.cause = .peer → s.promoting = []) →
        let same : Bool := q.cause = .preempt || q.cause = .peer
        exec (.restoreDone pkg part) s = .next ((s.modPart pkg part (fun x =>
          { x with phase := .run, owner := some v, incoming := none, ce := some v, idleFrom := s.aclk,
                   busy := if same then x.busy else (x.cause = .move || x.cause = .migrate),
                   runFrom := if same then x.runFrom else s.aclk })).restoreVf pkg v)) ∧
      (∀ v, p.idleOwner part s.aclk = some v → s.runnable pkg v = false → v < 128 → p.moves part = false → q.held = false →
        let d := (p.vf v).cfg.donee.toNat
        ∃ t r, exec (.vfIdleYield pkg part) s = .next t ∧ t.pkg? pkg = some r ∧
          (d < 128 → d ≠ v → (p.vf d).enabled = true → (p.vf d).partNum = part → s.runnable pkg d = true →
            (r.part part).phase = .drain ∧ (r.part part).incoming = some d) ∧
          (128 ≤ d → s.slackVf p part (some v) = none → (r.part part).phase = .drain ∧ (r.part part).incoming = none) ∧
          let len := p.slt.slotlen.toNat
          let used := if q.busy then (if len = 0 then 0 else (s.aclk - p.slt.frameAt) % len) else q.late
          (r.vf v).banked = BitVec.ofNat 24 (min ((p.vf v).cfg.bank.toNat * len) ((p.vf v).banked.toNat + (len - used)))) ∧
      (∀ inc cause now, (q.phase = .drain ∨ q.phase = .save) → (q.aim inc cause now).ce = if q.ce = inc then q.ce else none) ∧
      (q.phase = .run → exec (.preemptRequest pkg part) s = .next (s.modPart pkg part (fun x =>
        { x with phase := .drain, incoming := x.owner, cause := .preempt, edgeAt := s.aclk, ce := none }))))
/-! ### Events of translation, coherence and the host -/

/-- R102, R157 to R159, R186, R189 to R191, R193, R195, R266, R285: the answers of the page-fault service; a return copy that
has resolved writes its page's leaf, INVALID where it failed; a transition that flips leaves the leaf with its new state and no
copy or translation of the page, and the next transition of the page starts; directory regions merge where both halves are
there; clusters sleep without copies and wake; a copy that leaves writes its dirty bytes home unless a SNAP copy holds them;
the host reads and writes control memory, a write of a pending word being an OR, and waits where a line is held or its port's
posted write waits. The model's choices in it: which copies leave and when (notes/assumptions/11.md, 58.md) and the order in
which held host accesses go on (notes/assumptions/52.md). -/
def Obligations.TranslationAndHostEvents : Prop :=
  (∀ (s : State) (pkg req at_ : Nat) (e : DW) (p : Pkg), s.pkg? pkg = some p → p.openFault req = true → MemoryWf s →
      (at_ % 8 = 0 → s.ctlPaOk at_ = true →
        ∃ t q, exec (.pageFaultServiced pkg req at_ e) s = .next t ∧ t.pkg? pkg = some q ∧
          q.faults = p.faults.filter (fun f => f.id != req) ∧ Memory.readN t.ctl at_ 8 = toLE 8 e.toNat ∧
          ∀ a, a < at_ ∨ at_ + 8 ≤ a → Memory.read t.ctl a = Memory.read s.ctl a) ∧
      exec (.pageFaultUnresolvable pkg req) s = .next (s.modPkg pkg (fun q => { q with
        faults := q.faults.map (fun f => if f.id == req then { f with failed := true } else f) }))) ∧
  (∀ (s : State) (pkg idx : Nat) (x : Transit) (st : W), MemoryWf s → s.transitFind pkg idx = some x →
      s.transitStatus x = some st →
      let e : DW := if st.getLsbD 1 then x.leaf &&& 0xFFFFFFFFFFFFFFFC else x.leaf
      ∃ t q, exec (.transitCopyResolve pkg idx) s = .next t ∧ t.pkg? pkg = some q ∧ (∀ y ∈ q.transit, y.idx ≠ idx) ∧
        Memory.readN t.ctl x.leafAt 8 = toLE 8 e.toNat ∧
        ∀ a, a < x.leafAt ∨ x.leafAt + 8 ≤ a → Memory.read t.ctl a = Memory.read s.ctl a) ∧
  (∀ (s : State) (tr : CohTr), MemoryWf s → tr ∈ s.cohTrs → tr.host = false → tr.queued = false →
      s.cohTrs.find? (fun x => x.id == tr.id && !x.host && !x.queued) = some tr → (∀ x ∈ s.cohTrs, x.queued = false) →
      let e := toDW (leNat (Memory.readN (s.recall .ctl tr.page tr.size).ctl tr.leafAt 8))
      ∃ t, exec (.cohTransitionFlip tr.id) s = .next t ∧ (∀ x ∈ t.cohTrs, x.id ≠ tr.id) ∧
        Memory.readN t.ctl tr.leafAt 8 = toLE 8 ((e &&& ~~~(0x30 : DW)) ||| toDW (16 * tr.new)).toNat ∧
        (∀ p ∈ t.pkgs, (∀ l ∈ p.l1, l.space = .ctl → ¬(tr.page ≤ 128 * l.line ∧ 128 * l.line < tr.page + tr.size)) ∧
          (∀ c ∈ p.hard, ¬(tr.page ≤ 128 * c.line ∧ 128 * c.line < tr.page + tr.size)) ∧
          ∀ y ∈ p.tlb, vaSpace y.va = .ctl → leafPa y.leaf ≠ tr.page) ∧
        ∀ a sd, s.agent? tr.agent = some a → a.side tr.slot = some sd →
          (t.agent? tr.agent).bind (fun b => b.side tr.slot) = some (sd.retired tr.len)) ∧
  (∀ (s : State) (tr x : CohTr) (p : Pkg), MemoryWf s → s.cohTrs = [tr, x] → tr.host = false → tr.queued = false →
      x.queued = true → x.id ≠ tr.id → x.leafAt = tr.leafAt → s.pkg? x.pkg = some p → p.mp.coh = false → tr.new < 4 →
      x.new ≠ tr.new →
      ∃ t, exec (.cohTransitionFlip tr.id) s = .next t ∧ t.cohTrs = [{ x with queued := false, old := tr.new, host := false }]) ∧
  (∀ (s : State) (pkg base size : Nat) (p : Pkg) (u : DirUnit), s.pkg? pkg = some p → u ∈ p.dirUnits → u.base = base →
      u.size = size → u.quietFrom + 2 ^ p.mp.log2q.toNat ≤ s.aclk →
      (∃ x ∈ p.dirUnits, x.size = size ∧ x.base ≠ base ∧ x.base / (2 * size) = base / (2 * size)) →
      let big : List DirUnit :=
        if 2 * size < 65536 then [{ base := base / (2 * size) * (2 * size), size := 2 * size, quietFrom := s.aclk }] else []
      let other (x : DirUnit) : Bool := !(x.base / (2 * size) == base / (2 * size) && x.size == size)
      exec (.dirRegionMerge pkg base size) s =
        .next (s.modPkg pkg (fun q => { q with dirUnits := big ++ q.dirUnits.filter other }))) ∧
  (∀ (s : State) (pkg base size : Nat) (p : Pkg), s.pkg? pkg = some p →
      (∀ u ∈ p.dirUnits, u.base = base → u.size = size → s.aclk < u.quietFrom + 2 ^ p.mp.log2q.toNat ∨
        ∀ x ∈ p.dirUnits, x.size = size → x.base = base ∨ x.base / (2 * size) ≠ base / (2 * size)) →
      exec (.dirRegionMerge pkg base size) s = .next (s.modPkg pkg (fun q => q))) ∧
  (∀ (s : State) (pkg cluster core line : Nat) (p : Pkg), s.pkg? pkg = some p →
      ((∀ a ∈ s.agents, a.pkg = pkg → a.cc = none → a.core / 4 ≠ cluster) →
        ∃ t q, exec (.clusterSleep pkg cluster) s = .next t ∧ t.pkg? pkg = some q ∧ cluster ∈ q.asleep ∧
          (∀ l ∈ q.l1, l.core / 4 ≠ cluster) ∧ ∀ c ∈ q.hard, c.core / 4 ≠ cluster) ∧
      exec (.clusterWake pkg cluster) s = .next (s.modPkg pkg (fun q =>
        { q with asleep := q.asleep.filter (fun k => k != cluster) })) ∧
      (∃ t q, exec (.lineEviction pkg core true line) s = .next t ∧ t.pkg? pkg = some q ∧ SameBytes s t ∧
        q.l1Find core .ten line = none) ∧
      (s.evictHeld pkg core .ctl line = true → exec (.lineEviction pkg core false line) s = .next s) ∧
      (MemoryWf s → s.evictHeld pkg core .ctl line = false →
        ∃ t q, exec (.lineEviction pkg core false line) s = .next t ∧ t.pkg? pkg = some q ∧
        q.l1Find core .ctl line = none ∧ (∀ c ∈ q.hard, ¬(c.core = core ∧ c.line = line)) ∧
        ∀ x, p.l1Find core .ctl line = some x → ∀ i, i < 128 →
          Memory.read t.ctl (128 * line + i) =
            if x.dirty.getLsbD i then x.bytes.getD i 0 else Memory.read s.ctl (128 * line + i))) ∧
  (∀ (s : State) (pkg port addr len : Nat) (bs : List Byte), port < 2 → s.offers pkg = true →
      let clear : Prop := ∀ x ∈ s.hostQ, x.pkg = pkg → x.port = port → x.write = false
      let wr : HostReq := { pkg := pkg, port := port, write := true, addr := addr, bytes := bs, len := 0 }
      let rd : HostReq := { pkg := pkg, port := port, write := false, addr := addr, bytes := [], len := len }
      (s.ctlRangeOk addr bs.length = true → (∃ l ∈ linesOf addr bs.length, s.hostHeld (128 * l) true = true) →
        exec (.hostMemoryWrite pkg port addr bs) s = .next { s with hostQ := s.hostQ ++ [wr] }) ∧
      (s.ctlRangeOk addr len = true → (∃ x ∈ s.hostQ, x.pkg = pkg ∧ x.port = port ∧ x.write = true) →
        exec (.hostMemoryRead pkg port addr len) s = .next { s with hostQ := s.hostQ ++ [rd] }) ∧
      (s.hostQ = [wr] → (∀ l ∈ linesOf addr bs.length, s.hostHeld (128 * l) true = false) →
        s.dueHostQ = some (.next ({ s with hostQ := [] }.hostDo wr))) ∧
      (MemoryWf s → s.ctlRangeOk addr bs.length = true → clear →
        (∀ l ∈ linesOf addr bs.length, s.hostHeld (128 * l) true = false) →
        ∃ t, exec (.hostMemoryWrite pkg port addr bs) s = .next t ∧
          (∀ i, i < bs.length → Memory.read t.ctl (addr + i) =
            if s.inPending (addr + i) then Memory.read s.ctl (addr + i) ||| bs.getD i 0 else bs.getD i 0) ∧
          ∀ a, a < addr ∨ addr + bs.length ≤ a → Memory.read t.ctl a = Memory.read s.ctl a) ∧
      (s.ctlRangeOk addr len = true → clear → (∀ l ∈ linesOf addr len, s.hostHeld (128 * l) false = false) →
        ∃ t, exec (.hostMemoryRead pkg port addr len) s = .next t ∧ SameBytes s t ∧
          t.out = .readData pkg port (s.homeRead .ctl addr len) :: s.out))
/-! ### Events of the MP -/

/-- R163, R274, R276, R282 to R288, R292, R296, R298, R299: the mailbox commands end with their result: a queue is created idle
with the lowest free number where its ring and tail line can be read, a destroyed one is disabled once nothing of it is in
flight, a VF joins a tenant, an accepted setting table takes effect when its partitions are quiet, an event is completed with a
RESULT that the request may have, a peer is noted as lost, an image that verifies is staged; HSEM is taken by the read that
returns 0, released by its holder and broken after its time, and within one aclk a release comes first and HP0's read before
HP1's; an event is written to the ring of the port that holds HSEM, and a request that the host leaves too long falls back to
hardware; a control core's block is submitted after a release; each SPDM request is answered, out of its place with ERROR. In
recovery only the mailbox answers, and before step 6 of its bring-up a package asks to retry. A command that fails for a reason
whose result R285 does not name ends with one of its results for errors, a free value. The model's choices in it: the
SPDM codes and bytes (notes/assumptions/17.md), the numbers of instances (20.md), a PARTMOVE for the host (31.md), the result
codes (44.md), the release at a submission (74.md), a RESULT that no request may have (83.md) and a ring on an INVALID leaf
(84.md), all in notes/assumptions. -/
def Obligations.MpEvents : Prop :=
  (∀ (s : State) (pkg : Nat) (win : Window) (p : Pkg), s.pkg? pkg = some p →
      let c := (p.mbx win).cmd
      let done (u : State) (res : Nat) (out : List Nat) : State := u.mbxDone pkg win res out
      let fails (i : Instr) : Prop := ∃ f res, res ∈ [0x02, 0x06, 0x12] ∧ exec i s = .next (done { s with free := f } res [])
      (p.mbxGo win 1 = true → p.recovery = false →
        let v := blkU c 0x1A 1
        let zero : Prop := ∀ i, i < 12 → blkU c (0x1C + i) 1 = 0
        let bad : Prop := queueMalformed c = true ∨ ∃ k, win = .vf k ∧ k ≠ v
        let there : Prop := v < 128 ∧ (p.vf v).enabled = true
        (¬zero → exec (.qcreate pkg win) s = .next (done s 0x02 [])) ∧
        (zero → bad ∨ ¬there ∨ s.queueReads pkg v c = false ∨ p.freeQueue = none → ∃ f res,
          exec (.qcreate pkg win) s = .next (done { s with free := f } res []) ∧ res ∈ [0x02, 0x06, 0x12] ∧
          (¬bad → (res = 0x12 ∧ (¬there ∨ p.freeQueue = none)) ∨ (res = 0x06 ∧ there ∧ s.queueReads pkg v c = false))) ∧
        (∀ n, zero → ¬bad → there → s.queueReads pkg v c = true → p.freeQueue = some n →
          let q := newQueue pkg n s.aclk c
          exec (.qcreate pkg win) s = .next (done (s.modPkg pkg (fun r =>
            { r with queues := r.queues.filter (fun x => x.num != n) ++ [q] })) 0
            [n, q.pbit, q.pword.toNat % 2 ^ 32, q.pword.toNat / 2 ^ 32]))) ∧
      (∀ q, p.mbxGo win 2 = true → p.recovery = false → s.queue? pkg (blkU c 8 2) = some q → q.st ≠ .disabled →
        (∀ k, win = .vf k → q.vf = k) →
        ∃ t, exec (.qdestroy pkg win) s = .next t ∧ t.queue? pkg (blkU c 8 2) =
          some (if s.inFlight pkg (blkU c 8 2) = [] then { q with st := .disabled, stb := 0, destroying := false, wait := none }
                else { q with destroying := true })) ∧
      (p.mbxGo win 3 = true → p.recovery = false → blkU c 0x0A 1 < 128 →
        exec (.vfjoin pkg win) s = .next (done ((s.modVf pkg (blkU c 0x0A 1) (fun f =>
          { f with tenant := BitVec.ofNat 16 (blkU c 8 2) })).agree pkg) 0 [])) ∧
      (p.mbxGo win 3 = true → p.recovery = false → 128 ≤ blkU c 0x0A 1 → fails (.vfjoin pkg win)) ∧
      (p.mbxGo win 6 = true → p.recovery = false → 512 ≤ blkU c 8 2 → fails (.peerdown pkg win)) ∧
      (p.mbxGo win 4 = true → p.recovery = false → p.move = none → p.mp.pmv = false → blkU c 8 8 % 4 = 0 →
        let image := Memory.readN s.host (blkU c 8 8) 2048
        let rows : Vector SetRow 64 := Vector.ofFn (fun i : Fin 64 => setRowOf image i.val)
        let reads := Config.hostRange (blkU c 8 8) 2048
        (reads = false → exec (.partmove pkg win) s = .next (done s 0x06 [])) ∧
        (reads = true → setRefused p.boot.harvest rows = true →
          exec (.partmove pkg win) s = .next (done s 0x12 [])) ∧
        (reads = true → setRefused p.boot.harvest rows = false → p.slt.en = false →
          (∀ i ∈ p.changed rows, (p.part i).phase = .idle ∧
            ((p.setRow i).size = 0 ∨ (rows[i]?.map (fun r => r.hbm)) = some (p.setRow i).hbm)) →
          ∃ t q, exec (.partmove pkg win) s = .next t ∧ t.pkg? pkg = some q ∧ q.sets = rows ∧ q.move = none ∧
            (q.mbx win).go = false ∧ (q.mbx win).res = 0)) ∧
      (p.mbxGo win 5 = true → p.recovery = false →
        let named (r : HaReq) : Bool := r.posted == some (p.pfMbx.port, BitVec.ofNat 32 (blkU c 8 4))
        (p.haReqs.find? named = none → exec (.hacomp pkg win) s = .next (done s 0x17 [])) ∧
        (∀ r, p.haReqs.find? named = some r → haResultOk r.func (blkU c 0x0C 1) = false → fails (.hacomp pkg win)) ∧
        (∀ r, p.haReqs.find? named = some r → r.func = 0 → blkU c 0x0C 1 = 0 →
          ∃ t q, exec (.hacomp pkg win) s = .next t ∧ t.pkg? pkg = some q ∧
            q.haReqs = p.haReqs.filter (fun x => !(x.func == 0 && x.ref_ == r.ref_)) ∧
            q.faults = p.faults.filter (fun f => f.id != r.ref_) ∧ (q.mbx win).go = false ∧ (q.mbx win).res = 0)) ∧
      (p.mbxGo win 6 = true → p.recovery = false → blkU c 8 2 < 512 → p.mp.plr = false → blkU c 8 2 ≠ pkg →
        (s.pkg? (blkU c 8 2)).isSome = true → p.haOpen 4 (blkU c 8 2) = false → s.detected.contains (pkg, blkU c 8 2) = false →
        exec (.peerdown pkg win) s = .next (done { s with detected := s.detected ++ [(pkg, blkU c 8 2)] } 0 [])) ∧
      (p.mbxGo win 7 = true →
        let image := Memory.readN s.host (blkU c 8 8) (blkU c 0x10 4)
        let reads := Config.hostRange (blkU c 8 8) (blkU c 0x10 4)
        (reads = false → exec (.fwload pkg win) s = .next (done s 0x06 [])) ∧
        (reads = true → Config.verifies image = true → exec (.fwload pkg win) s = .next (done (s.modPkg pkg (fun q =>
          { q with boot := { q.boot with staged := some image } })) 0 [])) ∧
        (reads = true → Config.verifies image = false → exec (.fwload pkg win) s = .next (done s 0x12 []))) ∧
      (p.recovery = true → p.mbxGo win 1 = true → fails (.qcreate pkg win))) ∧
  (∀ (s : State) (pkg port : Nat) (p : Pkg), s.pkg? pkg = some p → port < 2 →
      let hsem (q : Pkg) (h : Hsem) : Pkg := { q with hsem := h }
      let early : Prop := p.formed = false ∧ p.recovery = false
      let on : Prop := p.formed = true ∧ p.recovery = false
      (early → exec (.hsemAcquire pkg port) s = .next (s.emit (.retry pkg port)) ∧
        exec (.hsemRelease pkg port) s = .next (s.emit (.retry pkg port))) ∧
      (p.recovery = true → exec (.hsemAcquire pkg port) s = .next s ∧ exec (.hsemRelease pkg port) s = .next s) ∧
      (on → p.hsem.holder = 0 → exec (.hsemAcquire pkg port) s = .next ((s.modPkg pkg (fun q =>
        hsem q { p.hsem with holder := port + 1, since := s.aclk })).emit (.readData pkg port (toLE 4 0)))) ∧
      (on → p.hsem.holder = 1 ∨ p.hsem.holder = 2 → exec (.hsemAcquire pkg port) s =
        .next ((s.modPkg pkg (fun q => q)).emit (.readData pkg port (toLE 4 (1 + 2 * p.hsem.holder))))) ∧
      (on → p.hsem.holder = port + 1 → exec (.hsemRelease pkg port) s = .next (s.modPkg pkg (fun q =>
        hsem q { p.hsem with holder := 0 }))) ∧
      (on → p.hsem.holder ≠ port + 1 → exec (.hsemRelease pkg port) s = .next (s.modPkg pkg (fun q => q))) ∧
      step { s with agenda := [.event (.hsemAcquire pkg 1), .event (.hsemAcquire pkg 0)] } =
        exec (.hsemAcquire pkg 0) { s with agenda := [.event (.hsemAcquire pkg 1)] } ∧
      step { s with agenda := [.event (.hsemAcquire pkg 0), .event (.hsemRelease pkg port)] } =
        exec (.hsemRelease pkg port) { s with agenda := [.event (.hsemAcquire pkg 0)] } ∧
      (p.hsem.holder = port + 1 → p.hsem.since + 1300000 * p.hsem.tmo.toNat < s.aclk →
        exec (.hsemTimeout pkg) s = .next (s.modPkg pkg (fun q => hsem q { p.hsem with
          holder := 0, broken0 := p.hsem.broken0 || port == 0, broken1 := p.hsem.broken1 || port == 1 }))) ∧
      (∀ r, MemoryWf s → p.haNext = some r →
        let k := if p.hsem.holder = 2 then 1 else 0
        let h := p.ha[k]?.getD HaRing.reset
        let at_ := (h.base.toNat + 64 * (h.head.toNat % 2 ^ h.log2n.toNat)) % 2 ^ 64
        h.log2n ≠ 0 → (h.head - h.tail).toNat < 2 ^ h.log2n.toNat →
        ∃ t q, exec (.haEventWrite pkg) s = .next t ∧ t.pkg? pkg = some q ∧ Memory.readN t.host at_ 64 = r.bytes h.nextEv ∧
          q.ha[k]? = some { h with head := h.head + 1, nextEv := nextEvno h.nextEv } ∧ t.out = .msix pkg k 0 :: s.out) ∧
      (∀ r, p.haReqs.find? (fun r => r.late s.aclk) = some r → r.func = 0 →
        ∃ t q, exec (.haTimeout pkg) s = .next t ∧ t.pkg? pkg = some q ∧ q.mp.fallback = true ∧
          q.haReqs = p.haReqs.filter (fun x => !(x.func == 0 && x.ref_ == r.ref_)) ∧
          ∀ f ∈ q.faults, f.id = r.ref_ → f.host = false)) ∧
  (∀ (s s2 : State) (pkg core : Nat) (hi : W) (p : Pkg) (x : XeSub) (a : Agent) (tg : Target),
      s.pkg? pkg = some p → p.xeSub[core]? = some x →
      s.agents.find? (fun y => y.pkg == pkg && y.isCc && y.core == core) = some a → s.agent? a.id = some a →
      let va := pairVal x.subLo hi
      let n := s.freshInst.1
      let s0 := s.freshInst.2
      let c : Cmd := { (s0.newCmd a 0 n .coll va []) with staddr := some (pairVal x.stLo x.stHi) }
      let s1 := (s0.modAgent a.id (fun y => { y with cc := y.cc.map (fun q => { q with subs := q.subs ++ [n] }) })).enqueue c
      let b := s2.homeGet tg 128
      let u := s2.blockSent { s1.whoCmd c with supervisor := false } va b
      let d : Cmd := { c with blk := b, mark := u.wlog.length }
      (va.toNat % 128 ≠ 0 → s1.release pkg (cacheCore a) = (none, s2) →
        exec (.xeSubSubmit pkg core hi) s = .next (s2.subFail c Cause.misaligned)) ∧
      (va.toNat % 128 = 0 → s1.release pkg (cacheCore a) = (none, s2) →
        s2.checkAddr { s2.whoCmd c with supervisor := false } Kind.load va 128 = .ok tg →
        u.targetPoisoned tg 128 = false → subKind b = some .coll → u.blkOk (u.whoCmd c) .coll b = true →
        (∀ y ∈ u.collPeers d, y.phase ≠ .dead → collMyidx y.blk ≠ collMyidx b) →
        exec (.xeSubSubmit pkg core hi) s =
          .next { u with cmds := u.cmds.filter (fun y => y.inst != n) ++ [d] })) ∧
  (∀ (s : State) (pkg port index : Nat) (nonce : List Byte) (p : Pkg), s.pkg? pkg = some p → port < 2 →
      let chain := Config.certChain p.boot.serial
      let at_ := p.spdm[port]?.getD 0
      let error (bs : List Byte) : Host.Outcome State Fault Refusal := .next (s.emit (.spdm pkg port 0x7F bs))
      let answers (i : Instr) (code : Nat) (need : Prop) (stage : Nat) (bs : List Byte) : Prop :=
        (p.recovery = true → exec i s = .next s) ∧
        (p.formed = false → p.recovery = false → exec i s = .next (s.emit (.retry pkg port))) ∧
        (p.formed = true → p.recovery = false → ¬need → exec i s = error [0x04, 0x00]) ∧
        (p.formed = true → p.recovery = false → need → ∃ t q, exec i s = .next t ∧ t.out = .spdm pkg port code bs :: s.out ∧
          t.pkg? pkg = some q ∧ q.spdm[port]? = some stage)
      answers (.spdmGetVersion pkg port) 0x04 True 1 [0x13] ∧
      answers (.spdmGetCapabilities pkg port) 0x61 (at_ = 1) 2 (0x13 :: toLE 4 0x16) ∧
      answers (.spdmNegotiateAlgorithms pkg port) 0x63 (at_ = 2) 3 (toLE 4 0x100 ++ toLE 4 4) ∧
      answers (.spdmGetDigests pkg port) 0x01 (at_ = 3) 3 (Config.digest chain) ∧
      answers (.spdmGetCertificate pkg port) 0x02 (at_ = 3) 3 chain ∧
      answers (.spdmChallenge pkg port nonce) 0x03 (at_ = 3) 3 (Config.digest chain ++ p.sign (nonce ++ Config.digest chain)) ∧
      (∀ m, p.measurement index = some m →
        answers (.spdmGetMeasurements pkg port index nonce) 0x60 (at_ = 3) 3 (m ++ p.sign (nonce ++ m))) ∧
      (p.measurement index = none → p.formed = true → p.recovery = false → at_ = 3 →
        exec (.spdmGetMeasurements pkg port index nonce) s = error [0x01, 0x00]))
/-! ### Events of the fabric, of errors and of power -/

/-- R27, R116, R220, R277, R279, R289 to R293, R297 to R300: what goes from one package to another goes in flits on its virtual
channel, and what is written to a control line goes on from its home to its mirror (R194); links note good flits and failures,
keep in a replay buffer what the far end has not accepted, give back the credit of what they take and go down at both ends when
silent; a flit waits that might overtake an earlier one of its channel, source and destination, and a dropped chunk stops its
command there with ENGINE_FAULT; packages whose image verifies form a domain in the order of their serial numbers, of those that
join or change their number nothing stays, and their control cores start; the survivors agree on a lost peer, their partitions
are quiesced and its home goes to its mirror, to which what was on its way to the lost home is sent again once it is promoted;
errors are counted, held to the thresholds as they stand, and poison their unit; scrubbing changes nothing; a package reset
leaves the state of bring-up with halted control cores and no byte of the package's memory; a VF's counters are cleared by FLR;
PWR_STAT is taken. The model's choices in it: the wiring, the codes and the numbers, and that a package which changes its number
starts anew (notes/assumptions/18.md), that the next package in number is the mirror partner (99.md), which flit a failed one
was (98.md), when what a flit carries is performed (9.md), what happens when a peer is lost (50.md, 82.md), FLR (53.md), the
window of counted errors (54.md), throttling (63.md), a table memory's errors (67.md), and the control cores that start with
their domain (51.md), all in notes/assumptions. -/
def Obligations.FabricAndErrorEvents : Prop :=
  (∀ (s : State) (pkg k : Nat) (p : Pkg) (f : List Byte), s.pkg? pkg = some p → k < 18 → (p.link k).up = true →
      f.length = 256 →
      let g := s.arrived p k f
      let got (fails : Nat) (seq : BitVec 16) : State := s.modPkg pkg (fun q => q.modLink k (fun l =>
        { l with lastRx := s.aclk, fails := fails, seq := seq }))
      let seq := (p.link k).seq
      let n := (p.link k).fails
      let down (i : Instr) : Prop := ∃ t q, exec i s = .next t ∧ t.pkg? pkg = some q ∧ (q.link k).up = false ∧ SameBytes s t ∧
        ∀ x r, s.farEnd p k = some x → s.pkg? x.1 = some r → x.2 < 18 → ∃ r', t.pkg? x.1 = some r' ∧ (r'.link x.2).up = false
      let own : BitVec 16 := BitVec.ofNat 16 (blkU f 6 2)
      let failed : BitVec 16 × Flit := ((s.sentTo p k).head?).getD (own, flitOf f)
      (flitOk f = true →
        exec (.flitReceive pkg k f) s = .next (((got 0 own).unreplay p k own).acceptFlit pkg k g)) ∧
      (flitOk f = false → n + 1 < 8 → s.sentTo p k = [] → exec (.flitReceive pkg k f) s = .next (got (n + 1) seq)) ∧
      (flitOk f = false → n + 1 < 8 → s.sentTo p k ≠ [] → s.agenda = [] → exec (.flitReceive pkg k f) s =
        .next { got (n + 1) seq with agenda := [.flit pkg k (failed.2.bytes failed.1.toNat)] }) ∧
      (flitOk f = false → 8 ≤ n + 1 → failed.2.vc = 2 ∨ failed.2.vc = 3 →
        let u := ((got 0 seq).dropCredit p k failed).unreplay p k failed.1
        exec (.flitReceive pkg k f) s = .next (State.dropChunk
          { u with agenda := u.agenda.filter (fun x => x != .flit pkg k (failed.2.bytes failed.1.toNat)) } failed.2)) ∧
      (flitOk f = false → 8 ≤ n + 1 → failed.2.vc ≠ 2 → failed.2.vc ≠ 3 → down (.flitReceive pkg k f)) ∧
      ((p.link k).lastRx + 20800 ≤ s.aclk → down (.linkTimeout pkg k)) ∧
      ((p.link k).lastTx + 1300 ≤ s.aclk → exec (.keepaliveSend pkg k) s = .next (s.putFlit pkg k
        { vc := 5, kind := .keepAlive, dst := ((s.farEnd p k).map (fun x => x.1)).getD pkg, src := pkg, addr := 0,
          payload := [] }))) ∧
  (∀ (s : State) (pkg k : Nat) (p : Pkg) (f : Flit), s.pkg? pkg = some p → k < 18 →
      let back : Flit := { vc := f.vc, kind := .credit, dst := f.src, src := pkg, addr := 0, payload := [] }
      let credited (l : Link) : Link := { l with used := l.used.setIfInBounds f.vc (l.used[f.vc]?.getD 0 - 1) }
      (s.putFlit pkg k f).out = .flit pkg k (f.bytes (p.link k).txSeq.toNat) :: s.out ∧
      (∀ x, s.farEnd p k = some x →
        (s.putFlit pkg k f).agenda = s.agenda ++ [.flit x.1 x.2 (f.bytes (p.link k).txSeq.toNat)] ∧
        ∃ q, (s.putFlit pkg k f).pkg? pkg = some q ∧ (q.link k).replay = (p.link k).replay ++ [((p.link k).txSeq, f)]) ∧
      (s.lost.contains f.src = true ∨ s.lost.contains f.dst = true → s.forward pkg f = s) ∧
      (s.lost.contains f.src = false → s.lost.contains f.dst = false →
        let held : Prop := f.ofCtl = true ∧ f.addr.toNat / 2 ^ 33 ∈ s.promoting
        (s.nextHop pkg f.dst = none ∨ s.overtakes pkg f = true ∨ held →
          s.forward pkg f = { s with traffic := s.traffic ++ [(pkg, f)] }) ∧
        ∀ j, s.nextHop pkg f.dst = some j → s.overtakes pkg f = false → ¬held → s.forward pkg f = s.sendFlit pkg j f) ∧
      (∀ x ∈ s.traffic, x.2.vc = f.vc → x.2.src = f.src → x.2.dst = f.dst → x.2.ord < f.ord → x.2.counted = true →
        f.counted = true → s.overtakes pkg f = true) ∧
      (s.lost.contains f.src = true → s.acceptFlit pkg k f = if f.counted then s.putFlit pkg k back else s) ∧
      (f.cmd = none → s.dropChunk f = s) ∧
      (∀ i e, f.cmd = some i → s.cmd? i = some e → e.kind ≠ .coll → e.phase = .running →
        ∃ t d, s.dropChunk f = t ∧ SameBytes s t ∧ t.cmd? i = some d ∧ d.phase = .ended ∧ d.ivec = e.ivec ∧ d.sent = false ∧
          ∃ z, d.fault = some z ∧ z.complete = false ∧ z.ivec = e.stopVec ∧ (e.fault = none → z.cause.toNat = Cause.engineFault)) ∧
      (s.lost.contains f.src = false → f.kind = .keepAlive → s.acceptFlit pkg k f = s) ∧
      (s.lost.contains f.src = false → f.kind ≠ .credit → f.kind ≠ .keepAlive → f.dst = pkg →
        s.acceptFlit pkg k f = s.putFlit pkg k back) ∧
      (s.lost.contains f.src = false → f.kind ≠ .credit → f.kind ≠ .keepAlive → f.dst ≠ pkg →
        s.acceptFlit pkg k f = (s.putFlit pkg k back).forward pkg f) ∧
      (s.lost.contains f.src = false → f.kind = .credit → (∀ g ∈ (p.link k).wait, g.vc ≠ f.vc) →
        s.acceptFlit pkg k f = s.modPkg pkg (fun q => q.modLink k credited))) ∧
  (∀ (s : State) (vc : Nat) (kind : FlitKind) (src dst addr : Nat) (bs : List Byte),
      (src = dst → s.carry vc kind src dst addr bs = s) ∧
      (src ≠ dst → ∃ fs, s.carry vc kind src dst addr bs = { s with traffic := s.traffic ++ fs.map (fun f => (src, f)) } ∧
        fs ≠ [] ∧ fs.flatMap Flit.payload = bs ∧ ∀ f ∈ fs,
          f.vc = vc ∧ f.kind = kind ∧ f.src = src ∧ f.dst = dst ∧ f.payload.length ≤ 232) ∧
      (∀ owner, src ≠ dst → ∃ fs : List Flit, s.carryMirror owner src dst addr bs =
        { s with traffic := s.traffic ++ fs.map (fun f => (src, f)) } ∧ fs.flatMap Flit.payload = bs ∧ ∀ f ∈ fs,
          f.vc = 4 ∧ f.kind = .data ∧ f.src = src ∧ f.dst = dst ∧ f.owner = some owner) ∧
      (s.homeAt .ten addr ≠ src → s.exchange .ten src addr bs [] =
        (s.carry 2 (if bs.isEmpty then .request else .data) src (s.homeAt .ten addr) addr bs).carry 4 .response
          (s.homeAt .ten addr) src addr []) ∧
      (s.exchange .ctl src addr [] bs =
        (s.carry 0 .request src (s.homeAt .ctl addr) addr []).carry 1 .response (s.homeAt .ctl addr) src addr bs) ∧
      (∀ p, s.pkg? (s.homeAt .ctl addr) = some p → bs ≠ [] → s.exchange .ctl src addr bs [] =
        (((s.carry 0 .request src (s.homeAt .ctl addr) addr bs).carryMirror src p.num p.mirror addr bs).carry 1 .response p.mirror
          p.num addr []).carry 1 .response (s.homeAt .ctl addr) src addr [])) ∧
  (∀ (s : State) (l : List Nat),
      let order := s.admitted l
      0 < order.length → order.length ≤ 512 → MemoryWf s →
      let gone (size a : Nat) : Prop := ∃ r ∈ s.pkgs, r.keeps order = false ∧ r.num * size ≤ a ∧ a < (r.num + 1) * size
      ∃ t, exec (.domainForm l) s = .next t ∧
        (∀ q ∈ t.pkgs, q.formed = false → q.recovery = true) ∧
        (∀ q ∈ t.pkgs, q.formed = true → q.mirror = (q.num + 1) % order.length ∧ order[q.num]? = some q.boot.serial ∧
          (∀ k, k < 18 → (q.link k).up =
            (Config.linkPeer q.boot.serial k).any (fun x => order.contains x.1)) ∧
          ((∀ r ∈ s.pkgs, r.keeps order = true → r.num ≠ q.num) →
            ∀ k, k < 16 → ∃ a ∈ t.agents, ∃ c, a.pkg = q.num ∧ a.cc = some c ∧ c.num = k ∧ c.supervisor = true ∧
              c.halted = q.recovery)) ∧
        (∀ i, i < order.length → ∃ q ∈ t.pkgs, q.num = i ∧ q.formed = true) ∧
        ((∀ r ∈ s.pkgs, r.keeps order = true) → SameBytes s t) ∧
        (∀ a, (gone (2 ^ 33) a → Memory.read t.ctl a = 0) ∧ (¬gone (2 ^ 33) a → Memory.read t.ctl a = Memory.read s.ctl a)) ∧
        ∀ a, (gone (2 ^ 40) a → Memory.read t.ten a = 0) ∧ (¬gone (2 ^ 40) a → Memory.read t.ten a = Memory.read s.ten a)) ∧
  (∀ (s : State) (pkg peer : Nat) (p q : Pkg), s.pkg? pkg = some p → s.pkg? peer = some q → pkg ≠ peer →
      (p.routeGone peer s.aclk = true → p.mp.plr = false → p.haOpen 4 peer = false → s.detected.contains (pkg, peer) = false →
        exec (.peerRouteTimeout pkg peer) s = .next { s with detected := s.detected ++ [(pkg, peer)] }) ∧
      ((∃ x ∈ s.detected, x.2 = peer) →
        ∃ t, exec (.peerLossAgree peer) s = .next t ∧
          (∀ r ∈ t.pkgs, r.num ≠ peer ∧ ∀ i, i < 64 → (r.part i).phase ≠ .run) ∧ (∀ a ∈ t.agents, a.pkg ≠ peer) ∧
          (∀ c ∈ t.cmds, c.pkg ≠ peer) ∧ peer ∈ t.lost ∧ (∀ x ∈ t.detected, x.2 ≠ peer) ∧
          ((∀ c ∈ s.cmds, c.pkg = peer → c.sent = false) → q.mirror ≠ peer → (s.pkg? q.mirror).isSome = true →
            s.rebuilding.contains peer = false → s.homeOf peer = peer →
            t.homeOf peer = q.mirror ∧ peer ∈ t.promoting ∧ peer ∈ t.rebuilding) ∧
          ∀ f ∈ s.flits, f.ofCtl = true → f.counted = true → f.addr.toNat / 2 ^ 33 = peer → f.dst = peer → f.src ≠ peer →
            f.src ≠ q.mirror → s.lost.contains f.src = false → s.lost.contains q.mirror = false → s.cmds = [] →
            q.mirror ≠ peer → (s.pkg? q.mirror).isSome = true → s.rebuilding.contains peer = false → s.homeOf peer = peer →
            ∃ x ∈ t.traffic, x.1 = f.src ∧ x.2 = { f with dst := q.mirror, ord := x.2.ord }) ∧
      exec (.homePromoted peer) s = .next { s with promoting := s.promoting.filter (fun k => k != peer) } ∧
      exec (.mirrorRebuildDone peer) s = .next { s with rebuilding := s.rebuilding.filter (fun k => k != peer) }) ∧
  (∀ (s : State) (pkg n r i j l : Nat) (p : Pkg), s.pkg? pkg = some p →
      let counted : State := s.modPkg pkg (fun q => { q with mp := { q.mp with errCe := satInc q.mp.errCe } })
      let failed : State := s.modPkg pkg (fun q => { q with mp := { q.mp with errUe := satInc q.mp.errUe } })
      (s.unitOn pkg (.reg i r j) = true →
        exec (.eccCorrectable pkg (.reg i r j)) s = .next counted ∧
        exec (.eccUncorrectable pkg (.reg i r j)) s = .next (failed.modAgent i (fun a => a.poisonLane r j))) ∧
      (∀ a : Agent, r < 128 → j < 32 → (a.poisonLane r j).vreg r j = 0x7FC00BAD ∧
        (a.poisonLane r j).vpoison = setInsert (32 * r + j) a.vpoison ∧ (a.poisonLane r j).vlast = a.vlast ∧
        ∀ u v, v < 32 → u ≠ r ∨ v ≠ j → (a.poisonLane r j).vreg u v = a.vreg u v) ∧
      (s.unitOn pkg (.sreg i r) = true →
        exec (.eccUncorrectable pkg (.sreg i r)) s = .next (failed.modAgent i (fun a => a.setS r 0x7FC00BAD))) ∧
      (s.unitOn pkg (.bead i n) = true →
        exec (.eccUncorrectable pkg (.bead i n)) s = .next (failed.modCrew i (fun c => { c with
          poison := [4 * n, 4 * n + 1, 4 * n + 2, 4 * n + 3].foldl (fun x y => setInsert y x) c.poison }))) ∧
      (s.unitOn pkg (.ctl l) = true →
        (p.retired.contains (pageId .ctl (128 * l)) = true ∨ p.mp.ret = true →
          ∃ t q, exec (.eccUncorrectable pkg (.ctl l)) s = .next t ∧ t.pkg? pkg = some q ∧
            t.ctlPoison = rangesAdd (32 * l) (32 * l + 32) s.ctlPoison ∧ q.mp.errUe = satInc p.mp.errUe) ∧
        ((p.logCe (pageId .ctl (128 * l)) s.aclk).ceCount (pageId .ctl (128 * l)) s.aclk ≤ p.mp.pgthr.toNat →
          exec (.eccCorrectable pkg (.ctl l)) s =
            .next (counted.modPkg pkg (fun q => q.logCe (pageId .ctl (128 * l)) s.aclk)))) ∧
      (∀ (port : Nat) (v : W), p.formed = true → p.recovery = false → v.toNat % 2 ^ 16 ≠ 0 → v.toNat < 2 ^ 24 → p.retired = [] →
        let p1 : Pkg := { p with mp := { p.mp with
          window := BitVec.ofNat 16 v.toNat
          pgthr := BitVec.ofNat 4 (v.toNat / 2 ^ 16)
          bkthr := BitVec.ofNat 4 (v.toNat / 2 ^ 20) } }
        let put : State := s.modPkg pkg (fun _ => p1)
        let count (k : Nat) : Nat := (p.ceLog.filter (fun x =>
          x.1 == k && decide (s.aclk ≤ x.2 + v.toNat % 2 ^ 16 * 1300000000))).length
        let goes (t : State) : Prop := exec (.configRegisterWrite pkg (.pf port) 0x300 (toLE 4 v.toNat)) s = .next t
        ((∀ x ∈ p.ceLog, count x.1 ≤ v.toNat / 2 ^ 16 % 16) → goes put) ∧
        ∀ k, p.ceLog ≠ [] → (∀ x ∈ p.ceLog, x.1 = k) → v.toNat / 2 ^ 16 % 16 < count k → goes (put.askRetire pkg k)) ∧
      (s.unitOn pkg (.ten l) = true → p.retired.contains (pageId .ten (128 * l)) = true ∨ p.mp.ret = true →
        ∃ t, exec (.eccUncorrectable pkg (.ten l)) s = .next t ∧
          t.tenPoison = rangesAdd (32 * l) (32 * l + 32) s.tenPoison) ∧
      (s.unitOn pkg (.l2 false l) = true → exec (.eccUncorrectable pkg (.l2 false l)) s =
        .next { failed with ctlPoison := rangesAdd (32 * l) (32 * l + 32) s.ctlPoison }) ∧
      exec (.eccUncorrectable pkg .table) s = .next failed ∧
      exec (.patrolScrub pkg) s = .next s) ∧
  (∀ (s : State) (pkg vf : Nat) (p : Pkg) (g : BitVec 8), s.pkg? pkg = some p →
      (MemoryWf s → ∃ t, exec (.packageReset pkg) s = .next t ∧ t.pkg? pkg = some (p.bringUp s.aclk) ∧
        (∀ c ∈ t.crews, c.pkg ≠ pkg) ∧ (∀ l ∈ t.launches, l.pkg ≠ pkg) ∧ (∀ c ∈ t.cmds, c.pkg ≠ pkg) ∧
        (∀ k, k < 16 → ∃ a ∈ t.agents, ∃ c, a.pkg = pkg ∧ a.cc = some c ∧ c.num = k ∧ c.supervisor = true ∧
          c.halted = true) ∧
        (∀ a, Memory.read t.ctl a = if pkg * 2 ^ 33 ≤ a ∧ a < (pkg + 1) * 2 ^ 33 then 0 else Memory.read s.ctl a) ∧
        ∀ a, Memory.read t.ten a = if pkg * 2 ^ 40 ≤ a ∧ a < (pkg + 1) * 2 ^ 40 then 0 else Memory.read s.ten a) ∧
      exec (.vfFlr pkg vf) s = .next (s.modVf pkg vf (fun v => { v with ctrs := [], demotes := 0 })) ∧
      exec (.powerThrottling pkg g) s = .next (s.modPkg pkg (fun q => { q with mp := { q.mp with gated := g } })))
end

