-- ==== Sys2Proof/Laws/Access.lean ====
section
/-!
SUPPORT. Sys2Proof/Laws/Access.lean: what an access does to the groups whose divergence stack it reaches, and what an engine command
does over the links, said once for each operation.
-/
namespace Sys2Proof.Machine
open Sys2Proof.Safety

/-- R71: reaching a divergence-stack area only notes its groups. -/
@[simp] theorem State.stray_rest (s : State) (t : Target) (n : Nat) :
    (s.stray t n).ctl = s.ctl ∧ (s.stray t n).ten = s.ten ∧ (s.stray t n).host = s.host ∧
    (s.stray t n).ctlPoison = s.ctlPoison ∧ (s.stray t n).tenPoison = s.tenPoison ∧ (s.stray t n).pkgs = s.pkgs ∧
    (s.stray t n).agents = s.agents ∧ (s.stray t n).crews = s.crews ∧ (s.stray t n).cmds = s.cmds ∧
    (s.stray t n).traffic = s.traffic ∧ (s.stray t n).wlog = s.wlog ∧ (s.stray t n).free = s.free ∧
    (s.stray t n).agenda = s.agenda ∧ (s.stray t n).cur = s.cur ∧ (s.stray t n).out = s.out := by
  cases t <;> and_intros <;> rfl

/-- R71: a group once noted stays noted. -/
theorem State.stray_keeps {s : State} {t : Target} {n i : Nat} (h : i ∈ s.strayed) : i ∈ (s.stray t n).strayed := by
  cases t <;> simp [State.stray, h]

/-- R71: an access that meets a group's area notes the group. -/
theorem State.stray_notes {s : State} {a : Agent} {pa coh n : Nat} (ha : a ∈ s.agents) (h : a.areaMeets pa n = true) :
    a.id ∈ (s.stray (.ctl pa coh) n).strayed := by
  simp only [State.stray, List.mem_append, List.mem_map, List.mem_filter]
  by_cases hs : a.id ∈ s.strayed
  · exact .inl hs
  · exact .inr ⟨a, ⟨ha, by simp [h, hs]⟩, rfl⟩

/-- R71: an access to bytes at which no entry stands finds what the memory holds. -/
theorem State.overEntries_off {s : State} {t : Target} {bs : List Byte} (h : OffStacks s t bs.length) :
    s.overEntries t bs = bs := by
  cases t with
  | ctl pa coh =>
    simp only [OffStacks, List.all_eq_true, List.mem_range, Option.isNone_iff_eq_none] at h
    refine List.ext_getElem (by simp [State.overEntries]) fun i h1 h2 => ?_
    have hn : s.agents.findSome? (fun a => a.entryByte (pa + i)) = none :=
      List.findSome?_eq_none_iff.mpr fun a ha => h a ha i h2
    simp [State.overEntries, hn]
  | ten pa => rfl
  | pad k off e => rfl
  | mmio off => rfl

/-- R290: what a command does at once comes about whole, without the flits that went out for it before, or changes nothing but
the command's mark and what is on its way. -/
theorem State.overLinks_cases (s : State) (c : Cmd) (go : State → State) :
    (c.sent = true ∧
      s.overLinks c go = ({ go s with traffic := s.traffic } : State).modCmd c.inst (fun d => { d with sent := false })) ∨
    (c.sent = false ∧ s.flitsFor (go s) c.inst = [] ∧ s.overLinks c go = go s) ∨
    (c.sent = false ∧ s.flitsFor (go s) c.inst ≠ [] ∧
      s.overLinks c go =
        ({ s with traffic := s.traffic ++ s.flitsFor (go s) c.inst } : State).modCmd c.inst (fun d => { d with sent := true })) := by
  unfold State.overLinks
  cases hc : c.sent
  · by_cases hn : s.flitsFor (go s) c.inst = []
    · exact .inr (.inl ⟨rfl, hn, by simp [hn]⟩)
    · exact .inr (.inr ⟨rfl, hn, by simp [hn]⟩)
  · exact .inl ⟨rfl, rfl⟩

end Sys2Proof.Machine
end

