-- ==== Sys2Proof/Laws/Events.lean ====
section
/-!
SUPPORT. Sys2Proof/Laws/Events.lean: one lemma for each shared operation of the events and of the engines: what it does, said
once.
-/
namespace Sys2Proof.Machine

/-- R289: sending flits changes what is on its way alone. -/
theorem State.sendOut_eq (s : State) (l : List Flit) :
    s.sendOut l = { s with traffic := s.traffic ++ (s.placed l).map (fun f => (f.src, f)) } := rfl

/-- R293: what was on its way to a lost home changes what is on its way alone. -/
theorem State.resendLost_rest (s : State) (peer : Nat) (held : List Nat) (l : List Flit) :
    s.resendLost peer held l = { s with traffic := (s.resendLost peer held l).traffic } := rfl

/-- R285: a mailbox command that fails ends with one of its results; nothing else of the machine changes but the count of free
values. -/
theorem State.mbxFail_spec (s : State) (pkg : Nat) (win : Window) (codes : List Nat) (h : codes ≠ []) :
    ∃ f res, res ∈ codes ∧ s.mbxFail pkg win codes = ({ s with free := f } : State).mbxDone pkg win res [] := by
  have pos : 0 < codes.length := List.length_pos_iff.mpr h
  have pick : codes.getD (Config.freeNat s.free % codes.length) 0x02 ∈ codes := by
    have lt := Nat.mod_lt (Config.freeNat s.free) pos
    simp [List.getD_eq_getElem?_getD, List.getElem?_eq_getElem lt]
  unfold State.mbxFail
  split
  · rename_i x
    exact ⟨s.free, x, by simp, rfl⟩
  · exact ⟨s.free + 1, _, pick, rfl⟩

/-- R205: a set that fails changes the commands alone. -/
theorem State.failSet_rest (s : State) (set : Nat) : s.failSet set = { s with cmds := (s.failSet set).cmds } := rfl

theorem State.failOpenSets_rest (s : State) (crew : Nat) :
    s.failOpenSets crew = { s with cmds := (s.failOpenSets crew).cmds } := by
  unfold State.failOpenSets
  simp only
  split <;> rfl

/-- R161: the machine as of an earlier moment differs in what its memories and scratchpads hold. -/
theorem State.undo_rest (s : State) (x : Wrote) :
    s.undo x = { s with ctl := (s.undo x).ctl, ten := (s.undo x).ten, crews := (s.undo x).crews } := by
  unfold State.undo
  split <;> rfl

theorem State.asOf_now (s : State) : s.asOf s.wlog.length = s := by simp [State.asOf]

theorem State.asOf_rest (s : State) (n : Nat) :
    s.asOf n = { s with ctl := (s.asOf n).ctl, ten := (s.asOf n).ten, crews := (s.asOf n).crews } := by
  have step (l : List Wrote) : ∀ t : State, l.foldl State.undo t =
      { t with ctl := (l.foldl State.undo t).ctl, ten := (l.foldl State.undo t).ten, crews := (l.foldl State.undo t).crews } := by
    induction l with
    | nil => exact fun _ => rfl
    | cons x r ih =>
      intro t
      rw [List.foldl_cons, ih (t.undo x)]
      rw [t.undo_rest x]
  exact step _ s

/-- R136: a fetch that raises another cause reports no word. -/
theorem State.unfetched_other (s : State) (cause : Nat) (h : cause ≠ Cause.privileged) : s.unfetched cause = (0, s) := by
  simp [State.unfetched, h]

end Sys2Proof.Machine
end

