-- ==== Sys2Proof/Laws/Exec.lean ====
section
/-!
SUPPORT. Sys2Proof/Laws/Exec.lean: which meaning `exec` calls for each constructor, by definition.
-/
namespace Sys2Proof.Machine

@[simp] theorem exec_iaddV (x0 x1 x2 x3 s) :
    exec (.iaddV x0 x1 x2 x3) s = execIaddV x0 x1 x2 x3 s := rfl
@[simp] theorem exec_iaddS (x0 x1 x2 x3 s) :
    exec (.iaddS x0 x1 x2 x3) s = execIaddS x0 x1 x2 x3 s := rfl
@[simp] theorem exec_iaddDV (x0 x1 x2 x3 s) :
    exec (.iaddDV x0 x1 x2 x3) s = execIaddDV x0 x1 x2 x3 s := rfl
@[simp] theorem exec_iaddDS (x0 x1 x2 x3 s) :
    exec (.iaddDS x0 x1 x2 x3) s = execIaddDS x0 x1 x2 x3 s := rfl
@[simp] theorem exec_isubV (x0 x1 x2 x3 s) :
    exec (.isubV x0 x1 x2 x3) s = execIsubV x0 x1 x2 x3 s := rfl
@[simp] theorem exec_isubS (x0 x1 x2 x3 s) :
    exec (.isubS x0 x1 x2 x3) s = execIsubS x0 x1 x2 x3 s := rfl
@[simp] theorem exec_isubDV (x0 x1 x2 x3 s) :
    exec (.isubDV x0 x1 x2 x3) s = execIsubDV x0 x1 x2 x3 s := rfl
@[simp] theorem exec_isubDS (x0 x1 x2 x3 s) :
    exec (.isubDS x0 x1 x2 x3) s = execIsubDS x0 x1 x2 x3 s := rfl
@[simp] theorem exec_imulV (x0 x1 x2 x3 s) :
    exec (.imulV x0 x1 x2 x3) s = execImulV x0 x1 x2 x3 s := rfl
@[simp] theorem exec_imulS (x0 x1 x2 x3 s) :
    exec (.imulS x0 x1 x2 x3) s = execImulS x0 x1 x2 x3 s := rfl
@[simp] theorem exec_imulhIV (x0 x1 x2 x3 s) :
    exec (.imulhIV x0 x1 x2 x3) s = execImulhIV x0 x1 x2 x3 s := rfl
@[simp] theorem exec_imulhIS (x0 x1 x2 x3 s) :
    exec (.imulhIS x0 x1 x2 x3) s = execImulhIS x0 x1 x2 x3 s := rfl
@[simp] theorem exec_imulhNV (x0 x1 x2 x3 s) :
    exec (.imulhNV x0 x1 x2 x3) s = execImulhNV x0 x1 x2 x3 s := rfl
@[simp] theorem exec_imulhNS (x0 x1 x2 x3 s) :
    exec (.imulhNS x0 x1 x2 x3) s = execImulhNS x0 x1 x2 x3 s := rfl
@[simp] theorem exec_imadV (x0 x1 x2 x3 s) :
    exec (.imadV x0 x1 x2 x3) s = execImadV x0 x1 x2 x3 s := rfl
@[simp] theorem exec_imadS (x0 x1 x2 x3 s) :
    exec (.imadS x0 x1 x2 x3) s = execImadS x0 x1 x2 x3 s := rfl
@[simp] theorem exec_iminIV (x0 x1 x2 x3 s) :
    exec (.iminIV x0 x1 x2 x3) s = execIminIV x0 x1 x2 x3 s := rfl
@[simp] theorem exec_iminIS (x0 x1 x2 x3 s) :
    exec (.iminIS x0 x1 x2 x3) s = execIminIS x0 x1 x2 x3 s := rfl
@[simp] theorem exec_iminNV (x0 x1 x2 x3 s) :
    exec (.iminNV x0 x1 x2 x3) s = execIminNV x0 x1 x2 x3 s := rfl
@[simp] theorem exec_iminNS (x0 x1 x2 x3 s) :
    exec (.iminNS x0 x1 x2 x3) s = execIminNS x0 x1 x2 x3 s := rfl
@[simp] theorem exec_imaxIV (x0 x1 x2 x3 s) :
    exec (.imaxIV x0 x1 x2 x3) s = execImaxIV x0 x1 x2 x3 s := rfl
@[simp] theorem exec_imaxIS (x0 x1 x2 x3 s) :
    exec (.imaxIS x0 x1 x2 x3) s = execImaxIS x0 x1 x2 x3 s := rfl
@[simp] theorem exec_imaxNV (x0 x1 x2 x3 s) :
    exec (.imaxNV x0 x1 x2 x3) s = execImaxNV x0 x1 x2 x3 s := rfl
@[simp] theorem exec_imaxNS (x0 x1 x2 x3 s) :
    exec (.imaxNS x0 x1 x2 x3) s = execImaxNS x0 x1 x2 x3 s := rfl
@[simp] theorem exec_iabsV (x0 x1 x2 s) :
    exec (.iabsV x0 x1 x2) s = execIabsV x0 x1 x2 s := rfl
@[simp] theorem exec_iabsS (x0 x1 x2 s) :
    exec (.iabsS x0 x1 x2) s = execIabsS x0 x1 x2 s := rfl
@[simp] theorem exec_andV (x0 x1 x2 x3 s) :
    exec (.andV x0 x1 x2 x3) s = execAndV x0 x1 x2 x3 s := rfl
@[simp] theorem exec_andS (x0 x1 x2 x3 s) :
    exec (.andS x0 x1 x2 x3) s = execAndS x0 x1 x2 x3 s := rfl
@[simp] theorem exec_orV (x0 x1 x2 x3 s) :
    exec (.orV x0 x1 x2 x3) s = execOrV x0 x1 x2 x3 s := rfl
@[simp] theorem exec_orS (x0 x1 x2 x3 s) :
    exec (.orS x0 x1 x2 x3) s = execOrS x0 x1 x2 x3 s := rfl
@[simp] theorem exec_xorV (x0 x1 x2 x3 s) :
    exec (.xorV x0 x1 x2 x3) s = execXorV x0 x1 x2 x3 s := rfl
@[simp] theorem exec_xorS (x0 x1 x2 x3 s) :
    exec (.xorS x0 x1 x2 x3) s = execXorS x0 x1 x2 x3 s := rfl
@[simp] theorem exec_notV (x0 x1 x2 s) :
    exec (.notV x0 x1 x2) s = execNotV x0 x1 x2 s := rfl
@[simp] theorem exec_notS (x0 x1 x2 s) :
    exec (.notS x0 x1 x2) s = execNotS x0 x1 x2 s := rfl
@[simp] theorem exec_shlV (x0 x1 x2 x3 s) :
    exec (.shlV x0 x1 x2 x3) s = execShlV x0 x1 x2 x3 s := rfl
@[simp] theorem exec_shlS (x0 x1 x2 x3 s) :
    exec (.shlS x0 x1 x2 x3) s = execShlS x0 x1 x2 x3 s := rfl
@[simp] theorem exec_shrV (x0 x1 x2 x3 s) :
    exec (.shrV x0 x1 x2 x3) s = execShrV x0 x1 x2 x3 s := rfl
@[simp] theorem exec_shrS (x0 x1 x2 x3 s) :
    exec (.shrS x0 x1 x2 x3) s = execShrS x0 x1 x2 x3 s := rfl
@[simp] theorem exec_sarV (x0 x1 x2 x3 s) :
    exec (.sarV x0 x1 x2 x3) s = execSarV x0 x1 x2 x3 s := rfl
@[simp] theorem exec_sarS (x0 x1 x2 x3 s) :
    exec (.sarS x0 x1 x2 x3) s = execSarS x0 x1 x2 x3 s := rfl
@[simp] theorem exec_rotV (x0 x1 x2 x3 s) :
    exec (.rotV x0 x1 x2 x3) s = execRotV x0 x1 x2 x3 s := rfl
@[simp] theorem exec_rotS (x0 x1 x2 x3 s) :
    exec (.rotS x0 x1 x2 x3) s = execRotS x0 x1 x2 x3 s := rfl
@[simp] theorem exec_popcV (x0 x1 x2 s) :
    exec (.popcV x0 x1 x2) s = execPopcV x0 x1 x2 s := rfl
@[simp] theorem exec_popcS (x0 x1 x2 s) :
    exec (.popcS x0 x1 x2) s = execPopcS x0 x1 x2 s := rfl
@[simp] theorem exec_clzV (x0 x1 x2 s) :
    exec (.clzV x0 x1 x2) s = execClzV x0 x1 x2 s := rfl
@[simp] theorem exec_clzS (x0 x1 x2 s) :
    exec (.clzS x0 x1 x2) s = execClzS x0 x1 x2 s := rfl
@[simp] theorem exec_brevV (x0 x1 x2 s) :
    exec (.brevV x0 x1 x2) s = execBrevV x0 x1 x2 s := rfl
@[simp] theorem exec_brevS (x0 x1 x2 s) :
    exec (.brevS x0 x1 x2) s = execBrevS x0 x1 x2 s := rfl
@[simp] theorem exec_bfeNV (x0 x1 x2 x3 s) :
    exec (.bfeNV x0 x1 x2 x3) s = execBfeNV x0 x1 x2 x3 s := rfl
@[simp] theorem exec_bfeNS (x0 x1 x2 x3 s) :
    exec (.bfeNS x0 x1 x2 x3) s = execBfeNS x0 x1 x2 x3 s := rfl
@[simp] theorem exec_bfeIV (x0 x1 x2 x3 s) :
    exec (.bfeIV x0 x1 x2 x3) s = execBfeIV x0 x1 x2 x3 s := rfl
@[simp] theorem exec_bfeIS (x0 x1 x2 x3 s) :
    exec (.bfeIS x0 x1 x2 x3) s = execBfeIS x0 x1 x2 x3 s := rfl
@[simp] theorem exec_bfiV (x0 x1 x2 x3 s) :
    exec (.bfiV x0 x1 x2 x3) s = execBfiV x0 x1 x2 x3 s := rfl
@[simp] theorem exec_bfiS (x0 x1 x2 x3 s) :
    exec (.bfiS x0 x1 x2 x3) s = execBfiS x0 x1 x2 x3 s := rfl
@[simp] theorem exec_selV (x0 x1 x2 x3 s) :
    exec (.selV x0 x1 x2 x3) s = execSelV x0 x1 x2 x3 s := rfl
@[simp] theorem exec_selS (x0 x1 x2 x3 s) :
    exec (.selS x0 x1 x2 x3) s = execSelS x0 x1 x2 x3 s := rfl
@[simp] theorem exec_movV (x0 x1 x2 s) :
    exec (.movV x0 x1 x2) s = execMovV x0 x1 x2 s := rfl
@[simp] theorem exec_movS (x0 x1 x2 s) :
    exec (.movS x0 x1 x2) s = execMovS x0 x1 x2 s := rfl
@[simp] theorem exec_icmpV (x0 x1 x2 x3 x4 s) :
    exec (.icmpV x0 x1 x2 x3 x4) s = execIcmpV x0 x1 x2 x3 x4 s := rfl
@[simp] theorem exec_icmpS (x0 x1 x2 x3 x4 s) :
    exec (.icmpS x0 x1 x2 x3 x4) s = execIcmpS x0 x1 x2 x3 x4 s := rfl
@[simp] theorem exec_fcmpF32 (x0 x1 x2 x3 x4 s) :
    exec (.fcmpF32 x0 x1 x2 x3 x4) s = execFcmpF32 x0 x1 x2 x3 x4 s := rfl
@[simp] theorem exec_fcmpF64 (x0 x1 x2 x3 x4 s) :
    exec (.fcmpF64 x0 x1 x2 x3 x4) s = execFcmpF64 x0 x1 x2 x3 x4 s := rfl
@[simp] theorem exec_plop (x0 x1 x2 x3 x4 s) :
    exec (.plop x0 x1 x2 x3 x4) s = execPlop x0 x1 x2 x3 x4 s := rfl
@[simp] theorem exec_ballot (x0 x1 x2 s) :
    exec (.ballot x0 x1 x2) s = execBallot x0 x1 x2 s := rfl
@[simp] theorem exec_faddF32V (x0 x1 x2 x3 s) :
    exec (.faddF32V x0 x1 x2 x3) s = execFaddF32V x0 x1 x2 x3 s := rfl
@[simp] theorem exec_faddF32S (x0 x1 x2 x3 s) :
    exec (.faddF32S x0 x1 x2 x3) s = execFaddF32S x0 x1 x2 x3 s := rfl
@[simp] theorem exec_faddF64 (x0 x1 x2 x3 s) :
    exec (.faddF64 x0 x1 x2 x3) s = execFaddF64 x0 x1 x2 x3 s := rfl
@[simp] theorem exec_faddH2 (x0 x1 x2 x3 s) :
    exec (.faddH2 x0 x1 x2 x3) s = execFaddH2 x0 x1 x2 x3 s := rfl
@[simp] theorem exec_faddB2 (x0 x1 x2 x3 s) :
    exec (.faddB2 x0 x1 x2 x3) s = execFaddB2 x0 x1 x2 x3 s := rfl
@[simp] theorem exec_fsubF32 (x0 x1 x2 x3 s) :
    exec (.fsubF32 x0 x1 x2 x3) s = execFsubF32 x0 x1 x2 x3 s := rfl
@[simp] theorem exec_fsubF64 (x0 x1 x2 x3 s) :
    exec (.fsubF64 x0 x1 x2 x3) s = execFsubF64 x0 x1 x2 x3 s := rfl
@[simp] theorem exec_fmulF32V (x0 x1 x2 x3 s) :
    exec (.fmulF32V x0 x1 x2 x3) s = execFmulF32V x0 x1 x2 x3 s := rfl
@[simp] theorem exec_fmulF32S (x0 x1 x2 x3 s) :
    exec (.fmulF32S x0 x1 x2 x3) s = execFmulF32S x0 x1 x2 x3 s := rfl
@[simp] theorem exec_fmulF64 (x0 x1 x2 x3 s) :
    exec (.fmulF64 x0 x1 x2 x3) s = execFmulF64 x0 x1 x2 x3 s := rfl
@[simp] theorem exec_fmulH2 (x0 x1 x2 x3 s) :
    exec (.fmulH2 x0 x1 x2 x3) s = execFmulH2 x0 x1 x2 x3 s := rfl
@[simp] theorem exec_fmulB2 (x0 x1 x2 x3 s) :
    exec (.fmulB2 x0 x1 x2 x3) s = execFmulB2 x0 x1 x2 x3 s := rfl
@[simp] theorem exec_ffmaF32V (x0 x1 x2 x3 s) :
    exec (.ffmaF32V x0 x1 x2 x3) s = execFfmaF32V x0 x1 x2 x3 s := rfl
@[simp] theorem exec_ffmaF32S (x0 x1 x2 x3 s) :
    exec (.ffmaF32S x0 x1 x2 x3) s = execFfmaF32S x0 x1 x2 x3 s := rfl
@[simp] theorem exec_ffmaF64 (x0 x1 x2 x3 s) :
    exec (.ffmaF64 x0 x1 x2 x3) s = execFfmaF64 x0 x1 x2 x3 s := rfl
@[simp] theorem exec_ffmaH2 (x0 x1 x2 x3 s) :
    exec (.ffmaH2 x0 x1 x2 x3) s = execFfmaH2 x0 x1 x2 x3 s := rfl
@[simp] theorem exec_ffmaB2 (x0 x1 x2 x3 s) :
    exec (.ffmaB2 x0 x1 x2 x3) s = execFfmaB2 x0 x1 x2 x3 s := rfl
@[simp] theorem exec_fminF32 (x0 x1 x2 x3 s) :
    exec (.fminF32 x0 x1 x2 x3) s = execFminF32 x0 x1 x2 x3 s := rfl
@[simp] theorem exec_fmaxF32 (x0 x1 x2 x3 s) :
    exec (.fmaxF32 x0 x1 x2 x3) s = execFmaxF32 x0 x1 x2 x3 s := rfl
@[simp] theorem exec_fminF64 (x0 x1 x2 x3 s) :
    exec (.fminF64 x0 x1 x2 x3) s = execFminF64 x0 x1 x2 x3 s := rfl
@[simp] theorem exec_fmaxF64 (x0 x1 x2 x3 s) :
    exec (.fmaxF64 x0 x1 x2 x3) s = execFmaxF64 x0 x1 x2 x3 s := rfl
@[simp] theorem exec_fdot2 (x0 x1 x2 x3 s) :
    exec (.fdot2 x0 x1 x2 x3) s = execFdot2 x0 x1 x2 x3 s := rfl
@[simp] theorem exec_frcp (x0 x1 x2 s) :
    exec (.frcp x0 x1 x2) s = execFrcp x0 x1 x2 s := rfl
@[simp] theorem exec_frsq (x0 x1 x2 s) :
    exec (.frsq x0 x1 x2) s = execFrsq x0 x1 x2 s := rfl
@[simp] theorem exec_fsqrt (x0 x1 x2 s) :
    exec (.fsqrt x0 x1 x2) s = execFsqrt x0 x1 x2 s := rfl
@[simp] theorem exec_fex2 (x0 x1 x2 s) :
    exec (.fex2 x0 x1 x2) s = execFex2 x0 x1 x2 s := rfl
@[simp] theorem exec_flg2 (x0 x1 x2 s) :
    exec (.flg2 x0 x1 x2) s = execFlg2 x0 x1 x2 s := rfl
@[simp] theorem exec_fsin (x0 x1 x2 s) :
    exec (.fsin x0 x1 x2) s = execFsin x0 x1 x2 s := rfl
@[simp] theorem exec_fcos (x0 x1 x2 s) :
    exec (.fcos x0 x1 x2) s = execFcos x0 x1 x2 s := rfl
@[simp] theorem exec_cvtFromF32 (x0 x1 x2 x3 x4 x5 s) :
    exec (.cvtFromF32 x0 x1 x2 x3 x4 x5) s = execCvtFromF32 x0 x1 x2 x3 x4 x5 s := rfl
@[simp] theorem exec_cvtFromF64 (x0 x1 x2 x3 x4 x5 s) :
    exec (.cvtFromF64 x0 x1 x2 x3 x4 x5) s = execCvtFromF64 x0 x1 x2 x3 x4 x5 s := rfl
@[simp] theorem exec_cvtFromBf16 (x0 x1 x2 x3 x4 x5 s) :
    exec (.cvtFromBf16 x0 x1 x2 x3 x4 x5) s = execCvtFromBf16 x0 x1 x2 x3 x4 x5 s := rfl
@[simp] theorem exec_cvtFromF16 (x0 x1 x2 x3 x4 x5 s) :
    exec (.cvtFromF16 x0 x1 x2 x3 x4 x5) s = execCvtFromF16 x0 x1 x2 x3 x4 x5 s := rfl
@[simp] theorem exec_cvtFromE4m3 (x0 x1 x2 x3 x4 x5 s) :
    exec (.cvtFromE4m3 x0 x1 x2 x3 x4 x5) s = execCvtFromE4m3 x0 x1 x2 x3 x4 x5 s := rfl
@[simp] theorem exec_cvtFromE5m2 (x0 x1 x2 x3 x4 x5 s) :
    exec (.cvtFromE5m2 x0 x1 x2 x3 x4 x5) s = execCvtFromE5m2 x0 x1 x2 x3 x4 x5 s := rfl
@[simp] theorem exec_cvtFromI32 (x0 x1 x2 x3 x4 x5 s) :
    exec (.cvtFromI32 x0 x1 x2 x3 x4 x5) s = execCvtFromI32 x0 x1 x2 x3 x4 x5 s := rfl
@[simp] theorem exec_cvtFromN32 (x0 x1 x2 x3 x4 x5 s) :
    exec (.cvtFromN32 x0 x1 x2 x3 x4 x5) s = execCvtFromN32 x0 x1 x2 x3 x4 x5 s := rfl
@[simp] theorem exec_qnt (x0 x1 x2 x3 s) :
    exec (.qnt x0 x1 x2 x3) s = execQnt x0 x1 x2 x3 s := rfl
@[simp] theorem exec_unpk (x0 x1 x2 x3 s) :
    exec (.unpk x0 x1 x2 x3) s = execUnpk x0 x1 x2 x3 s := rfl
@[simp] theorem exec_pack (x0 x1 x2 x3 s) :
    exec (.pack x0 x1 x2 x3) s = execPack x0 x1 x2 x3 s := rfl
@[simp] theorem exec_shflIdx (x0 x1 x2 x3 s) :
    exec (.shflIdx x0 x1 x2 x3) s = execShflIdx x0 x1 x2 x3 s := rfl
@[simp] theorem exec_shflXor (x0 x1 x2 x3 s) :
    exec (.shflXor x0 x1 x2 x3) s = execShflXor x0 x1 x2 x3 s := rfl
@[simp] theorem exec_shflUp (x0 x1 x2 x3 s) :
    exec (.shflUp x0 x1 x2 x3) s = execShflUp x0 x1 x2 x3 s := rfl
@[simp] theorem exec_shflDown (x0 x1 x2 x3 s) :
    exec (.shflDown x0 x1 x2 x3) s = execShflDown x0 x1 x2 x3 s := rfl
@[simp] theorem exec_vred (x0 x1 x2 x3 s) :
    exec (.vred x0 x1 x2 x3) s = execVred x0 x1 x2 x3 s := rfl
@[simp] theorem exec_vminxN (x0 x1 x2 x3 s) :
    exec (.vminxN x0 x1 x2 x3) s = execVminxN x0 x1 x2 x3 s := rfl
@[simp] theorem exec_vminxI (x0 x1 x2 x3 s) :
    exec (.vminxI x0 x1 x2 x3) s = execVminxI x0 x1 x2 x3 s := rfl
@[simp] theorem exec_vminxF (x0 x1 x2 x3 s) :
    exec (.vminxF x0 x1 x2 x3) s = execVminxF x0 x1 x2 x3 s := rfl
@[simp] theorem exec_vmaxxN (x0 x1 x2 x3 s) :
    exec (.vmaxxN x0 x1 x2 x3) s = execVmaxxN x0 x1 x2 x3 s := rfl
@[simp] theorem exec_vmaxxI (x0 x1 x2 x3 s) :
    exec (.vmaxxI x0 x1 x2 x3) s = execVmaxxI x0 x1 x2 x3 s := rfl
@[simp] theorem exec_vmaxxF (x0 x1 x2 x3 s) :
    exec (.vmaxxF x0 x1 x2 x3) s = execVmaxxF x0 x1 x2 x3 s := rfl
@[simp] theorem exec_vscan (x0 x1 x2 x3 x4 s) :
    exec (.vscan x0 x1 x2 x3 x4) s = execVscan x0 x1 x2 x3 x4 s := rfl
@[simp] theorem exec_pmovGet (x0 x1 s) :
    exec (.pmovGet x0 x1) s = execPmovGet x0 x1 s := rfl
@[simp] theorem exec_pmovPut (x0 x1 s) :
    exec (.pmovPut x0 x1) s = execPmovPut x0 x1 s := rfl
@[simp] theorem exec_pmovNz (x0 x1 x2 s) :
    exec (.pmovNz x0 x1 x2) s = execPmovNz x0 x1 x2 s := rfl
@[simp] theorem exec_pmovMask (x0 x1 x2 s) :
    exec (.pmovMask x0 x1 x2) s = execPmovMask x0 x1 x2 s := rfl
@[simp] theorem exec_nop (s) : exec .nop s = execNop s := rfl
@[simp] theorem exec_ldB8 (x0 x1 x2 x3 x4 x5 s) :
    exec (.ldB8 x0 x1 x2 x3 x4 x5) s = execLdB8 x0 x1 x2 x3 x4 x5 s := rfl
@[simp] theorem exec_ldX8 (x0 x1 x2 x3 x4 x5 s) :
    exec (.ldX8 x0 x1 x2 x3 x4 x5) s = execLdX8 x0 x1 x2 x3 x4 x5 s := rfl
@[simp] theorem exec_ldB16 (x0 x1 x2 x3 x4 x5 s) :
    exec (.ldB16 x0 x1 x2 x3 x4 x5) s = execLdB16 x0 x1 x2 x3 x4 x5 s := rfl
@[simp] theorem exec_ldX16 (x0 x1 x2 x3 x4 x5 s) :
    exec (.ldX16 x0 x1 x2 x3 x4 x5) s = execLdX16 x0 x1 x2 x3 x4 x5 s := rfl
@[simp] theorem exec_ldB32 (x0 x1 x2 x3 x4 x5 s) :
    exec (.ldB32 x0 x1 x2 x3 x4 x5) s = execLdB32 x0 x1 x2 x3 x4 x5 s := rfl
@[simp] theorem exec_ldB64 (x0 x1 x2 x3 x4 x5 s) :
    exec (.ldB64 x0 x1 x2 x3 x4 x5) s = execLdB64 x0 x1 x2 x3 x4 x5 s := rfl
@[simp] theorem exec_ldB128 (x0 x1 x2 x3 x4 x5 s) :
    exec (.ldB128 x0 x1 x2 x3 x4 x5) s = execLdB128 x0 x1 x2 x3 x4 x5 s := rfl
@[simp] theorem exec_ldB32Scalar (x0 x1 x2 x3 x4 x5 s) :
    exec (.ldB32Scalar x0 x1 x2 x3 x4 x5) s = execLdB32Scalar x0 x1 x2 x3 x4 x5 s := rfl
@[simp] theorem exec_ldB64Scalar (x0 x1 x2 x3 x4 x5 s) :
    exec (.ldB64Scalar x0 x1 x2 x3 x4 x5) s = execLdB64Scalar x0 x1 x2 x3 x4 x5 s := rfl
@[simp] theorem exec_stB8 (x0 x1 x2 x3 x4 x5 s) :
    exec (.stB8 x0 x1 x2 x3 x4 x5) s = execStB8 x0 x1 x2 x3 x4 x5 s := rfl
@[simp] theorem exec_stB16 (x0 x1 x2 x3 x4 x5 s) :
    exec (.stB16 x0 x1 x2 x3 x4 x5) s = execStB16 x0 x1 x2 x3 x4 x5 s := rfl
@[simp] theorem exec_stB32 (x0 x1 x2 x3 x4 x5 s) :
    exec (.stB32 x0 x1 x2 x3 x4 x5) s = execStB32 x0 x1 x2 x3 x4 x5 s := rfl
@[simp] theorem exec_stB64 (x0 x1 x2 x3 x4 x5 s) :
    exec (.stB64 x0 x1 x2 x3 x4 x5) s = execStB64 x0 x1 x2 x3 x4 x5 s := rfl
@[simp] theorem exec_stB128 (x0 x1 x2 x3 x4 x5 s) :
    exec (.stB128 x0 x1 x2 x3 x4 x5) s = execStB128 x0 x1 x2 x3 x4 x5 s := rfl
@[simp] theorem exec_stB32Scalar (x0 x1 x2 x3 x4 x5 s) :
    exec (.stB32Scalar x0 x1 x2 x3 x4 x5) s = execStB32Scalar x0 x1 x2 x3 x4 x5 s := rfl
@[simp] theorem exec_stB64Scalar (x0 x1 x2 x3 x4 x5 s) :
    exec (.stB64Scalar x0 x1 x2 x3 x4 x5) s = execStB64Scalar x0 x1 x2 x3 x4 x5 s := rfl
@[simp] theorem exec_atomAdd (x0 x1 x2 x3 x4 s) :
    exec (.atomAdd x0 x1 x2 x3 x4) s = execAtomAdd x0 x1 x2 x3 x4 s := rfl
@[simp] theorem exec_atomAnd (x0 x1 x2 x3 x4 s) :
    exec (.atomAnd x0 x1 x2 x3 x4) s = execAtomAnd x0 x1 x2 x3 x4 s := rfl
@[simp] theorem exec_atomOr (x0 x1 x2 x3 x4 s) :
    exec (.atomOr x0 x1 x2 x3 x4) s = execAtomOr x0 x1 x2 x3 x4 s := rfl
@[simp] theorem exec_atomXor (x0 x1 x2 x3 x4 s) :
    exec (.atomXor x0 x1 x2 x3 x4) s = execAtomXor x0 x1 x2 x3 x4 s := rfl
@[simp] theorem exec_atomMinI (x0 x1 x2 x3 x4 s) :
    exec (.atomMinI x0 x1 x2 x3 x4) s = execAtomMinI x0 x1 x2 x3 x4 s := rfl
@[simp] theorem exec_atomMinN (x0 x1 x2 x3 x4 s) :
    exec (.atomMinN x0 x1 x2 x3 x4) s = execAtomMinN x0 x1 x2 x3 x4 s := rfl
@[simp] theorem exec_atomMaxI (x0 x1 x2 x3 x4 s) :
    exec (.atomMaxI x0 x1 x2 x3 x4) s = execAtomMaxI x0 x1 x2 x3 x4 s := rfl
@[simp] theorem exec_atomMaxN (x0 x1 x2 x3 x4 s) :
    exec (.atomMaxN x0 x1 x2 x3 x4) s = execAtomMaxN x0 x1 x2 x3 x4 s := rfl
@[simp] theorem exec_atomExch (x0 x1 x2 x3 x4 s) :
    exec (.atomExch x0 x1 x2 x3 x4) s = execAtomExch x0 x1 x2 x3 x4 s := rfl
@[simp] theorem exec_atomFadd (x0 x1 x2 x3 x4 s) :
    exec (.atomFadd x0 x1 x2 x3 x4) s = execAtomFadd x0 x1 x2 x3 x4 s := rfl
@[simp] theorem exec_atomFmax (x0 x1 x2 x3 x4 s) :
    exec (.atomFmax x0 x1 x2 x3 x4) s = execAtomFmax x0 x1 x2 x3 x4 s := rfl
@[simp] theorem exec_atomFmin (x0 x1 x2 x3 x4 s) :
    exec (.atomFmin x0 x1 x2 x3 x4) s = execAtomFmin x0 x1 x2 x3 x4 s := rfl
@[simp] theorem exec_redAdd (x0 x1 x2 x3 x4 s) :
    exec (.redAdd x0 x1 x2 x3 x4) s = execRedAdd x0 x1 x2 x3 x4 s := rfl
@[simp] theorem exec_redAnd (x0 x1 x2 x3 x4 s) :
    exec (.redAnd x0 x1 x2 x3 x4) s = execRedAnd x0 x1 x2 x3 x4 s := rfl
@[simp] theorem exec_redOr (x0 x1 x2 x3 x4 s) :
    exec (.redOr x0 x1 x2 x3 x4) s = execRedOr x0 x1 x2 x3 x4 s := rfl
@[simp] theorem exec_redXor (x0 x1 x2 x3 x4 s) :
    exec (.redXor x0 x1 x2 x3 x4) s = execRedXor x0 x1 x2 x3 x4 s := rfl
@[simp] theorem exec_redMinI (x0 x1 x2 x3 x4 s) :
    exec (.redMinI x0 x1 x2 x3 x4) s = execRedMinI x0 x1 x2 x3 x4 s := rfl
@[simp] theorem exec_redMinN (x0 x1 x2 x3 x4 s) :
    exec (.redMinN x0 x1 x2 x3 x4) s = execRedMinN x0 x1 x2 x3 x4 s := rfl
@[simp] theorem exec_redMaxI (x0 x1 x2 x3 x4 s) :
    exec (.redMaxI x0 x1 x2 x3 x4) s = execRedMaxI x0 x1 x2 x3 x4 s := rfl
@[simp] theorem exec_redMaxN (x0 x1 x2 x3 x4 s) :
    exec (.redMaxN x0 x1 x2 x3 x4) s = execRedMaxN x0 x1 x2 x3 x4 s := rfl
@[simp] theorem exec_redExch (x0 x1 x2 x3 x4 s) :
    exec (.redExch x0 x1 x2 x3 x4) s = execRedExch x0 x1 x2 x3 x4 s := rfl
@[simp] theorem exec_redFadd (x0 x1 x2 x3 x4 s) :
    exec (.redFadd x0 x1 x2 x3 x4) s = execRedFadd x0 x1 x2 x3 x4 s := rfl
@[simp] theorem exec_redFmax (x0 x1 x2 x3 x4 s) :
    exec (.redFmax x0 x1 x2 x3 x4) s = execRedFmax x0 x1 x2 x3 x4 s := rfl
@[simp] theorem exec_redFmin (x0 x1 x2 x3 x4 s) :
    exec (.redFmin x0 x1 x2 x3 x4) s = execRedFmin x0 x1 x2 x3 x4 s := rfl
@[simp] theorem exec_cas (x0 x1 x2 x3 x4 s) :
    exec (.cas x0 x1 x2 x3 x4) s = execCas x0 x1 x2 x3 x4 s := rfl
@[simp] theorem exec_casD (x0 x1 x2 x3 x4 s) :
    exec (.casD x0 x1 x2 x3 x4) s = execCasD x0 x1 x2 x3 x4 s := rfl
@[simp] theorem exec_gtswap (x0 x1 x2 x3 x4 s) :
    exec (.gtswap x0 x1 x2 x3 x4) s = execGtswap x0 x1 x2 x3 x4 s := rfl
@[simp] theorem exec_gtswapD (x0 x1 x2 x3 x4 s) :
    exec (.gtswapD x0 x1 x2 x3 x4) s = execGtswapD x0 x1 x2 x3 x4 s := rfl
@[simp] theorem exec_vswap (x0 x1 x2 x3 x4 s) :
    exec (.vswap x0 x1 x2 x3 x4) s = execVswap x0 x1 x2 x3 x4 s := rfl
@[simp] theorem exec_tagswap (x0 x1 x2 x3 x4 s) :
    exec (.tagswap x0 x1 x2 x3 x4) s = execTagswap x0 x1 x2 x3 x4 s := rfl
@[simp] theorem exec_fence (x0 x1 x2 s) :
    exec (.fence x0 x1 x2) s = execFence x0 x1 x2 s := rfl
@[simp] theorem exec_clasp (x0 x1 x2 s) :
    exec (.clasp x0 x1 x2) s = execClasp x0 x1 x2 s := rfl
@[simp] theorem exec_pfetch (x0 x1 x2 x3 s) :
    exec (.pfetch x0 x1 x2 x3) s = execPfetch x0 x1 x2 x3 s := rfl
@[simp] theorem exec_cflush (x0 x1 x2 s) :
    exec (.cflush x0 x1 x2) s = execCflush x0 x1 x2 s := rfl
@[simp] theorem exec_cinv (x0 x1 x2 s) :
    exec (.cinv x0 x1 x2) s = execCinv x0 x1 x2 s := rfl
@[simp] theorem exec_femark (x0 x1 x2 x3 x4 s) :
    exec (.femark x0 x1 x2 x3 x4) s = execFemark x0 x1 x2 x3 x4 s := rfl
@[simp] theorem exec_cohset (x0 x1 x2 x3 s) :
    exec (.cohset x0 x1 x2 x3) s = execCohset x0 x1 x2 x3 s := rfl
@[simp] theorem exec_lkread (x0 x1 x2 s) :
    exec (.lkread x0 x1 x2) s = execLkread x0 x1 x2 s := rfl
@[simp] theorem exec_lkbind (x0 x1 x2 s) :
    exec (.lkbind x0 x1 x2) s = execLkbind x0 x1 x2 s := rfl
@[simp] theorem exec_lkrst (x0 x1 s) :
    exec (.lkrst x0 x1) s = execLkrst x0 x1 s := rfl
@[simp] theorem exec_mma (x0 x1 x2 x3 x4 s) :
    exec (.mma x0 x1 x2 x3 x4) s = execMma x0 x1 x2 x3 x4 s := rfl
@[simp] theorem exec_mmaX (x0 x1 x2 x3 x4 x5 s) :
    exec (.mmaX x0 x1 x2 x3 x4 x5) s = execMmaX x0 x1 x2 x3 x4 x5 s := rfl
@[simp] theorem exec_oprdy (x0 s) :
    exec (.oprdy x0) s = execOprdy x0 s := rfl
@[simp] theorem exec_mkdesc (x0 x1 x2 x3 s) :
    exec (.mkdesc x0 x1 x2 x3) s = execMkdesc x0 x1 x2 x3 s := rfl
@[simp] theorem exec_copy (x0 x1 x2 s) :
    exec (.copy x0 x1 x2) s = execCopy x0 x1 x2 s := rfl
@[simp] theorem exec_gather (x0 x1 x2 s) :
    exec (.gather x0 x1 x2) s = execGather x0 x1 x2 s := rfl
@[simp] theorem exec_scatter (x0 x1 x2 s) :
    exec (.scatter x0 x1 x2) s = execScatter x0 x1 x2 s := rfl
@[simp] theorem exec_mgt (x0 x1 x2 s) :
    exec (.mgt x0 x1 x2) s = execMgt x0 x1 x2 s := rfl
@[simp] theorem exec_coll (x0 x1 x2 s) :
    exec (.coll x0 x1 x2) s = execColl x0 x1 x2 s := rfl
@[simp] theorem exec_tsend (x0 x1 x2 s) :
    exec (.tsend x0 x1 x2) s = execTsend x0 x1 x2 s := rfl
@[simp] theorem exec_ctrset (x0 x1 x2 s) :
    exec (.ctrset x0 x1 x2) s = execCtrset x0 x1 x2 s := rfl
@[simp] theorem exec_ctradd (x0 x1 x2 s) :
    exec (.ctradd x0 x1 x2) s = execCtradd x0 x1 x2 s := rfl
@[simp] theorem exec_ctrrd (x0 x1 x2 s) :
    exec (.ctrrd x0 x1 x2) s = execCtrrd x0 x1 x2 s := rfl
@[simp] theorem exec_chsend (x0 x1 x2 s) :
    exec (.chsend x0 x1 x2) s = execChsend x0 x1 x2 s := rfl
@[simp] theorem exec_chrecv (x0 x1 x2 s) :
    exec (.chrecv x0 x1 x2) s = execChrecv x0 x1 x2 s := rfl
@[simp] theorem exec_hwait (x0 x1 x2 s) :
    exec (.hwait x0 x1 x2) s = execHwait x0 x1 x2 s := rfl
@[simp] theorem exec_htest (x0 x1 x2 s) :
    exec (.htest x0 x1 x2) s = execHtest x0 x1 x2 s := rfl
@[simp] theorem exec_hcancel (x0 x1 s) :
    exec (.hcancel x0 x1) s = execHcancel x0 x1 s := rfl
@[simp] theorem exec_hsave (x0 x1 x2 s) :
    exec (.hsave x0 x1 x2) s = execHsave x0 x1 x2 s := rfl
@[simp] theorem exec_hload (x0 x1 x2 s) :
    exec (.hload x0 x1 x2) s = execHload x0 x1 x2 s := rfl
@[simp] theorem exec_hmov (x0 x1 x2 s) :
    exec (.hmov x0 x1 x2) s = execHmov x0 x1 x2 s := rfl
@[simp] theorem exec_bra (x0 s) :
    exec (.bra x0) s = execBra x0 s := rfl
@[simp] theorem exec_bany (x0 x1 s) :
    exec (.bany x0 x1) s = execBany x0 x1 s := rfl
@[simp] theorem exec_ball (x0 x1 s) :
    exec (.ball x0 x1) s = execBall x0 x1 s := rfl
@[simp] theorem exec_bnone (x0 x1 s) :
    exec (.bnone x0 x1) s = execBnone x0 x1 s := rfl
@[simp] theorem exec_bdiv (x0 x1 s) :
    exec (.bdiv x0 x1) s = execBdiv x0 x1 s := rfl
@[simp] theorem exec_call (x0 x1 s) :
    exec (.call x0 x1) s = execCall x0 x1 s := rfl
@[simp] theorem exec_ret (x0 s) :
    exec (.ret x0) s = execRet x0 s := rfl
@[simp] theorem exec_brx (x0 x1 s) :
    exec (.brx x0 x1) s = execBrx x0 x1 s := rfl
@[simp] theorem exec_rejoin (x0 s) :
    exec (.rejoin x0) s = execRejoin x0 s := rfl
@[simp] theorem exec_exit (x0 s) :
    exec (.exit x0) s = execExit x0 s := rfl
@[simp] theorem exec_yield (x0 s) :
    exec (.yield x0) s = execYield x0 s := rfl
@[simp] theorem exec_bar (x0 x1 x2 s) :
    exec (.bar x0 x1 x2) s = execBar x0 x1 x2 s := rfl
@[simp] theorem exec_binit (x0 x1 x2 x3 s) :
    exec (.binit x0 x1 x2 x3) s = execBinit x0 x1 x2 x3 s := rfl
@[simp] theorem exec_setfmt (x0 x1 s) :
    exec (.setfmt x0 x1) s = execSetfmt x0 x1 s := rfl
@[simp] theorem exec_getfmt (x0 x1 s) :
    exec (.getfmt x0 x1) s = execGetfmt x0 x1 s := rfl
@[simp] theorem exec_sread (x0 x1 x2 s) :
    exec (.sread x0 x1 x2) s = execSread x0 x1 x2 s := rfl
@[simp] theorem exec_swrite (x0 x1 x2 s) :
    exec (.swrite x0 x1 x2) s = execSwrite x0 x1 x2 s := rfl
@[simp] theorem exec_trap (x0 x1 s) :
    exec (.trap x0 x1) s = execTrap x0 x1 s := rfl
@[simp] theorem exec_eret (x0 s) :
    exec (.eret x0) s = execEret x0 s := rfl
@[simp] theorem exec_eretNext (x0 s) :
    exec (.eretNext x0) s = execEretNext x0 s := rfl
@[simp] theorem exec_tlbinv (x0 x1 x2 x3 s) :
    exec (.tlbinv x0 x1 x2 x3) s = execTlbinv x0 x1 x2 x3 s := rfl
@[simp] theorem exec_locketMerge (x0 s) :
    exec (.locketMerge x0) s = execLocketMerge x0 s := rfl
@[simp] theorem exec_locketCacheExpire (x0 x1 s) :
    exec (.locketCacheExpire x0 x1) s = execLocketCacheExpire x0 x1 s := rfl
@[simp] theorem exec_mmaPassGrant (x0 s) :
    exec (.mmaPassGrant x0) s = execMmaPassGrant x0 s := rfl
@[simp] theorem exec_mmaPromote (x0 s) :
    exec (.mmaPromote x0) s = execMmaPromote x0 s := rfl
@[simp] theorem exec_mmaPassDone (x0 s) :
    exec (.mmaPassDone x0) s = execMmaPassDone x0 s := rfl
@[simp] theorem exec_copySetStart (x0 s) :
    exec (.copySetStart x0) s = execCopySetStart x0 s := rfl
@[simp] theorem exec_engineTransferChunk (x0 x1 s) :
    exec (.engineTransferChunk x0 x1) s = execEngineTransferChunk x0 x1 s := rfl
@[simp] theorem exec_engineTranslationCheck (x0 s) :
    exec (.engineTranslationCheck x0) s = execEngineTranslationCheck x0 s := rfl
@[simp] theorem exec_engineCommandDone (x0 s) :
    exec (.engineCommandDone x0) s = execEngineCommandDone x0 s := rfl
@[simp] theorem exec_collStart (x0 s) :
    exec (.collStart x0) s = execCollStart x0 s := rfl
@[simp] theorem exec_collResolve (x0 s) :
    exec (.collResolve x0) s = execCollResolve x0 s := rfl
@[simp] theorem exec_tsendFire (x0 s) :
    exec (.tsendFire x0) s = execTsendFire x0 s := rfl
@[simp] theorem exec_tsendComplete (x0 s) :
    exec (.tsendComplete x0) s = execTsendComplete x0 s := rfl
@[simp] theorem exec_counterIncrement (x0 s) :
    exec (.counterIncrement x0) s = execCounterIncrement x0 s := rfl
@[simp] theorem exec_yieldHoldExpire (x0 x1 s) :
    exec (.yieldHoldExpire x0 x1) s = execYieldHoldExpire x0 x1 s := rfl
@[simp] theorem exec_barrierWake (x0 s) :
    exec (.barrierWake x0) s = execBarrierWake x0 s := rfl
@[simp] theorem exec_regang (x0 s) :
    exec (.regang x0) s = execRegang x0 s := rfl
@[simp] theorem exec_sideStarvationIssue (x0 x1 s) :
    exec (.sideStarvationIssue x0 x1) s = execSideStarvationIssue x0 x1 s := rfl
@[simp] theorem exec_groupMark (x0 s) :
    exec (.groupMark x0) s = execGroupMark x0 s := rfl
@[simp] theorem exec_recordFetch (x0 x1 s) :
    exec (.recordFetch x0 x1) s = execRecordFetch x0 x1 s := rfl
@[simp] theorem exec_queueSweep (x0 s) :
    exec (.queueSweep x0) s = execQueueSweep x0 s := rfl
@[simp] theorem exec_residencyScan (x0 s) :
    exec (.residencyScan x0) s = execResidencyScan x0 s := rfl
@[simp] theorem exec_queueEmptyTimeout (x0 x1 s) :
    exec (.queueEmptyTimeout x0 x1) s = execQueueEmptyTimeout x0 x1 s := rfl
@[simp] theorem exec_evictionComplete (x0 x1 s) :
    exec (.evictionComplete x0 x1) s = execEvictionComplete x0 x1 s := rfl
@[simp] theorem exec_gangDispatch (x0 x1 s) :
    exec (.gangDispatch x0 x1) s = execGangDispatch x0 x1 s := rfl
@[simp] theorem exec_launchComplete (x0 s) :
    exec (.launchComplete x0) s = execLaunchComplete x0 s := rfl
@[simp] theorem exec_markerComplete (x0 s) :
    exec (.markerComplete x0) s = execMarkerComplete x0 s := rfl
@[simp] theorem exec_channelOccupancySample (x0 s) :
    exec (.channelOccupancySample x0) s = execChannelOccupancySample x0 s := rfl
@[simp] theorem exec_frameStart (x0 s) :
    exec (.frameStart x0) s = execFrameStart x0 s := rfl
@[simp] theorem exec_slotLeadStart (x0 x1 s) :
    exec (.slotLeadStart x0 x1) s = execSlotLeadStart x0 x1 s := rfl
@[simp] theorem exec_slotEdge (x0 x1 s) :
    exec (.slotEdge x0 x1) s = execSlotEdge x0 x1 s := rfl
@[simp] theorem exec_engineSuspend (x0 s) :
    exec (.engineSuspend x0) s = execEngineSuspend x0 s := rfl
@[simp] theorem exec_drainDone (x0 x1 s) :
    exec (.drainDone x0 x1) s = execDrainDone x0 x1 s := rfl
@[simp] theorem exec_ceHandover (x0 x1 s) :
    exec (.ceHandover x0 x1) s = execCeHandover x0 x1 s := rfl
@[simp] theorem exec_saveDone (x0 x1 s) :
    exec (.saveDone x0 x1) s = execSaveDone x0 x1 s := rfl
@[simp] theorem exec_restoreDone (x0 x1 s) :
    exec (.restoreDone x0 x1) s = execRestoreDone x0 x1 s := rfl
@[simp] theorem exec_vfIdleYield (x0 x1 s) :
    exec (.vfIdleYield x0 x1) s = execVfIdleYield x0 x1 s := rfl
@[simp] theorem exec_sltEnable (x0 s) :
    exec (.sltEnable x0) s = execSltEnable x0 s := rfl
@[simp] theorem exec_sltDisable (x0 s) :
    exec (.sltDisable x0) s = execSltDisable x0 s := rfl
@[simp] theorem exec_sltSwapRequest (x0 s) :
    exec (.sltSwapRequest x0) s = execSltSwapRequest x0 s := rfl
@[simp] theorem exec_sltFrameWrite (x0 x1 s) :
    exec (.sltFrameWrite x0 x1) s = execSltFrameWrite x0 x1 s := rfl
@[simp] theorem exec_sltLeadWrite (x0 x1 s) :
    exec (.sltLeadWrite x0 x1) s = execSltLeadWrite x0 x1 s := rfl
@[simp] theorem exec_configRegisterWrite (x0 x1 x2 x3 s) :
    exec (.configRegisterWrite x0 x1 x2 x3) s = execConfigRegisterWrite x0 x1 x2 x3 s := rfl
@[simp] theorem exec_linkBucketRefill (x0 s) :
    exec (.linkBucketRefill x0) s = execLinkBucketRefill x0 s := rfl
@[simp] theorem exec_hbmBucketRefill (x0 s) :
    exec (.hbmBucketRefill x0) s = execHbmBucketRefill x0 s := rfl
@[simp] theorem exec_preemptRequest (x0 x1 s) :
    exec (.preemptRequest x0 x1) s = execPreemptRequest x0 x1 s := rfl
@[simp] theorem exec_pageFaultServiced (x0 x1 x2 x3 s) :
    exec (.pageFaultServiced x0 x1 x2 x3) s = execPageFaultServiced x0 x1 x2 x3 s := rfl
@[simp] theorem exec_pageFaultUnresolvable (x0 x1 s) :
    exec (.pageFaultUnresolvable x0 x1) s = execPageFaultUnresolvable x0 x1 s := rfl
@[simp] theorem exec_transitCopyResolve (x0 x1 s) :
    exec (.transitCopyResolve x0 x1) s = execTransitCopyResolve x0 x1 s := rfl
@[simp] theorem exec_cohTransitionFlip (x0 s) :
    exec (.cohTransitionFlip x0) s = execCohTransitionFlip x0 s := rfl
@[simp] theorem exec_dirRegionMerge (x0 x1 x2 s) :
    exec (.dirRegionMerge x0 x1 x2) s = execDirRegionMerge x0 x1 x2 s := rfl
@[simp] theorem exec_clusterSleep (x0 x1 s) :
    exec (.clusterSleep x0 x1) s = execClusterSleep x0 x1 s := rfl
@[simp] theorem exec_clusterWake (x0 x1 s) :
    exec (.clusterWake x0 x1) s = execClusterWake x0 x1 s := rfl
@[simp] theorem exec_hostMemoryWrite (x0 x1 x2 x3 s) :
    exec (.hostMemoryWrite x0 x1 x2 x3) s = execHostMemoryWrite x0 x1 x2 x3 s := rfl
@[simp] theorem exec_hostMemoryRead (x0 x1 x2 x3 s) :
    exec (.hostMemoryRead x0 x1 x2 x3) s = execHostMemoryRead x0 x1 x2 x3 s := rfl
@[simp] theorem exec_qcreate (x0 x1 s) :
    exec (.qcreate x0 x1) s = execQcreate x0 x1 s := rfl
@[simp] theorem exec_qdestroy (x0 x1 s) :
    exec (.qdestroy x0 x1) s = execQdestroy x0 x1 s := rfl
@[simp] theorem exec_vfjoin (x0 x1 s) :
    exec (.vfjoin x0 x1) s = execVfjoin x0 x1 s := rfl
@[simp] theorem exec_partmove (x0 x1 s) :
    exec (.partmove x0 x1) s = execPartmove x0 x1 s := rfl
@[simp] theorem exec_hacomp (x0 x1 s) :
    exec (.hacomp x0 x1) s = execHacomp x0 x1 s := rfl
@[simp] theorem exec_peerdown (x0 x1 s) :
    exec (.peerdown x0 x1) s = execPeerdown x0 x1 s := rfl
@[simp] theorem exec_fwload (x0 x1 s) :
    exec (.fwload x0 x1) s = execFwload x0 x1 s := rfl
@[simp] theorem exec_hsemAcquire (x0 x1 s) :
    exec (.hsemAcquire x0 x1) s = execHsemAcquire x0 x1 s := rfl
@[simp] theorem exec_hsemRelease (x0 x1 s) :
    exec (.hsemRelease x0 x1) s = execHsemRelease x0 x1 s := rfl
@[simp] theorem exec_hsemTimeout (x0 s) :
    exec (.hsemTimeout x0) s = execHsemTimeout x0 s := rfl
@[simp] theorem exec_haEventWrite (x0 s) :
    exec (.haEventWrite x0) s = execHaEventWrite x0 s := rfl
@[simp] theorem exec_haTimeout (x0 s) :
    exec (.haTimeout x0) s = execHaTimeout x0 s := rfl
@[simp] theorem exec_xeSubSubmit (x0 x1 x2 s) :
    exec (.xeSubSubmit x0 x1 x2) s = execXeSubSubmit x0 x1 x2 s := rfl
@[simp] theorem exec_spdmGetVersion (x0 x1 s) :
    exec (.spdmGetVersion x0 x1) s = execSpdmGetVersion x0 x1 s := rfl
@[simp] theorem exec_spdmGetCapabilities (x0 x1 s) :
    exec (.spdmGetCapabilities x0 x1) s = execSpdmGetCapabilities x0 x1 s := rfl
@[simp] theorem exec_spdmNegotiateAlgorithms (x0 x1 s) :
    exec (.spdmNegotiateAlgorithms x0 x1) s = execSpdmNegotiateAlgorithms x0 x1 s := rfl
@[simp] theorem exec_spdmGetDigests (x0 x1 s) :
    exec (.spdmGetDigests x0 x1) s = execSpdmGetDigests x0 x1 s := rfl
@[simp] theorem exec_spdmGetCertificate (x0 x1 s) :
    exec (.spdmGetCertificate x0 x1) s = execSpdmGetCertificate x0 x1 s := rfl
@[simp] theorem exec_spdmChallenge (x0 x1 x2 s) :
    exec (.spdmChallenge x0 x1 x2) s = execSpdmChallenge x0 x1 x2 s := rfl
@[simp] theorem exec_spdmGetMeasurements (x0 x1 x2 x3 s) :
    exec (.spdmGetMeasurements x0 x1 x2 x3) s = execSpdmGetMeasurements x0 x1 x2 x3 s := rfl
@[simp] theorem exec_flitReceive (x0 x1 x2 s) :
    exec (.flitReceive x0 x1 x2) s = execFlitReceive x0 x1 x2 s := rfl
@[simp] theorem exec_linkTimeout (x0 x1 s) :
    exec (.linkTimeout x0 x1) s = execLinkTimeout x0 x1 s := rfl
@[simp] theorem exec_keepaliveSend (x0 x1 s) :
    exec (.keepaliveSend x0 x1) s = execKeepaliveSend x0 x1 s := rfl
@[simp] theorem exec_domainForm (x0 s) :
    exec (.domainForm x0) s = execDomainForm x0 s := rfl
@[simp] theorem exec_peerRouteTimeout (x0 x1 s) :
    exec (.peerRouteTimeout x0 x1) s = execPeerRouteTimeout x0 x1 s := rfl
@[simp] theorem exec_peerLossAgree (x0 s) :
    exec (.peerLossAgree x0) s = execPeerLossAgree x0 s := rfl
@[simp] theorem exec_homePromoted (x0 s) :
    exec (.homePromoted x0) s = execHomePromoted x0 s := rfl
@[simp] theorem exec_mirrorRebuildDone (x0 s) :
    exec (.mirrorRebuildDone x0) s = execMirrorRebuildDone x0 s := rfl
@[simp] theorem exec_eccCorrectable (x0 x1 s) :
    exec (.eccCorrectable x0 x1) s = execEccCorrectable x0 x1 s := rfl
@[simp] theorem exec_eccUncorrectable (x0 x1 s) :
    exec (.eccUncorrectable x0 x1) s = execEccUncorrectable x0 x1 s := rfl
@[simp] theorem exec_patrolScrub (x0 s) :
    exec (.patrolScrub x0) s = execPatrolScrub x0 s := rfl
@[simp] theorem exec_packageReset (x0 s) :
    exec (.packageReset x0) s = execPackageReset x0 s := rfl
@[simp] theorem exec_vfFlr (x0 x1 s) :
    exec (.vfFlr x0 x1) s = execVfFlr x0 x1 s := rfl
@[simp] theorem exec_lineEviction (x0 x1 x2 x3 s) :
    exec (.lineEviction x0 x1 x2 x3) s = execLineEviction x0 x1 x2 x3 s := rfl
@[simp] theorem exec_powerThrottling (x0 x1 s) :
    exec (.powerThrottling x0 x1) s = execPowerThrottling x0 x1 s := rfl

end Sys2Proof.Machine
end

