-- ==== Sys2Proof/Laws/Memory.lean ====
section
/-!
SUPPORT. Sys2Proof/Laws/Memory.lean: every operation over a memory keeps its canonical form (notes/assumptions/1.md).
-/
namespace Sys2Proof.Machine

/-- A memory that rises from an address rises from every lower one. -/
theorem Memory.wfFrom_mono {lo lo' : Nat} {m : Mem} (h : lo' ≤ lo) (w : Memory.wfFrom lo m = true) :
    Memory.wfFrom lo' m = true := by
  cases m with
  | nil => rfl
  | cons x r =>
    simp only [Memory.wfFrom, Bool.and_eq_true, decide_eq_true_eq] at w ⊢
    exact ⟨⟨by omega, w.1.2⟩, w.2⟩

theorem Memory.wfFrom_cons {lo k : Nat} {x : Byte} {r : Mem} :
    Memory.wfFrom lo ((k, x) :: r) = true ↔ lo ≤ k ∧ x ≠ 0 ∧ Memory.wfFrom (k + 1) r = true := by
  simp [Memory.wfFrom, and_assoc]

theorem Memory.wfFrom_write (a : Nat) (b : Byte) : ∀ {m : Mem} {lo : Nat}, lo ≤ a → Memory.wfFrom lo m = true →
    Memory.wfFrom lo (Memory.write m a b) = true
  | [], lo, h, _ => by
    unfold Memory.write
    split
    · rfl
    · exact Memory.wfFrom_cons.mpr ⟨h, ‹_›, rfl⟩
  | (k, x) :: r, lo, h, w => by
    obtain ⟨hk, hx, hr⟩ := Memory.wfFrom_cons.mp w
    unfold Memory.write
    split
    · exact Memory.wfFrom_cons.mpr ⟨hk, hx, Memory.wfFrom_write a b (by omega) hr⟩
    · split
      · split
        · exact Memory.wfFrom_mono (by omega) hr
        · exact Memory.wfFrom_cons.mpr ⟨h, ‹_›, by subst_vars; exact hr⟩
      · split
        · exact w
        · exact Memory.wfFrom_cons.mpr ⟨h, ‹_›, Memory.wfFrom_cons.mpr ⟨by omega, hx, hr⟩⟩

/-- Writing a byte keeps the form. -/
theorem Memory.wf_write (m : Mem) (a : Nat) (b : Byte) (w : Memory.wf m = true) : Memory.wf (Memory.write m a b) = true :=
  Memory.wfFrom_write a b (Nat.zero_le a) w

/-- Writing bytes keeps the form. -/
theorem Memory.wf_writeN (a : Nat) (bs : List Byte) : ∀ (m : Mem), Memory.wf m = true → Memory.wf (Memory.writeN m a bs) = true := by
  induction bs generalizing a with
  | nil => exact fun _ w => w
  | cons b bs ih => exact fun m w => ih (a + 1) _ (Memory.wf_write m a b w)

theorem Memory.wfFrom_filter (p : Nat × Byte → Bool) : ∀ {m : Mem} {lo : Nat}, Memory.wfFrom lo m = true →
    Memory.wfFrom lo (m.filter p) = true
  | [], _, _ => rfl
  | (k, x) :: r, lo, w => by
    obtain ⟨hk, hx, hr⟩ := Memory.wfFrom_cons.mp w
    rw [List.filter_cons]
    split
    · exact Memory.wfFrom_cons.mpr ⟨hk, hx, Memory.wfFrom_filter p hr⟩
    · exact Memory.wfFrom_mono (by omega) (Memory.wfFrom_filter p hr)

/-- Copying a range keeps the form. -/
theorem Memory.wf_copy (m : Mem) (base n new : Nat) (w : Memory.wf m = true) : Memory.wf (Memory.copy m base n new) = true := by
  unfold Memory.copy
  generalize m.filter (fun x => decide (base ≤ x.1) && decide (x.1 < base + n)) = l
  have h : Memory.wf (m.filter (fun x => decide (x.1 < new) || decide (new + n ≤ x.1))) = true := Memory.wfFrom_filter _ w
  generalize m.filter (fun x => decide (x.1 < new) || decide (new + n ≤ x.1)) = m0 at h
  induction l generalizing m0 with
  | nil => exact h
  | cons x r ih => exact ih _ (Memory.wf_write _ _ _ h)

/-- Clearing a range keeps the form. -/
theorem Mem.wf_clear (m : Mem) (lo hi : Nat) (w : Memory.wf m = true) : Memory.wf (m.clear lo hi) = true :=
  Memory.wfFrom_filter _ w

end Sys2Proof.Machine
end

