-- ==== Sys2Proof/Laws/Ops.lean ====
section
/-!
SUPPORT. Sys2Proof/Laws/Ops.lean: one lemma for each shared operation of a word: what it does, said once.
-/
namespace Sys2Proof.Machine

/-! ### Replacing one element -/

/-- Replacing the first element that a test picks, where the test still picks it. -/
theorem List.modFirst_find_same {α : Type} (p : α → Bool) (f : α → α) (l : List α)
    (h : ∀ x, p x = true → p (f x) = true) : (List.modFirst p f l).find? p = (l.find? p).map f := by
  induction l with
  | nil => rfl
  | cons x r ih =>
    by_cases hp : p x = true
    · simp [List.modFirst, hp, h x hp]
    · simp [List.modFirst, hp, ih]

/-- The first element with another key is left alone. -/
theorem List.modFirst_find_other {α : Type} (p q : α → Bool) (f : α → α) (l : List α)
    (h : ∀ x, p x = true → q x = false ∧ q (f x) = false) : (List.modFirst p f l).find? q = l.find? q := by
  induction l with
  | nil => rfl
  | cons x r ih =>
    by_cases hp : p x = true
    · simp [List.modFirst, hp, h x hp]
    · simp [List.modFirst, hp, ih, List.find?_cons]

/-- Replacing the first picked element by itself changes nothing. -/
theorem List.modFirst_id {α : Type} (p : α → Bool) (f : α → α) (l : List α)
    (h : ∀ x, l.find? p = some x → f x = x) : List.modFirst p f l = l := by
  induction l with
  | nil => rfl
  | cons x r ih =>
    by_cases hp : p x = true
    · simp [List.modFirst, hp, h x (by simp [hp])]
    · simp only [List.modFirst, hp, Bool.false_eq_true, if_false]
      rw [ih]
      intro y hy
      exact h y (by simp [hp, hy])

/-! ### Numbers in memory -/

@[simp] theorem toLE_length (k n : Nat) : (toLE k n).length = k := by
  induction k generalizing n with
  | zero => rfl
  | succ k ih => simp [toLE, ih]

/-- A number read back from its bytes, as far as they hold it. -/
theorem leNat_toLE (k n : Nat) : leNat (toLE k n) = n % 256 ^ k := by
  induction k generalizing n with
  | zero => simp [toLE, leNat, Nat.mod_one]
  | succ k ih =>
    have h : leNat (toLE (k + 1) n) = n % 256 + 256 * leNat (toLE k (n / 256)) := by simp [toLE, leNat]
    rw [h, ih, Nat.pow_succ, Nat.mul_comm (256 ^ k) 256, Nat.mod_mul]

/-! ### Agents -/

theorem State.agent?_id {s : State} {i : Nat} {a : Agent} (h : s.agent? i = some a) : a.id = i := by
  have := List.find?_some h
  simpa using this

/-- The agent that was changed. -/
theorem State.agent?_modAgent (s : State) (i : Nat) (f : Agent → Agent) (hf : ∀ a, a.id = i → (f a).id = i) :
    (s.modAgent i f).agent? i = (s.agent? i).map f :=
  List.modFirst_find_same _ f s.agents (fun x hx => by simpa using hf x (by simpa using hx))

/-- Every other agent is as it was. -/
theorem State.agent?_modAgent_ne (s : State) (i j : Nat) (f : Agent → Agent) (hf : ∀ a, a.id = i → (f a).id = i)
    (h : j ≠ i) : (s.modAgent i f).agent? j = s.agent? j := by
  refine List.modFirst_find_other _ _ f s.agents (fun x hx => ?_)
  have hi : x.id = i := by simpa using hx
  simp [hi, hf x hi, Ne.symm h]

/-- Writing an agent back as it stands changes nothing. -/
theorem State.setAgent_self {s : State} {i : Nat} {a : Agent} (h : s.agent? i = some a) : s.setAgent a = s := by
  have hi := State.agent?_id h
  simp only [State.setAgent, State.modAgent]
  rw [List.modFirst_id]
  intro x hx
  rw [hi] at hx
  exact (Option.some.inj ((show s.agents.find? (fun a => a.id == i) = some a from h).symm.trans hx))

/-! ### The issuing side -/

/-- What the issuing side is: the cursor names its agent and slot. -/
theorem State.issuer?_spec {s : State} {a : Agent} {sd : Side} {c : Cursor} (h : s.issuer? = some (a, sd, c)) :
    s.cur = some c ∧ s.agent? c.agent = some a ∧ a.side c.slot = some sd := by
  unfold State.issuer? at h
  split at h
  · cases h
  · rename_i c' hc
    split at h
    · cases h
    · rename_i a' ha
      split at h
      · cases h
      · rename_i sd' hs
        cases h
        exact ⟨hc, ha, hs⟩

/-- A word with an issuing side is carried out through it. -/
theorem withIssuer_next {s : State} {a : Agent} {sd : Side} {c : Cursor} (h : s.issuer? = some (a, sd, c))
    (k : Agent → Side → Cursor → State) : withIssuer s k = .next (k a sd c) := by
  unfold withIssuer
  rw [h]

/-- A word without an issuing side stops with the fault noIssuer. -/
theorem withIssuer_fault {s : State} (h : s.issuer? = none) (k : Agent → Side → Cursor → State) :
    withIssuer s k = .fault .noIssuer := by
  unfold withIssuer
  rw [h]

/-! ### Register ranges (R308, R316 order 4) -/

/-- The step of `lowestBeyond`. -/
def lowestStep (n : Nat) (acc : Option Nat) (r : Nat) : Option Nat :=
  if r < n then acc else
    match acc with
    | none => some r
    | some q => some (if r < q then r else q)

theorem lowestBeyond_cons (n r : Nat) (l : List Nat) :
    lowestBeyond n (r :: l) = l.foldl (lowestStep n) (lowestStep n none r) := rfl

theorem lowestFold_none (n : Nat) (l : List Nat) (acc : Option Nat) :
    l.foldl (lowestStep n) acc = none ↔ acc = none ∧ ∀ r ∈ l, r < n := by
  induction l generalizing acc with
  | nil => simp
  | cons r t ih =>
    simp only [List.foldl_cons, ih, List.mem_cons, forall_eq_or_imp, lowestStep]
    by_cases h : r < n
    · simp [h]
    · cases acc <;> simp [h]

/-- No named register is at or beyond the allocation. -/
theorem lowestBeyond_none (n : Nat) (l : List Nat) : lowestBeyond n l = none ↔ ∀ r ∈ l, r < n := by
  show l.foldl (lowestStep n) none = none ↔ _
  rw [lowestFold_none]
  simp

theorem lowestFold_some (n : Nat) (l : List Nat) (acc : Option Nat) (q : Nat)
    (h : l.foldl (lowestStep n) acc = some q) :
    (acc = some q ∨ (q ∈ l ∧ n ≤ q)) ∧ (∀ p, acc = some p → q ≤ p) ∧ ∀ r ∈ l, n ≤ r → q ≤ r := by
  induction l generalizing acc with
  | nil => simp_all
  | cons r t ih =>
    simp only [List.foldl_cons] at h
    have ⟨h1, h2, h3⟩ := ih _ h
    by_cases hr : r < n
    · simp only [lowestStep, hr, if_true] at h1 h2
      refine ⟨?_, h2, ?_⟩
      · rcases h1 with h1 | h1
        · exact .inl h1
        · exact .inr ⟨by simp [h1.1], h1.2⟩
      · intro x hx hn
        rcases List.mem_cons.mp hx with rfl | hx
        · omega
        · exact h3 x hx hn
    · cases acc with
      | none =>
        simp only [lowestStep, hr, if_false, Option.some.injEq] at h1 h2
        refine ⟨.inr ?_, by simp, ?_⟩
        · rcases h1 with h1 | h1
          · subst h1; exact ⟨by simp, by omega⟩
          · exact ⟨by simp [h1.1], h1.2⟩
        · intro x hx hn
          rcases List.mem_cons.mp hx with rfl | hx
          · exact h2 _ rfl
          · exact h3 x hx hn
      | some p =>
        simp only [lowestStep, hr, if_false, Option.some.injEq] at h1 h2
        have h2' := h2 _ rfl
        refine ⟨?_, ?_, ?_⟩
        · rcases h1 with h1 | h1
          · by_cases hp : r < p
            · rw [if_pos hp] at h1; subst h1; exact .inr ⟨by simp, by omega⟩
            · rw [if_neg hp] at h1; subst h1; exact .inl rfl
          · exact .inr ⟨by simp [h1.1], h1.2⟩
        · intro x hx
          cases hx
          split at h2' <;> omega
        · intro x hx hn
          rcases List.mem_cons.mp hx with rfl | hx
          · split at h2' <;> omega
          · exact h3 x hx hn

/-- The lowest of the named registers at or beyond the allocation. -/
theorem lowestBeyond_some {n : Nat} {l : List Nat} {q : Nat} (h : lowestBeyond n l = some q) :
    q ∈ l ∧ n ≤ q ∧ ∀ r ∈ l, n ≤ r → q ≤ r := by
  have ⟨h1, _, h3⟩ := lowestFold_some n l none q h
  rcases h1 with h1 | h1
  · cases h1
  · exact ⟨h1.1, h1.2, h3⟩

/-! ### Vector and scalar words -/

/-- A vector word of a group whose allocation holds its registers is carried out. -/
theorem vecWord_next {s : State} {a : Agent} {sd : Side} {c : Cursor} {regs : List Nat}
    (h : s.issuer? = some (a, sd, c)) (hc : a.isCc = false) (hr : ∀ r ∈ regs, r < a.nregs)
    (k : Agent → Side → Cursor → State) : vecWord s regs k = .next (k a sd c) := by
  unfold vecWord
  rw [withIssuer_next h]
  simp [vecCheck, hc, (lowestBeyond_none a.nregs regs).mpr hr]

/-- A vector word on a control core raises ILLEGAL_INSTR. -/
theorem vecWord_cc {s : State} {a : Agent} {sd : Side} {c : Cursor} {regs : List Nat}
    (h : s.issuer? = some (a, sd, c)) (hc : a.isCc = true) (k : Agent → Side → Cursor → State) :
    vecWord s regs k = .next (s.trap a sd c (Trap.plain Cause.illegalInstr c.raw)) := by
  unfold vecWord
  rw [withIssuer_next h]
  simp [vecCheck, hc]

/-- A vector word that names a register beyond the allocation raises REG_RANGE with the lowest of them. -/
theorem vecWord_range {s : State} {a : Agent} {sd : Side} {c : Cursor} {regs : List Nat} {q : Nat}
    (h : s.issuer? = some (a, sd, c)) (hc : a.isCc = false) (hq : lowestBeyond a.nregs regs = some q)
    (k : Agent → Side → Cursor → State) :
    vecWord s regs k = .next (s.trap a sd c (Trap.plain Cause.regRange (BitVec.ofNat 32 q))) := by
  unfold vecWord
  rw [withIssuer_next h]
  simp [vecCheck, hc, hq]

/-- A scalar-form word acts where its guard is true in some lane of the side, and else only advances. -/
theorem scalarWord_next {s : State} {a : Agent} {sd : Side} {c : Cursor} (h : s.issuer? = some (a, sd, c))
    (g : Pred) (k : Agent → Side → Cursor → State) :
    scalarWord s g k = .next (if activeMask a sd g = 0 then s.retire c else k a sd c) := by
  unfold scalarWord
  rw [withIssuer_next h]
  by_cases hm : activeMask a sd g = 0 <;> simp [scalarGuard, hm]

/-! ### The directory (R185, R191) -/

/-- A step that keeps a part of the state keeps it over a list. -/
theorem foldl_keeps {α β : Type} (f : State → α) (g : State → β → State) (h : ∀ s x, f (g s x) = f s) (l : List β) (s : State) :
    f (l.foldl g s) = f s := by
  induction l generalizing s with
  | nil => rfl
  | cons x r ih => rw [List.foldl_cons, ih, h]

/-- What the directory and the copies do changes nothing but the packages and what they send. -/
theorem State.hardTouch_frame (s : State) (w : Who) (line : Nat) (write keep : Bool) :
    (s.hardTouch w line write keep).ctl = s.ctl ∧ (s.hardTouch w line write keep).ten = s.ten ∧
      (s.hardTouch w line write keep).agents = s.agents ∧ (s.hardTouch w line write keep).crews = s.crews := by
  let f (s : State) := (s.ctl, s.ten, s.agents, s.crews)
  suffices f (s.hardTouch w line write keep) = f s by simpa [f] using this
  have carry (s : State) (vc : Nat) (k : FlitKind) (src dst addr : Nat) (bs : List Byte) : f (s.carry vc k src dst addr bs) = f s := by
    unfold State.carry; split <;> rfl
  have probe (owed : Pkg → List Byte) (s : State) (p : Pkg) : f (s.probe p.num line (owed p)) = f s := by
    rw [State.probe, carry, carry]
  have note : f (s.dirNote w line) = f s := by
    unfold State.dirNote
    split
    · rfl
    · simp only; split <;> rfl
  have mod (s : State) (n : Nat) (g : Pkg → Pkg) : f (s.modPkg n g) = f s := rfl
  have start : f (if s.hardHit w line write then s else s.dirNote w line) = f s := by
    split
    · rfl
    · exact note
  unfold State.hardTouch
  simp only
  split
  · rw [foldl_keeps f _ (probe _), ← start]; split <;> rfl
  · rw [apply_ite f, mod, ite_self, foldl_keeps f _ (probe _), ← start]; split <;> rfl

/-- R185: a package's own write changes its bytes of control memory alone, beside the packages and what they send. -/
theorem State.ownWrite_frame (s : State) (pkg pa : Nat) (bs : List Byte) :
    (s.ownWrite pkg pa bs).ctl = Memory.writeN s.ctl pa bs ∧ (s.ownWrite pkg pa bs).ten = s.ten ∧
      (s.ownWrite pkg pa bs).agents = s.agents ∧ (s.ownWrite pkg pa bs).crews = s.crews := by
  let f (s : State) := (s.ctl, s.ten, s.agents, s.crews)
  have h (s : State) (l : Nat) : f (s.hardTouch (whoHost pkg) l true false) = f s := by
    simpa [f] using s.hardTouch_frame (whoHost pkg) l true false
  have := foldl_keeps f _ h (linesOf pa bs.length) ((s.note .ctl pa bs.length).setMem .ctl (Memory.writeN s.ctl pa bs))
  simpa [f, State.ownWrite, State.hostLines, State.note, State.setMem] using this

end Sys2Proof.Machine
end

