-- ==== Sys2Proof/Laws/State.lean ====
section
/-!
SUPPORT. Sys2Proof/Laws/State.lean: what each named update of State changes and leaves, by definition, as simp lemmas, so that no
proof unfolds a record update.
-/
namespace Sys2Proof.Machine

/-- What an update of a package leaves alone. -/
@[simp] theorem State.modPkg_rest (s : State) (n : Nat) (f : Pkg → Pkg) :
    (s.modPkg n f).ctl = s.ctl ∧ (s.modPkg n f).ten = s.ten ∧ (s.modPkg n f).host = s.host ∧
    (s.modPkg n f).ctlPoison = s.ctlPoison ∧ (s.modPkg n f).tenPoison = s.tenPoison ∧ (s.modPkg n f).agents = s.agents ∧
    (s.modPkg n f).crews = s.crews ∧ (s.modPkg n f).launches = s.launches ∧ (s.modPkg n f).cmds = s.cmds ∧
    (s.modPkg n f).mmas = s.mmas ∧ (s.modPkg n f).accRes = s.accRes ∧ (s.modPkg n f).insts = s.insts ∧
    (s.modPkg n f).cohTrs = s.cohTrs ∧ (s.modPkg n f).tlbInvs = s.tlbInvs ∧ (s.modPkg n f).merges = s.merges ∧
    (s.modPkg n f).incs = s.incs ∧ (s.modPkg n f).hostQ = s.hostQ ∧ (s.modPkg n f).traffic = s.traffic ∧
    (s.modPkg n f).detected = s.detected ∧ (s.modPkg n f).lost = s.lost ∧ (s.modPkg n f).promoting = s.promoting ∧
    (s.modPkg n f).homes = s.homes ∧ (s.modPkg n f).rebuilding = s.rebuilding ∧ (s.modPkg n f).strayed = s.strayed ∧
    (s.modPkg n f).served = s.served ∧ (s.modPkg n f).spoiled = s.spoiled ∧
    (s.modPkg n f).aclk = s.aclk ∧
    (s.modPkg n f).issued = s.issued ∧ (s.modPkg n f).nextId = s.nextId ∧ (s.modPkg n f).free = s.free ∧
    (s.modPkg n f).wlog = s.wlog ∧ (s.modPkg n f).agenda = s.agenda ∧ (s.modPkg n f).cur = s.cur ∧
    (s.modPkg n f).out = s.out := by
  and_intros <;> rfl

@[simp] theorem State.modPkg_pkgs (s : State) (n : Nat) (f : Pkg → Pkg) :
    (s.modPkg n f).pkgs = List.modFirst (fun p => p.num == n) f s.pkgs := rfl

/-- What an update of a VF's registers leaves alone. -/
@[simp] theorem State.modVf_rest (s : State) (n v : Nat) (f : Vf → Vf) :
    (s.modVf n v f).ctl = s.ctl ∧ (s.modVf n v f).ten = s.ten ∧ (s.modVf n v f).host = s.host ∧
    (s.modVf n v f).ctlPoison = s.ctlPoison ∧ (s.modVf n v f).tenPoison = s.tenPoison ∧
    (s.modVf n v f).agents = s.agents ∧ (s.modVf n v f).crews = s.crews ∧ (s.modVf n v f).launches = s.launches ∧
    (s.modVf n v f).cmds = s.cmds ∧ (s.modVf n v f).mmas = s.mmas ∧ (s.modVf n v f).accRes = s.accRes ∧
    (s.modVf n v f).insts = s.insts ∧ (s.modVf n v f).cohTrs = s.cohTrs ∧ (s.modVf n v f).tlbInvs = s.tlbInvs ∧
    (s.modVf n v f).merges = s.merges ∧ (s.modVf n v f).incs = s.incs ∧ (s.modVf n v f).hostQ = s.hostQ ∧
    (s.modVf n v f).traffic = s.traffic ∧ (s.modVf n v f).detected = s.detected ∧ (s.modVf n v f).lost = s.lost ∧
    (s.modVf n v f).promoting = s.promoting ∧ (s.modVf n v f).homes = s.homes ∧
    (s.modVf n v f).rebuilding = s.rebuilding ∧ (s.modVf n v f).strayed = s.strayed ∧
    (s.modVf n v f).served = s.served ∧ (s.modVf n v f).spoiled = s.spoiled ∧ (s.modVf n v f).aclk = s.aclk ∧
    (s.modVf n v f).issued = s.issued ∧
    (s.modVf n v f).nextId = s.nextId ∧ (s.modVf n v f).free = s.free ∧ (s.modVf n v f).wlog = s.wlog ∧
    (s.modVf n v f).agenda = s.agenda ∧ (s.modVf n v f).cur = s.cur ∧ (s.modVf n v f).out = s.out := by
  and_intros <;> rfl

@[simp] theorem State.modVf_pkgs (s : State) (n v : Nat) (f : Vf → Vf) :
    (s.modVf n v f).pkgs = List.modFirst (fun p => p.num == n) (fun p => p.modVf v f) s.pkgs := rfl

/-- What an update of a partition leaves alone. -/
@[simp] theorem State.modPart_rest (s : State) (n i : Nat) (f : Part → Part) :
    (s.modPart n i f).ctl = s.ctl ∧ (s.modPart n i f).ten = s.ten ∧ (s.modPart n i f).host = s.host ∧
    (s.modPart n i f).ctlPoison = s.ctlPoison ∧ (s.modPart n i f).tenPoison = s.tenPoison ∧
    (s.modPart n i f).agents = s.agents ∧ (s.modPart n i f).crews = s.crews ∧ (s.modPart n i f).launches = s.launches ∧
    (s.modPart n i f).cmds = s.cmds ∧ (s.modPart n i f).mmas = s.mmas ∧ (s.modPart n i f).accRes = s.accRes ∧
    (s.modPart n i f).insts = s.insts ∧ (s.modPart n i f).cohTrs = s.cohTrs ∧ (s.modPart n i f).tlbInvs = s.tlbInvs ∧
    (s.modPart n i f).merges = s.merges ∧ (s.modPart n i f).incs = s.incs ∧ (s.modPart n i f).hostQ = s.hostQ ∧
    (s.modPart n i f).traffic = s.traffic ∧ (s.modPart n i f).detected = s.detected ∧ (s.modPart n i f).lost = s.lost ∧
    (s.modPart n i f).promoting = s.promoting ∧ (s.modPart n i f).homes = s.homes ∧
    (s.modPart n i f).rebuilding = s.rebuilding ∧ (s.modPart n i f).strayed = s.strayed ∧
    (s.modPart n i f).served = s.served ∧ (s.modPart n i f).spoiled = s.spoiled ∧ (s.modPart n i f).aclk = s.aclk ∧
    (s.modPart n i f).issued = s.issued ∧ (s.modPart n i f).nextId = s.nextId ∧ (s.modPart n i f).free = s.free ∧
    (s.modPart n i f).wlog = s.wlog ∧ (s.modPart n i f).agenda = s.agenda ∧ (s.modPart n i f).cur = s.cur ∧
    (s.modPart n i f).out = s.out := by
  and_intros <;> rfl

@[simp] theorem State.modPart_pkgs (s : State) (n i : Nat) (f : Part → Part) :
    (s.modPart n i f).pkgs = List.modFirst (fun p => p.num == n) (fun p => p.modPart i f) s.pkgs := rfl

/-- What an update of an agent leaves alone. -/
@[simp] theorem State.modAgent_rest (s : State) (i : Nat) (f : Agent → Agent) :
    (s.modAgent i f).ctl = s.ctl ∧ (s.modAgent i f).ten = s.ten ∧ (s.modAgent i f).host = s.host ∧
    (s.modAgent i f).ctlPoison = s.ctlPoison ∧ (s.modAgent i f).tenPoison = s.tenPoison ∧
    (s.modAgent i f).pkgs = s.pkgs ∧ (s.modAgent i f).crews = s.crews ∧ (s.modAgent i f).launches = s.launches ∧
    (s.modAgent i f).cmds = s.cmds ∧ (s.modAgent i f).mmas = s.mmas ∧ (s.modAgent i f).accRes = s.accRes ∧
    (s.modAgent i f).insts = s.insts ∧ (s.modAgent i f).cohTrs = s.cohTrs ∧ (s.modAgent i f).tlbInvs = s.tlbInvs ∧
    (s.modAgent i f).merges = s.merges ∧ (s.modAgent i f).incs = s.incs ∧ (s.modAgent i f).hostQ = s.hostQ ∧
    (s.modAgent i f).traffic = s.traffic ∧ (s.modAgent i f).detected = s.detected ∧ (s.modAgent i f).lost = s.lost ∧
    (s.modAgent i f).promoting = s.promoting ∧ (s.modAgent i f).homes = s.homes ∧
    (s.modAgent i f).rebuilding = s.rebuilding ∧ (s.modAgent i f).strayed = s.strayed ∧
    (s.modAgent i f).served = s.served ∧ (s.modAgent i f).spoiled = s.spoiled ∧ (s.modAgent i f).aclk = s.aclk ∧
    (s.modAgent i f).issued = s.issued ∧
    (s.modAgent i f).nextId = s.nextId ∧ (s.modAgent i f).free = s.free ∧ (s.modAgent i f).wlog = s.wlog ∧
    (s.modAgent i f).agenda = s.agenda ∧ (s.modAgent i f).cur = s.cur ∧ (s.modAgent i f).out = s.out := by
  and_intros <;> rfl

@[simp] theorem State.modAgent_agents (s : State) (i : Nat) (f : Agent → Agent) :
    (s.modAgent i f).agents = List.modFirst (fun a => a.id == i) f s.agents := rfl

/-- What an agent put in its place leaves alone. -/
@[simp] theorem State.setAgent_rest (s : State) (a : Agent) :
    (s.setAgent a).ctl = s.ctl ∧ (s.setAgent a).ten = s.ten ∧ (s.setAgent a).host = s.host ∧
    (s.setAgent a).ctlPoison = s.ctlPoison ∧ (s.setAgent a).tenPoison = s.tenPoison ∧ (s.setAgent a).pkgs = s.pkgs ∧
    (s.setAgent a).crews = s.crews ∧ (s.setAgent a).launches = s.launches ∧ (s.setAgent a).cmds = s.cmds ∧
    (s.setAgent a).mmas = s.mmas ∧ (s.setAgent a).accRes = s.accRes ∧ (s.setAgent a).insts = s.insts ∧
    (s.setAgent a).cohTrs = s.cohTrs ∧ (s.setAgent a).tlbInvs = s.tlbInvs ∧ (s.setAgent a).merges = s.merges ∧
    (s.setAgent a).incs = s.incs ∧ (s.setAgent a).hostQ = s.hostQ ∧ (s.setAgent a).traffic = s.traffic ∧
    (s.setAgent a).detected = s.detected ∧ (s.setAgent a).lost = s.lost ∧ (s.setAgent a).promoting = s.promoting ∧
    (s.setAgent a).homes = s.homes ∧ (s.setAgent a).rebuilding = s.rebuilding ∧ (s.setAgent a).strayed = s.strayed ∧
    (s.setAgent a).served = s.served ∧ (s.setAgent a).spoiled = s.spoiled ∧
    (s.setAgent a).aclk = s.aclk ∧
    (s.setAgent a).issued = s.issued ∧ (s.setAgent a).nextId = s.nextId ∧ (s.setAgent a).free = s.free ∧
    (s.setAgent a).wlog = s.wlog ∧ (s.setAgent a).agenda = s.agenda ∧ (s.setAgent a).cur = s.cur ∧
    (s.setAgent a).out = s.out := by
  and_intros <;> rfl

@[simp] theorem State.setAgent_agents (s : State) (a : Agent) :
    (s.setAgent a).agents = List.modFirst (fun x => x.id == a.id) (fun _ => a) s.agents := rfl

/-- What an update of a crew leaves alone. -/
@[simp] theorem State.modCrew_rest (s : State) (i : Nat) (f : Crew → Crew) :
    (s.modCrew i f).ctl = s.ctl ∧ (s.modCrew i f).ten = s.ten ∧ (s.modCrew i f).host = s.host ∧
    (s.modCrew i f).ctlPoison = s.ctlPoison ∧ (s.modCrew i f).tenPoison = s.tenPoison ∧ (s.modCrew i f).pkgs = s.pkgs ∧
    (s.modCrew i f).agents = s.agents ∧ (s.modCrew i f).launches = s.launches ∧ (s.modCrew i f).cmds = s.cmds ∧
    (s.modCrew i f).mmas = s.mmas ∧ (s.modCrew i f).accRes = s.accRes ∧ (s.modCrew i f).insts = s.insts ∧
    (s.modCrew i f).cohTrs = s.cohTrs ∧ (s.modCrew i f).tlbInvs = s.tlbInvs ∧ (s.modCrew i f).merges = s.merges ∧
    (s.modCrew i f).incs = s.incs ∧ (s.modCrew i f).hostQ = s.hostQ ∧ (s.modCrew i f).traffic = s.traffic ∧
    (s.modCrew i f).detected = s.detected ∧ (s.modCrew i f).lost = s.lost ∧ (s.modCrew i f).promoting = s.promoting ∧
    (s.modCrew i f).homes = s.homes ∧ (s.modCrew i f).rebuilding = s.rebuilding ∧ (s.modCrew i f).strayed = s.strayed ∧
    (s.modCrew i f).served = s.served ∧ (s.modCrew i f).spoiled = s.spoiled ∧
    (s.modCrew i f).aclk = s.aclk ∧
    (s.modCrew i f).issued = s.issued ∧ (s.modCrew i f).nextId = s.nextId ∧ (s.modCrew i f).free = s.free ∧
    (s.modCrew i f).wlog = s.wlog ∧ (s.modCrew i f).agenda = s.agenda ∧ (s.modCrew i f).cur = s.cur ∧
    (s.modCrew i f).out = s.out := by
  and_intros <;> rfl

@[simp] theorem State.modCrew_crews (s : State) (i : Nat) (f : Crew → Crew) :
    (s.modCrew i f).crews = List.modFirst (fun c => c.id == i) f s.crews := rfl

/-- What an update of a launch leaves alone. -/
@[simp] theorem State.modLaunch_rest (s : State) (i : Nat) (f : Launch → Launch) :
    (s.modLaunch i f).ctl = s.ctl ∧ (s.modLaunch i f).ten = s.ten ∧ (s.modLaunch i f).host = s.host ∧
    (s.modLaunch i f).ctlPoison = s.ctlPoison ∧ (s.modLaunch i f).tenPoison = s.tenPoison ∧
    (s.modLaunch i f).pkgs = s.pkgs ∧ (s.modLaunch i f).agents = s.agents ∧ (s.modLaunch i f).crews = s.crews ∧
    (s.modLaunch i f).cmds = s.cmds ∧ (s.modLaunch i f).mmas = s.mmas ∧ (s.modLaunch i f).accRes = s.accRes ∧
    (s.modLaunch i f).insts = s.insts ∧ (s.modLaunch i f).cohTrs = s.cohTrs ∧ (s.modLaunch i f).tlbInvs = s.tlbInvs ∧
    (s.modLaunch i f).merges = s.merges ∧ (s.modLaunch i f).incs = s.incs ∧ (s.modLaunch i f).hostQ = s.hostQ ∧
    (s.modLaunch i f).traffic = s.traffic ∧ (s.modLaunch i f).detected = s.detected ∧ (s.modLaunch i f).lost = s.lost ∧
    (s.modLaunch i f).promoting = s.promoting ∧ (s.modLaunch i f).homes = s.homes ∧
    (s.modLaunch i f).rebuilding = s.rebuilding ∧ (s.modLaunch i f).strayed = s.strayed ∧
    (s.modLaunch i f).served = s.served ∧ (s.modLaunch i f).spoiled = s.spoiled ∧ (s.modLaunch i f).aclk = s.aclk ∧
    (s.modLaunch i f).issued = s.issued ∧ (s.modLaunch i f).nextId = s.nextId ∧ (s.modLaunch i f).free = s.free ∧
    (s.modLaunch i f).wlog = s.wlog ∧ (s.modLaunch i f).agenda = s.agenda ∧ (s.modLaunch i f).cur = s.cur ∧
    (s.modLaunch i f).out = s.out := by
  and_intros <;> rfl

@[simp] theorem State.modLaunch_launches (s : State) (i : Nat) (f : Launch → Launch) :
    (s.modLaunch i f).launches = List.modFirst (fun l => l.id == i) f s.launches := rfl

/-- What an update of an engine command leaves alone. -/
@[simp] theorem State.modCmd_rest (s : State) (i : Nat) (f : Cmd → Cmd) :
    (s.modCmd i f).ctl = s.ctl ∧ (s.modCmd i f).ten = s.ten ∧ (s.modCmd i f).host = s.host ∧
    (s.modCmd i f).ctlPoison = s.ctlPoison ∧ (s.modCmd i f).tenPoison = s.tenPoison ∧ (s.modCmd i f).pkgs = s.pkgs ∧
    (s.modCmd i f).agents = s.agents ∧ (s.modCmd i f).crews = s.crews ∧ (s.modCmd i f).launches = s.launches ∧
    (s.modCmd i f).mmas = s.mmas ∧ (s.modCmd i f).accRes = s.accRes ∧ (s.modCmd i f).insts = s.insts ∧
    (s.modCmd i f).cohTrs = s.cohTrs ∧ (s.modCmd i f).tlbInvs = s.tlbInvs ∧ (s.modCmd i f).merges = s.merges ∧
    (s.modCmd i f).incs = s.incs ∧ (s.modCmd i f).hostQ = s.hostQ ∧ (s.modCmd i f).traffic = s.traffic ∧
    (s.modCmd i f).detected = s.detected ∧ (s.modCmd i f).lost = s.lost ∧ (s.modCmd i f).promoting = s.promoting ∧
    (s.modCmd i f).homes = s.homes ∧ (s.modCmd i f).rebuilding = s.rebuilding ∧ (s.modCmd i f).strayed = s.strayed ∧
    (s.modCmd i f).served = s.served ∧ (s.modCmd i f).spoiled = s.spoiled ∧
    (s.modCmd i f).aclk = s.aclk ∧
    (s.modCmd i f).issued = s.issued ∧ (s.modCmd i f).nextId = s.nextId ∧ (s.modCmd i f).free = s.free ∧
    (s.modCmd i f).wlog = s.wlog ∧ (s.modCmd i f).agenda = s.agenda ∧ (s.modCmd i f).cur = s.cur ∧
    (s.modCmd i f).out = s.out := by
  and_intros <;> rfl

@[simp] theorem State.modCmd_cmds (s : State) (i : Nat) (f : Cmd → Cmd) :
    (s.modCmd i f).cmds = List.modFirst (fun c => c.inst == i) f s.cmds := rfl

/-- What an update of a matrix request leaves alone. -/
@[simp] theorem State.modMma_rest (s : State) (i : Nat) (f : MmaReq → MmaReq) :
    (s.modMma i f).ctl = s.ctl ∧ (s.modMma i f).ten = s.ten ∧ (s.modMma i f).host = s.host ∧
    (s.modMma i f).ctlPoison = s.ctlPoison ∧ (s.modMma i f).tenPoison = s.tenPoison ∧ (s.modMma i f).pkgs = s.pkgs ∧
    (s.modMma i f).agents = s.agents ∧ (s.modMma i f).crews = s.crews ∧ (s.modMma i f).launches = s.launches ∧
    (s.modMma i f).cmds = s.cmds ∧ (s.modMma i f).accRes = s.accRes ∧ (s.modMma i f).insts = s.insts ∧
    (s.modMma i f).cohTrs = s.cohTrs ∧ (s.modMma i f).tlbInvs = s.tlbInvs ∧ (s.modMma i f).merges = s.merges ∧
    (s.modMma i f).incs = s.incs ∧ (s.modMma i f).hostQ = s.hostQ ∧ (s.modMma i f).traffic = s.traffic ∧
    (s.modMma i f).detected = s.detected ∧ (s.modMma i f).lost = s.lost ∧ (s.modMma i f).promoting = s.promoting ∧
    (s.modMma i f).homes = s.homes ∧ (s.modMma i f).rebuilding = s.rebuilding ∧ (s.modMma i f).strayed = s.strayed ∧
    (s.modMma i f).served = s.served ∧ (s.modMma i f).spoiled = s.spoiled ∧
    (s.modMma i f).aclk = s.aclk ∧
    (s.modMma i f).issued = s.issued ∧ (s.modMma i f).nextId = s.nextId ∧ (s.modMma i f).free = s.free ∧
    (s.modMma i f).wlog = s.wlog ∧ (s.modMma i f).agenda = s.agenda ∧ (s.modMma i f).cur = s.cur ∧
    (s.modMma i f).out = s.out := by
  and_intros <;> rfl

@[simp] theorem State.modMma_mmas (s : State) (i : Nat) (f : MmaReq → MmaReq) :
    (s.modMma i f).mmas = List.modFirst (fun c => c.inst == i) f s.mmas := rfl

/-- What an output leaves alone. -/
@[simp] theorem State.emit_rest (s : State) (o : Out) :
    (s.emit o).ctl = s.ctl ∧ (s.emit o).ten = s.ten ∧ (s.emit o).host = s.host ∧ (s.emit o).ctlPoison = s.ctlPoison ∧
    (s.emit o).tenPoison = s.tenPoison ∧ (s.emit o).pkgs = s.pkgs ∧ (s.emit o).agents = s.agents ∧
    (s.emit o).crews = s.crews ∧ (s.emit o).launches = s.launches ∧ (s.emit o).cmds = s.cmds ∧
    (s.emit o).mmas = s.mmas ∧ (s.emit o).accRes = s.accRes ∧ (s.emit o).insts = s.insts ∧
    (s.emit o).cohTrs = s.cohTrs ∧ (s.emit o).tlbInvs = s.tlbInvs ∧ (s.emit o).merges = s.merges ∧
    (s.emit o).incs = s.incs ∧ (s.emit o).hostQ = s.hostQ ∧ (s.emit o).traffic = s.traffic ∧
    (s.emit o).detected = s.detected ∧ (s.emit o).lost = s.lost ∧ (s.emit o).promoting = s.promoting ∧
    (s.emit o).homes = s.homes ∧ (s.emit o).rebuilding = s.rebuilding ∧ (s.emit o).strayed = s.strayed ∧
    (s.emit o).served = s.served ∧ (s.emit o).spoiled = s.spoiled ∧
    (s.emit o).aclk = s.aclk ∧
    (s.emit o).issued = s.issued ∧ (s.emit o).nextId = s.nextId ∧ (s.emit o).free = s.free ∧ (s.emit o).wlog = s.wlog ∧
    (s.emit o).agenda = s.agenda ∧ (s.emit o).cur = s.cur := by
  and_intros <;> rfl

@[simp] theorem State.emit_out (s : State) (o : Out) :
    (s.emit o).out = o :: s.out := rfl

/-- What the end of a word leaves alone. -/
@[simp] theorem State.retire_rest (s : State) (c : Cursor) :
    (s.retire c).ctl = s.ctl ∧ (s.retire c).ten = s.ten ∧ (s.retire c).host = s.host ∧
    (s.retire c).ctlPoison = s.ctlPoison ∧ (s.retire c).tenPoison = s.tenPoison ∧ (s.retire c).pkgs = s.pkgs ∧
    (s.retire c).crews = s.crews ∧ (s.retire c).launches = s.launches ∧ (s.retire c).cmds = s.cmds ∧
    (s.retire c).mmas = s.mmas ∧ (s.retire c).accRes = s.accRes ∧ (s.retire c).insts = s.insts ∧
    (s.retire c).cohTrs = s.cohTrs ∧ (s.retire c).tlbInvs = s.tlbInvs ∧ (s.retire c).merges = s.merges ∧
    (s.retire c).incs = s.incs ∧ (s.retire c).hostQ = s.hostQ ∧ (s.retire c).traffic = s.traffic ∧
    (s.retire c).detected = s.detected ∧ (s.retire c).lost = s.lost ∧ (s.retire c).promoting = s.promoting ∧
    (s.retire c).homes = s.homes ∧ (s.retire c).rebuilding = s.rebuilding ∧ (s.retire c).strayed = s.strayed ∧
    (s.retire c).served = s.served ∧ (s.retire c).spoiled = s.spoiled ∧
    (s.retire c).aclk = s.aclk ∧
    (s.retire c).issued = s.issued ∧ (s.retire c).nextId = s.nextId ∧ (s.retire c).free = s.free ∧
    (s.retire c).wlog = s.wlog ∧ (s.retire c).agenda = s.agenda ∧ (s.retire c).cur = s.cur ∧ (s.retire c).out = s.out := by
  and_intros <;> rfl

/-- What a stall leaves alone. -/
@[simp] theorem State.stall_rest (s : State) (c : Cursor) (w : Stall) :
    (s.stall c w).ctl = s.ctl ∧ (s.stall c w).ten = s.ten ∧ (s.stall c w).host = s.host ∧
    (s.stall c w).ctlPoison = s.ctlPoison ∧ (s.stall c w).tenPoison = s.tenPoison ∧ (s.stall c w).pkgs = s.pkgs ∧
    (s.stall c w).crews = s.crews ∧ (s.stall c w).launches = s.launches ∧ (s.stall c w).cmds = s.cmds ∧
    (s.stall c w).mmas = s.mmas ∧ (s.stall c w).accRes = s.accRes ∧ (s.stall c w).insts = s.insts ∧
    (s.stall c w).cohTrs = s.cohTrs ∧ (s.stall c w).tlbInvs = s.tlbInvs ∧ (s.stall c w).merges = s.merges ∧
    (s.stall c w).incs = s.incs ∧ (s.stall c w).hostQ = s.hostQ ∧ (s.stall c w).traffic = s.traffic ∧
    (s.stall c w).detected = s.detected ∧ (s.stall c w).lost = s.lost ∧ (s.stall c w).promoting = s.promoting ∧
    (s.stall c w).homes = s.homes ∧ (s.stall c w).rebuilding = s.rebuilding ∧ (s.stall c w).strayed = s.strayed ∧
    (s.stall c w).served = s.served ∧ (s.stall c w).spoiled = s.spoiled ∧
    (s.stall c w).aclk = s.aclk ∧
    (s.stall c w).issued = s.issued ∧ (s.stall c w).nextId = s.nextId ∧ (s.stall c w).free = s.free ∧
    (s.stall c w).wlog = s.wlog ∧ (s.stall c w).agenda = s.agenda ∧ (s.stall c w).cur = s.cur ∧
    (s.stall c w).out = s.out := by
  and_intros <;> rfl

/-- What the note of a write leaves alone. -/
@[simp] theorem State.note_rest (s : State) (p : Place) (lo n : Nat) :
    (s.note p lo n).ctl = s.ctl ∧ (s.note p lo n).ten = s.ten ∧ (s.note p lo n).host = s.host ∧
    (s.note p lo n).ctlPoison = s.ctlPoison ∧ (s.note p lo n).tenPoison = s.tenPoison ∧ (s.note p lo n).pkgs = s.pkgs ∧
    (s.note p lo n).agents = s.agents ∧ (s.note p lo n).crews = s.crews ∧ (s.note p lo n).launches = s.launches ∧
    (s.note p lo n).cmds = s.cmds ∧ (s.note p lo n).mmas = s.mmas ∧ (s.note p lo n).accRes = s.accRes ∧
    (s.note p lo n).insts = s.insts ∧ (s.note p lo n).cohTrs = s.cohTrs ∧ (s.note p lo n).tlbInvs = s.tlbInvs ∧
    (s.note p lo n).merges = s.merges ∧ (s.note p lo n).incs = s.incs ∧ (s.note p lo n).hostQ = s.hostQ ∧
    (s.note p lo n).traffic = s.traffic ∧ (s.note p lo n).detected = s.detected ∧ (s.note p lo n).lost = s.lost ∧
    (s.note p lo n).promoting = s.promoting ∧ (s.note p lo n).homes = s.homes ∧
    (s.note p lo n).rebuilding = s.rebuilding ∧ (s.note p lo n).strayed = s.strayed ∧
    (s.note p lo n).served = s.served ∧ (s.note p lo n).spoiled = s.spoiled ∧ (s.note p lo n).aclk = s.aclk ∧
    (s.note p lo n).issued = s.issued ∧
    (s.note p lo n).nextId = s.nextId ∧ (s.note p lo n).free = s.free ∧ (s.note p lo n).agenda = s.agenda ∧
    (s.note p lo n).cur = s.cur ∧ (s.note p lo n).out = s.out := by
  and_intros <;> rfl

/-- What a fresh number leaves alone. -/
@[simp] theorem State.fresh_rest (s : State) :
    s.fresh.2.ctl = s.ctl ∧ s.fresh.2.ten = s.ten ∧ s.fresh.2.host = s.host ∧ s.fresh.2.ctlPoison = s.ctlPoison ∧
    s.fresh.2.tenPoison = s.tenPoison ∧ s.fresh.2.pkgs = s.pkgs ∧ s.fresh.2.agents = s.agents ∧
    s.fresh.2.crews = s.crews ∧ s.fresh.2.launches = s.launches ∧ s.fresh.2.cmds = s.cmds ∧ s.fresh.2.mmas = s.mmas ∧
    s.fresh.2.accRes = s.accRes ∧ s.fresh.2.insts = s.insts ∧ s.fresh.2.cohTrs = s.cohTrs ∧
    s.fresh.2.tlbInvs = s.tlbInvs ∧ s.fresh.2.merges = s.merges ∧ s.fresh.2.incs = s.incs ∧ s.fresh.2.hostQ = s.hostQ ∧
    s.fresh.2.traffic = s.traffic ∧ s.fresh.2.detected = s.detected ∧ s.fresh.2.lost = s.lost ∧
    s.fresh.2.promoting = s.promoting ∧ s.fresh.2.homes = s.homes ∧ s.fresh.2.rebuilding = s.rebuilding ∧
    s.fresh.2.strayed = s.strayed ∧ s.fresh.2.served = s.served ∧ s.fresh.2.spoiled = s.spoiled ∧
    s.fresh.2.aclk = s.aclk ∧ s.fresh.2.issued = s.issued ∧ s.fresh.2.free = s.free ∧ s.fresh.2.wlog = s.wlog ∧
    s.fresh.2.agenda = s.agenda ∧ s.fresh.2.cur = s.cur ∧ s.fresh.2.out = s.out := by
  and_intros <;> rfl

@[simp] theorem State.fresh_nextId (s : State) :
    s.fresh.2.nextId = s.nextId + 1 := rfl

/-- What a new instance number leaves alone. -/
@[simp] theorem State.freshInst_rest (s : State) :
    s.freshInst.2.ctl = s.ctl ∧ s.freshInst.2.ten = s.ten ∧ s.freshInst.2.host = s.host ∧
    s.freshInst.2.ctlPoison = s.ctlPoison ∧ s.freshInst.2.tenPoison = s.tenPoison ∧ s.freshInst.2.pkgs = s.pkgs ∧
    s.freshInst.2.agents = s.agents ∧ s.freshInst.2.crews = s.crews ∧ s.freshInst.2.launches = s.launches ∧
    s.freshInst.2.cmds = s.cmds ∧ s.freshInst.2.mmas = s.mmas ∧ s.freshInst.2.accRes = s.accRes ∧
    s.freshInst.2.insts = s.insts ∧ s.freshInst.2.cohTrs = s.cohTrs ∧ s.freshInst.2.tlbInvs = s.tlbInvs ∧
    s.freshInst.2.merges = s.merges ∧ s.freshInst.2.incs = s.incs ∧ s.freshInst.2.hostQ = s.hostQ ∧
    s.freshInst.2.traffic = s.traffic ∧ s.freshInst.2.detected = s.detected ∧ s.freshInst.2.lost = s.lost ∧
    s.freshInst.2.promoting = s.promoting ∧ s.freshInst.2.homes = s.homes ∧ s.freshInst.2.rebuilding = s.rebuilding ∧
    s.freshInst.2.strayed = s.strayed ∧ s.freshInst.2.served = s.served ∧ s.freshInst.2.spoiled = s.spoiled ∧
    s.freshInst.2.aclk = s.aclk ∧ s.freshInst.2.issued = s.issued ∧ s.freshInst.2.free = s.free ∧
    s.freshInst.2.wlog = s.wlog ∧ s.freshInst.2.agenda = s.agenda ∧ s.freshInst.2.cur = s.cur ∧
    s.freshInst.2.out = s.out := by
  and_intros <;> rfl

@[simp] theorem State.freshInst_nextId (s : State) :
    s.freshInst.2.nextId = s.freshInst.1 + 1 := rfl

/-- What the bytes of a space leaves alone. -/
@[simp] theorem State.setMem_rest (s : State) (sp : Space) (m : Mem) :
    (s.setMem sp m).host = s.host ∧ (s.setMem sp m).ctlPoison = s.ctlPoison ∧ (s.setMem sp m).tenPoison = s.tenPoison ∧
    (s.setMem sp m).pkgs = s.pkgs ∧ (s.setMem sp m).agents = s.agents ∧ (s.setMem sp m).crews = s.crews ∧
    (s.setMem sp m).launches = s.launches ∧ (s.setMem sp m).cmds = s.cmds ∧ (s.setMem sp m).mmas = s.mmas ∧
    (s.setMem sp m).accRes = s.accRes ∧ (s.setMem sp m).insts = s.insts ∧ (s.setMem sp m).cohTrs = s.cohTrs ∧
    (s.setMem sp m).tlbInvs = s.tlbInvs ∧ (s.setMem sp m).merges = s.merges ∧ (s.setMem sp m).incs = s.incs ∧
    (s.setMem sp m).hostQ = s.hostQ ∧ (s.setMem sp m).traffic = s.traffic ∧ (s.setMem sp m).detected = s.detected ∧
    (s.setMem sp m).lost = s.lost ∧ (s.setMem sp m).promoting = s.promoting ∧ (s.setMem sp m).homes = s.homes ∧
    (s.setMem sp m).rebuilding = s.rebuilding ∧ (s.setMem sp m).strayed = s.strayed ∧
    (s.setMem sp m).served = s.served ∧ (s.setMem sp m).spoiled = s.spoiled ∧ (s.setMem sp m).aclk = s.aclk ∧
    (s.setMem sp m).issued = s.issued ∧
    (s.setMem sp m).nextId = s.nextId ∧ (s.setMem sp m).free = s.free ∧ (s.setMem sp m).wlog = s.wlog ∧
    (s.setMem sp m).agenda = s.agenda ∧ (s.setMem sp m).cur = s.cur ∧ (s.setMem sp m).out = s.out := by
  cases sp <;> and_intros <;> rfl

/-- What the poison of a space leaves alone. -/
@[simp] theorem State.setPoison_rest (s : State) (sp : Space) (l : List (Nat × Nat)) :
    (s.setPoison sp l).ctl = s.ctl ∧ (s.setPoison sp l).ten = s.ten ∧ (s.setPoison sp l).host = s.host ∧
    (s.setPoison sp l).pkgs = s.pkgs ∧ (s.setPoison sp l).agents = s.agents ∧ (s.setPoison sp l).crews = s.crews ∧
    (s.setPoison sp l).launches = s.launches ∧ (s.setPoison sp l).cmds = s.cmds ∧ (s.setPoison sp l).mmas = s.mmas ∧
    (s.setPoison sp l).accRes = s.accRes ∧ (s.setPoison sp l).insts = s.insts ∧ (s.setPoison sp l).cohTrs = s.cohTrs ∧
    (s.setPoison sp l).tlbInvs = s.tlbInvs ∧ (s.setPoison sp l).merges = s.merges ∧ (s.setPoison sp l).incs = s.incs ∧
    (s.setPoison sp l).hostQ = s.hostQ ∧ (s.setPoison sp l).traffic = s.traffic ∧
    (s.setPoison sp l).detected = s.detected ∧ (s.setPoison sp l).lost = s.lost ∧
    (s.setPoison sp l).promoting = s.promoting ∧ (s.setPoison sp l).homes = s.homes ∧
    (s.setPoison sp l).rebuilding = s.rebuilding ∧ (s.setPoison sp l).strayed = s.strayed ∧
    (s.setPoison sp l).served = s.served ∧ (s.setPoison sp l).spoiled = s.spoiled ∧ (s.setPoison sp l).aclk = s.aclk ∧
    (s.setPoison sp l).issued = s.issued ∧ (s.setPoison sp l).nextId = s.nextId ∧ (s.setPoison sp l).free = s.free ∧
    (s.setPoison sp l).wlog = s.wlog ∧ (s.setPoison sp l).agenda = s.agenda ∧ (s.setPoison sp l).cur = s.cur ∧
    (s.setPoison sp l).out = s.out := by
  cases sp <;> and_intros <;> rfl

/-- What sending bytes to another package leaves alone: everything but what is on its way. -/
@[simp] theorem State.carry_rest (s : State) (v : Nat) (k : FlitKind) (p q a : Nat) (bs : List Byte) :
    (s.carry v k p q a bs).ctl = s.ctl ∧ (s.carry v k p q a bs).ten = s.ten ∧ (s.carry v k p q a bs).host = s.host ∧
    (s.carry v k p q a bs).ctlPoison = s.ctlPoison ∧ (s.carry v k p q a bs).tenPoison = s.tenPoison ∧
    (s.carry v k p q a bs).pkgs = s.pkgs ∧ (s.carry v k p q a bs).agents = s.agents ∧
    (s.carry v k p q a bs).crews = s.crews ∧ (s.carry v k p q a bs).launches = s.launches ∧
    (s.carry v k p q a bs).cmds = s.cmds ∧ (s.carry v k p q a bs).mmas = s.mmas ∧
    (s.carry v k p q a bs).accRes = s.accRes ∧ (s.carry v k p q a bs).insts = s.insts ∧
    (s.carry v k p q a bs).cohTrs = s.cohTrs ∧ (s.carry v k p q a bs).tlbInvs = s.tlbInvs ∧
    (s.carry v k p q a bs).merges = s.merges ∧ (s.carry v k p q a bs).incs = s.incs ∧
    (s.carry v k p q a bs).hostQ = s.hostQ ∧ (s.carry v k p q a bs).detected = s.detected ∧
    (s.carry v k p q a bs).lost = s.lost ∧ (s.carry v k p q a bs).promoting = s.promoting ∧
    (s.carry v k p q a bs).homes = s.homes ∧ (s.carry v k p q a bs).rebuilding = s.rebuilding ∧
    (s.carry v k p q a bs).strayed = s.strayed ∧
    (s.carry v k p q a bs).served = s.served ∧ (s.carry v k p q a bs).spoiled = s.spoiled ∧
    (s.carry v k p q a bs).aclk = s.aclk ∧ (s.carry v k p q a bs).issued = s.issued ∧
    (s.carry v k p q a bs).nextId = s.nextId ∧ (s.carry v k p q a bs).free = s.free ∧
    (s.carry v k p q a bs).wlog = s.wlog ∧ (s.carry v k p q a bs).agenda = s.agenda ∧
    (s.carry v k p q a bs).cur = s.cur ∧ (s.carry v k p q a bs).out = s.out := by
  unfold State.carry
  split <;> and_intros <;> rfl

/-- Within a package no link is taken. -/
@[simp] theorem State.carry_self (s : State) (v : Nat) (k : FlitKind) (p a : Nat) (bs : List Byte) : s.carry v k p p a bs = s := by
  simp [State.carry]

/-- Bytes sent, and an answer sent back, change only what is on its way. -/
theorem State.carry_eq (s : State) (v : Nat) (k : FlitKind) (p q a : Nat) (bs : List Byte) :
    ∃ l, s.carry v k p q a bs = { s with traffic := l } := by
  unfold State.carry
  split
  · exact ⟨s.traffic, rfl⟩
  · exact ⟨_, rfl⟩

theorem State.carryMirror_eq (s : State) (o p q a : Nat) (bs : List Byte) :
    ∃ l, s.carryMirror o p q a bs = { s with traffic := l } := by
  unfold State.carryMirror
  split
  · exact ⟨s.traffic, rfl⟩
  · exact ⟨_, rfl⟩

theorem State.carry_twice (s : State) (v w : Nat) (k m : FlitKind) (p q a : Nat) (xs ys : List Byte) :
    ∃ l, (s.carry v k p q a xs).carry w m q p a ys = { s with traffic := l } := by
  obtain ⟨l, h⟩ := s.carry_eq v k p q a xs
  rw [h]
  exact State.carry_eq _ w m q p a ys

theorem State.mirroredAt_rest (s : State) (sp : Space) (p a : Nat) (bs : List Byte) :
    ∃ l, s.mirroredAt sp p a bs = { s with traffic := l } := by
  unfold State.mirroredAt State.mirrored
  split
  · exact ⟨s.traffic, rfl⟩
  · split
    · next q _ =>
      obtain ⟨l, h⟩ := s.carryMirror_eq p q.num q.mirror a bs
      rw [h]
      exact State.carry_eq _ ..
    · exact ⟨s.traffic, rfl⟩

/-- A request, what its home's mirror gets, and the answer change only what is on its way. -/
theorem State.request_rest (s : State) (v w : Nat) (k m : FlitKind) (sp : Space) (p q a : Nat) (xs ms ys : List Byte) :
    ∃ l, ((s.carry v k p q a xs).mirroredAt sp p a ms).carry w m q p a ys = { s with traffic := l } := by
  obtain ⟨l, h⟩ := s.carry_eq v k p q a xs
  obtain ⟨l1, h1⟩ := State.mirroredAt_rest { s with traffic := l } sp p a ms
  rw [h, h1]
  exact State.carry_eq _ w m q p a ys

theorem State.exchange_rest (s : State) (sp : Space) (p a : Nat) (xs ys : List Byte) :
    ∃ l, s.exchange sp p a xs ys = { s with traffic := l } := s.request_rest ..

theorem State.atomicTo_rest (s : State) (sp : Space) (p a n : Nat) (xs ys : List Byte) :
    ∃ l, s.atomicTo sp p a n xs ys = { s with traffic := l } := s.request_rest ..

theorem State.probe_rest (s : State) (p l : Nat) (ys : List Byte) : ∃ q, s.probe p l ys = { s with traffic := q } :=
  s.carry_twice ..

@[simp] theorem State.fresh_num (s : State) : s.fresh.1 = s.nextId := rfl

@[simp] theorem State.setMem_mem (s : State) (sp : Space) (m : Mem) : (s.setMem sp m).mem sp = m := by cases sp <;> rfl

@[simp] theorem State.setPoison_poison (s : State) (sp : Space) (l : List (Nat × Nat)) : (s.setPoison sp l).poison sp = l := by
  cases sp <;> rfl

@[simp] theorem State.note_mem (s : State) (p : Place) (lo n : Nat) (sp : Space) : (s.note p lo n).mem sp = s.mem sp := by
  cases sp <;> rfl

@[simp] theorem State.note_wlog (s : State) (p : Place) (lo n : Nat) :
    (s.note p lo n).wlog =
      { agent := s.cur.map Cursor.agent, cmd := none, place := p, lo := lo, hi := lo + n, old := s.standing p lo n } :: s.wlog := rfl

/-! ### Fields of agents, sides, packages -/

@[simp] theorem Agent.side_false (a : Agent) : a.side false = a.prim := rfl
@[simp] theorem Agent.side_true (a : Agent) : a.side true = a.sec := rfl
@[simp] theorem Agent.setSide_side (a : Agent) (k : Bool) (x : Option Side) : (a.setSide k x).side k = x := by cases k <;> rfl
@[simp] theorem Agent.setSide_other (a : Agent) (k : Bool) (x : Option Side) : (a.setSide k x).side (!k) = a.side (!k) := by
  cases k <;> rfl

/-- What an update of a slot leaves alone. -/
@[simp] theorem Agent.setSide_rest (a : Agent) (k : Bool) (x : Option Side) :
    (a.setSide k x).id = a.id ∧ (a.setSide k x).v = a.v ∧ (a.setSide k x).s = a.s ∧ (a.setSide k x).p = a.p ∧
    (a.setSide k x).h = a.h ∧ (a.setSide k x).stack = a.stack ∧ (a.setSide k x).crew = a.crew ∧
    (a.setSide k x).pkg = a.pkg ∧ (a.setSide k x).cc = a.cc := by
  cases k <;> and_intros <;> rfl

/-- What a write of a scalar register leaves alone. -/
@[simp] theorem Agent.setS_rest (a : Agent) (r : Nat) (x : W) :
    (a.setS r x).id = a.id ∧ (a.setS r x).v = a.v ∧ (a.setS r x).p = a.p ∧ (a.setS r x).h = a.h ∧
    (a.setS r x).prim = a.prim ∧ (a.setS r x).sec = a.sec ∧ (a.setS r x).stack = a.stack := ⟨rfl, rfl, rfl, rfl, rfl, rfl, rfl⟩

@[simp] theorem Side.retired_pt (sd : Side) (n : Nat) : (sd.retired n).pt = sd.pt.advance n := rfl
@[simp] theorem Side.retired_stall (sd : Side) (n : Nat) : (sd.retired n).stall = none := rfl
@[simp] theorem Side.retired_mask (sd : Side) (n : Nat) : (sd.retired n).mask = sd.mask := rfl
@[simp] theorem Side.retired_fmt (sd : Side) (n : Nat) : (sd.retired n).fmt = sd.fmt := rfl

/-- What an update of a partition leaves of its package. -/
@[simp] theorem Pkg.modPart_rest (p : Pkg) (i : Nat) (f : Part → Part) :
    (p.modPart i f).num = p.num ∧ (p.modPart i f).vfs = p.vfs ∧ (p.modPart i f).queues = p.queues ∧
    (p.modPart i f).slt = p.slt ∧ (p.modPart i f).mp = p.mp ∧ (p.modPart i f).sets = p.sets := ⟨rfl, rfl, rfl, rfl, rfl, rfl⟩

/-! ### What is found after an update -/

/-- A package that an update keeps under its number is found updated, and every other one as it was. -/
theorem State.pkg?_modPkg (s : State) (n : Nat) (f : Pkg → Pkg) (hf : ∀ p, p.num = n → (f p).num = n) :
    (s.modPkg n f).pkg? n = (s.pkg? n).map f :=
  List.modFirst_find_same _ f s.pkgs (fun x hx => by simpa using hf x (by simpa using hx))

theorem State.pkg?_modPkg_ne (s : State) (n k : Nat) (f : Pkg → Pkg) (hf : ∀ p, p.num = n → (f p).num = n) (hk : k ≠ n) :
    (s.modPkg n f).pkg? k = s.pkg? k :=
  List.modFirst_find_other _ _ f s.pkgs (fun x hx => by
    have h1 : x.num = n := by simpa using hx
    have h2 := hf x h1
    exact ⟨by simp [h1]; omega, by simp [h2]; omega⟩)

end Sys2Proof.Machine
end

