-- ==== Sys2Proof/Tests/Slice0.lean ====
section
/-!
SUPPORT. Sys2Proof/Tests/Slice0.lean: tests of the decoder and of the well-formedness checks. The expected instructions are
read off the encoding tables (R307 to R314, R318 to R321) and the reference entries' examples, not off the model. Then the
witnesses: for each statement with hypotheses a theorem witness_<its name>, a concrete state and operands that meet them, with
a boundary value for each of its clauses where it has several over one input.
-/
namespace Sys2Proof

/- One theorem is checked after the other, so that few threads are needed at a time. -/
set_option Elab.async false

/-! ### One word of every row of the opcode table -/
/- Guard 5, predicates 3, 6 and 2, D = 8, A = 12, B = 16, X = 12, OFF = 24, BASE = 9, C = 9, handle 9. -/

theorem test_decode_alu_1 :
    decode .alu 0x01420610 none = .ok (.iaddV 5 8 12 (.v 16)) 1 ∧
    decode .alu 0x03420610 none = .ok (.iaddS 5 8 12 (.s 16)) 1 ∧
    decode .alu 0x05420610 none = .ok (.iaddDV 5 8 12 (.v 16)) 1 ∧
    decode .alu 0x07420610 none = .ok (.iaddDS 5 8 12 (.s 16)) 1 ∧
    decode .alu 0x09420610 none = .ok (.isubV 5 8 12 (.v 16)) 1 ∧
    decode .alu 0x0B420610 none = .ok (.isubS 5 8 12 (.s 16)) 1 ∧
    decode .alu 0x0D420610 none = .ok (.isubDV 5 8 12 (.v 16)) 1 ∧
    decode .alu 0x0F420610 none = .ok (.isubDS 5 8 12 (.s 16)) 1 ∧
    decode .alu 0x11420610 none = .ok (.imulV 5 8 12 (.v 16)) 1 ∧
    decode .alu 0x13420610 none = .ok (.imulS 5 8 12 (.s 16)) 1 ∧
    decode .alu 0x15420610 none = .ok (.imulhIV 5 8 12 (.v 16)) 1 ∧
    decode .alu 0x17420610 none = .ok (.imulhIS 5 8 12 (.s 16)) 1 ∧
    decode .alu 0x19420610 none = .ok (.imulhNV 5 8 12 (.v 16)) 1 ∧
    decode .alu 0x1B420610 none = .ok (.imulhNS 5 8 12 (.s 16)) 1 ∧
    decode .alu 0x1D420610 none = .ok (.imadV 5 8 12 (.v 16)) 1 ∧
    decode .alu 0x1F420610 none = .ok (.imadS 5 8 12 (.s 16)) 1 := by decide

theorem test_decode_alu_2 :
    decode .alu 0x21420610 none = .ok (.iminIV 5 8 12 (.v 16)) 1 ∧
    decode .alu 0x23420610 none = .ok (.iminIS 5 8 12 (.s 16)) 1 ∧
    decode .alu 0x25420610 none = .ok (.iminNV 5 8 12 (.v 16)) 1 ∧
    decode .alu 0x27420610 none = .ok (.iminNS 5 8 12 (.s 16)) 1 ∧
    decode .alu 0x29420610 none = .ok (.imaxIV 5 8 12 (.v 16)) 1 ∧
    decode .alu 0x2B420610 none = .ok (.imaxIS 5 8 12 (.s 16)) 1 ∧
    decode .alu 0x2D420610 none = .ok (.imaxNV 5 8 12 (.v 16)) 1 ∧
    decode .alu 0x2F420610 none = .ok (.imaxNS 5 8 12 (.s 16)) 1 ∧
    decode .alu 0x31420010 none = .ok (.iabsV 5 8 (.v 16)) 1 ∧
    decode .alu 0x33420010 none = .ok (.iabsS 5 8 (.s 16)) 1 ∧
    decode .alu 0x35420610 none = .ok (.andV 5 8 12 (.v 16)) 1 ∧
    decode .alu 0x37420610 none = .ok (.andS 5 8 12 (.s 16)) 1 ∧
    decode .alu 0x39420610 none = .ok (.orV 5 8 12 (.v 16)) 1 ∧
    decode .alu 0x3B420610 none = .ok (.orS 5 8 12 (.s 16)) 1 ∧
    decode .alu 0x3D420610 none = .ok (.xorV 5 8 12 (.v 16)) 1 ∧
    decode .alu 0x3F420610 none = .ok (.xorS 5 8 12 (.s 16)) 1 := by decide

theorem test_decode_alu_3 :
    decode .alu 0x41420010 none = .ok (.notV 5 8 (.v 16)) 1 ∧
    decode .alu 0x43420010 none = .ok (.notS 5 8 (.s 16)) 1 ∧
    decode .alu 0x45420610 none = .ok (.shlV 5 8 12 (.v 16)) 1 ∧
    decode .alu 0x47420610 none = .ok (.shlS 5 8 12 (.s 16)) 1 ∧
    decode .alu 0x49420610 none = .ok (.shrV 5 8 12 (.v 16)) 1 ∧
    decode .alu 0x4B420610 none = .ok (.shrS 5 8 12 (.s 16)) 1 ∧
    decode .alu 0x4D420610 none = .ok (.sarV 5 8 12 (.v 16)) 1 ∧
    decode .alu 0x4F420610 none = .ok (.sarS 5 8 12 (.s 16)) 1 ∧
    decode .alu 0x51420610 none = .ok (.rotV 5 8 12 (.v 16)) 1 ∧
    decode .alu 0x53420610 none = .ok (.rotS 5 8 12 (.s 16)) 1 ∧
    decode .alu 0x55420010 none = .ok (.popcV 5 8 (.v 16)) 1 ∧
    decode .alu 0x57420010 none = .ok (.popcS 5 8 (.s 16)) 1 ∧
    decode .alu 0x59420010 none = .ok (.clzV 5 8 (.v 16)) 1 ∧
    decode .alu 0x5B420010 none = .ok (.clzS 5 8 (.s 16)) 1 ∧
    decode .alu 0x5D420010 none = .ok (.brevV 5 8 (.v 16)) 1 ∧
    decode .alu 0x5F420010 none = .ok (.brevS 5 8 (.s 16)) 1 := by decide

theorem test_decode_alu_4 :
    decode .alu 0x61420610 none = .ok (.bfeNV 5 8 12 (.v 16)) 1 ∧
    decode .alu 0x63420610 none = .ok (.bfeNS 5 8 12 (.s 16)) 1 ∧
    decode .alu 0x65420610 none = .ok (.bfeIV 5 8 12 (.v 16)) 1 ∧
    decode .alu 0x67420610 none = .ok (.bfeIS 5 8 12 (.s 16)) 1 ∧
    decode .alu 0x69420610 none = .ok (.bfiV 5 8 12 (.v 16)) 1 ∧
    decode .alu 0x6B420610 none = .ok (.bfiS 5 8 12 (.s 16)) 1 ∧
    decode .alu 0x6D420610 none = .ok (.selV 5 8 12 (.v 16)) 1 ∧
    decode .alu 0x6F420610 none = .ok (.selS 5 8 12 (.s 16)) 1 ∧
    decode .alu 0x71420010 none = .ok (.movV 5 8 (.v 16)) 1 ∧
    decode .alu 0x73420010 none = .ok (.movS 5 8 (.s 16)) 1 ∧
    decode .alu 0x75598610 none = .ok (.icmpV 5 3 .le 12 (.v 16)) 1 ∧
    decode .alu 0x77598610 none = .ok (.icmpS 5 3 .le 12 (.s 16)) 1 ∧
    decode .alu 0x795A0610 none = .ok (.fcmpF32 5 3 .gt 12 (.v 16)) 1 ∧
    decode .alu 0x7B5A0610 none = .ok (.fcmpF64 5 3 .gt 12 (.v 16)) 1 ∧
    decode .alu 0x7D5C8302 none = .ok (.plop 5 3 9 6 2) 1 ∧
    decode .alu 0x7F420006 none = .ok (.ballot 5 8 6) 1 := by decide

theorem test_decode_alu_5 :
    decode .alu 0x81420610 none = .ok (.faddF32V 5 8 12 (.v 16)) 1 ∧
    decode .alu 0x83420610 none = .ok (.faddF32S 5 8 12 (.s 16)) 1 ∧
    decode .alu 0x85420610 none = .ok (.faddF64 5 8 12 (.v 16)) 1 ∧
    decode .alu 0x87420610 none = .ok (.faddH2 5 8 12 (.v 16)) 1 ∧
    decode .alu 0x89420610 none = .ok (.faddB2 5 8 12 (.v 16)) 1 ∧
    decode .alu 0x8B420610 none = .ok (.fsubF32 5 8 12 (.v 16)) 1 ∧
    decode .alu 0x8D420610 none = .ok (.fsubF64 5 8 12 (.v 16)) 1 ∧
    decode .alu 0x91420610 none = .ok (.fmulF32V 5 8 12 (.v 16)) 1 ∧
    decode .alu 0x93420610 none = .ok (.fmulF32S 5 8 12 (.s 16)) 1 ∧
    decode .alu 0x95420610 none = .ok (.fmulF64 5 8 12 (.v 16)) 1 ∧
    decode .alu 0x97420610 none = .ok (.fmulH2 5 8 12 (.v 16)) 1 ∧
    decode .alu 0x99420610 none = .ok (.fmulB2 5 8 12 (.v 16)) 1 ∧
    decode .alu 0xA1420610 none = .ok (.ffmaF32V 5 8 12 (.v 16)) 1 ∧
    decode .alu 0xA3420610 none = .ok (.ffmaF32S 5 8 12 (.s 16)) 1 ∧
    decode .alu 0xA5420610 none = .ok (.ffmaF64 5 8 12 (.v 16)) 1 ∧
    decode .alu 0xA7420610 none = .ok (.ffmaH2 5 8 12 (.v 16)) 1 := by decide

theorem test_decode_alu_6 :
    decode .alu 0xA9420610 none = .ok (.ffmaB2 5 8 12 (.v 16)) 1 ∧
    decode .alu 0xAB420610 none = .ok (.fminF32 5 8 12 (.v 16)) 1 ∧
    decode .alu 0xAD420610 none = .ok (.fmaxF32 5 8 12 (.v 16)) 1 ∧
    decode .alu 0xAF420610 none = .ok (.fminF64 5 8 12 (.v 16)) 1 ∧
    decode .alu 0xB1420610 none = .ok (.fmaxF64 5 8 12 (.v 16)) 1 ∧
    decode .alu 0xB3420610 none = .ok (.fdot2 5 8 12 (.v 16)) 1 ∧
    decode .alu 0xB5420010 none = .ok (.frcp 5 8 (.v 16)) 1 ∧
    decode .alu 0xB7420010 none = .ok (.frsq 5 8 (.v 16)) 1 ∧
    decode .alu 0xB9420010 none = .ok (.fsqrt 5 8 (.v 16)) 1 ∧
    decode .alu 0xBB420010 none = .ok (.fex2 5 8 (.v 16)) 1 ∧
    decode .alu 0xBD420010 none = .ok (.flg2 5 8 (.v 16)) 1 ∧
    decode .alu 0xC1420010 none = .ok (.fsin 5 8 (.v 16)) 1 ∧
    decode .alu 0xC3420010 none = .ok (.fcos 5 8 (.v 16)) 1 ∧
    decode .alu 0xC559440C none = .ok (.cvtFromF32 5 .inf .rdn .i8 8 12) 1 ∧
    decode .alu 0xE759440C none = .ok (.cvtFromF64 5 .inf .rdn .i8 8 12) 1 ∧
    decode .alu 0xE959440C none = .ok (.cvtFromBf16 5 .inf .rdn .i8 8 12) 1 := by decide

theorem test_decode_alu_7 :
    decode .alu 0xEB59440C none = .ok (.cvtFromF16 5 .inf .rdn .i8 8 12) 1 ∧
    decode .alu 0xED59440C none = .ok (.cvtFromE4m3 5 .inf .rdn .i8 8 12) 1 ∧
    decode .alu 0xEF59440C none = .ok (.cvtFromE5m2 5 .inf .rdn .i8 8 12) 1 ∧
    decode .alu 0xF159440C none = .ok (.cvtFromI32 5 .inf .rdn .i8 8 12) 1 ∧
    decode .alu 0xF359440C none = .ok (.cvtFromN32 5 .inf .rdn .i8 8 12) 1 ∧
    decode .alu 0xC7620610 none = .ok (.qnt 5 8 12 (.s 16)) 1 ∧
    decode .alu 0xC9620610 none = .ok (.unpk 5 8 12 (.s 16)) 1 ∧
    decode .alu 0xCB620610 none = .ok (.pack 5 8 12 (.s 16)) 1 ∧
    decode .alu 0xCD420610 none = .ok (.shflIdx 5 8 12 (.v 16)) 1 ∧
    decode .alu 0xCF420610 none = .ok (.shflXor 5 8 12 (.v 16)) 1 ∧
    decode .alu 0xD1420610 none = .ok (.shflUp 5 8 12 (.v 16)) 1 ∧
    decode .alu 0xD3420610 none = .ok (.shflDown 5 8 12 (.v 16)) 1 ∧
    decode .alu 0xD5420601 none = .ok (.vred 5 8 12 .sumF) 1 ∧
    decode .alu 0xD7620610 none = .ok (.vminxN 5 8 12 (.s 16)) 1 ∧
    decode .alu 0xD9620610 none = .ok (.vminxI 5 8 12 (.s 16)) 1 ∧
    decode .alu 0xDB620610 none = .ok (.vminxF 5 8 12 (.s 16)) 1 := by decide

theorem test_decode_alu_8 :
    decode .alu 0xDD620610 none = .ok (.vmaxxN 5 8 12 (.s 16)) 1 ∧
    decode .alu 0xDF620610 none = .ok (.vmaxxI 5 8 12 (.s 16)) 1 ∧
    decode .alu 0xE1620610 none = .ok (.vmaxxF 5 8 12 (.s 16)) 1 ∧
    decode .alu 0xE3420641 none = .ok (.vscan 5 8 12 true .sumF) 1 ∧
    decode .alu 0xE5420000 none = .ok (.pmovGet 5 8) 1 ∧
    decode .alu 0xE5400090 none = .ok (.pmovPut 5 (.v 16)) 1 ∧
    decode .alu 0xE540C110 none = .ok (.pmovNz 5 3 (.v 16)) 1 ∧
    decode .alu 0xE560C190 none = .ok (.pmovMask 5 3 (.s 16)) 1 ∧
    decode .alu 0xFE000000 none = .ok (.nop) 1 := by decide

theorem test_decode_mem_1 :
    decode .mem 0x015A4618 none = .ok (.ldB8 5 true .fe 9 12 (.reg 24)) 1 ∧
    decode .mem 0x035A4618 none = .ok (.ldX8 5 true .fe 9 12 (.reg 24)) 1 ∧
    decode .mem 0x055A4618 none = .ok (.ldB16 5 true .fe 9 12 (.reg 24)) 1 ∧
    decode .mem 0x075A4618 none = .ok (.ldX16 5 true .fe 9 12 (.reg 24)) 1 ∧
    decode .mem 0x095A4618 none = .ok (.ldB32 5 true .fe 9 12 (.reg 24)) 1 ∧
    decode .mem 0x0B5A4618 none = .ok (.ldB64 5 true .fe 9 12 (.reg 24)) 1 ∧
    decode .mem 0x0D5A4618 none = .ok (.ldB128 5 true .fe 9 12 (.reg 24)) 1 ∧
    decode .mem 0x215A4618 none = .ok (.ldB32Scalar 5 true .fe 9 12 (.reg 24)) 1 ∧
    decode .mem 0x235A4618 none = .ok (.ldB64Scalar 5 true .fe 9 12 (.reg 24)) 1 ∧
    decode .mem 0x115A4618 none = .ok (.stB8 5 true .lk 9 12 (.reg 24)) 1 ∧
    decode .mem 0x135A4618 none = .ok (.stB16 5 true .lk 9 12 (.reg 24)) 1 ∧
    decode .mem 0x155A4618 none = .ok (.stB32 5 true .lk 9 12 (.reg 24)) 1 ∧
    decode .mem 0x175A4618 none = .ok (.stB64 5 true .lk 9 12 (.reg 24)) 1 ∧
    decode .mem 0x195A4618 none = .ok (.stB128 5 true .lk 9 12 (.reg 24)) 1 ∧
    decode .mem 0x255A4618 none = .ok (.stB32Scalar 5 true .lk 9 12 (.reg 24)) 1 ∧
    decode .mem 0x275A4618 none = .ok (.stB64Scalar 5 true .lk 9 12 (.reg 24)) 1 := by decide

theorem test_decode_mem_2 :
    decode .mem 0x416A4618 none = .ok (.atomAdd 5 .system 9 12 (.reg 24)) 1 ∧
    decode .mem 0x436A4618 none = .ok (.atomAnd 5 .system 9 12 (.reg 24)) 1 ∧
    decode .mem 0x456A4618 none = .ok (.atomOr 5 .system 9 12 (.reg 24)) 1 ∧
    decode .mem 0x476A4618 none = .ok (.atomXor 5 .system 9 12 (.reg 24)) 1 ∧
    decode .mem 0x496A4618 none = .ok (.atomMinI 5 .system 9 12 (.reg 24)) 1 ∧
    decode .mem 0x4B6A4618 none = .ok (.atomMinN 5 .system 9 12 (.reg 24)) 1 ∧
    decode .mem 0x4D6A4618 none = .ok (.atomMaxI 5 .system 9 12 (.reg 24)) 1 ∧
    decode .mem 0x4F6A4618 none = .ok (.atomMaxN 5 .system 9 12 (.reg 24)) 1 ∧
    decode .mem 0x516A4618 none = .ok (.atomExch 5 .system 9 12 (.reg 24)) 1 ∧
    decode .mem 0x536A4618 none = .ok (.atomFadd 5 .system 9 12 (.reg 24)) 1 ∧
    decode .mem 0x556A4618 none = .ok (.atomFmax 5 .system 9 12 (.reg 24)) 1 ∧
    decode .mem 0x576A4618 none = .ok (.atomFmin 5 .system 9 12 (.reg 24)) 1 ∧
    decode .mem 0x616A4618 none = .ok (.redAdd 5 .system 9 12 (.reg 24)) 1 ∧
    decode .mem 0x636A4618 none = .ok (.redAnd 5 .system 9 12 (.reg 24)) 1 ∧
    decode .mem 0x656A4618 none = .ok (.redOr 5 .system 9 12 (.reg 24)) 1 ∧
    decode .mem 0x676A4618 none = .ok (.redXor 5 .system 9 12 (.reg 24)) 1 := by decide

theorem test_decode_mem_3 :
    decode .mem 0x696A4618 none = .ok (.redMinI 5 .system 9 12 (.reg 24)) 1 ∧
    decode .mem 0x6B6A4618 none = .ok (.redMinN 5 .system 9 12 (.reg 24)) 1 ∧
    decode .mem 0x6D6A4618 none = .ok (.redMaxI 5 .system 9 12 (.reg 24)) 1 ∧
    decode .mem 0x6F6A4618 none = .ok (.redMaxN 5 .system 9 12 (.reg 24)) 1 ∧
    decode .mem 0x716A4618 none = .ok (.redExch 5 .system 9 12 (.reg 24)) 1 ∧
    decode .mem 0x736A4618 none = .ok (.redFadd 5 .system 9 12 (.reg 24)) 1 ∧
    decode .mem 0x756A4618 none = .ok (.redFmax 5 .system 9 12 (.reg 24)) 1 ∧
    decode .mem 0x776A4618 none = .ok (.redFmin 5 .system 9 12 (.reg 24)) 1 ∧
    decode .mem 0x816A4618 none = .ok (.cas 5 .system 9 12 (.reg 24)) 1 ∧
    decode .mem 0x836A4618 none = .ok (.casD 5 .system 9 12 (.reg 24)) 1 ∧
    decode .mem 0x856A4618 none = .ok (.gtswap 5 .system 9 12 (.reg 24)) 1 ∧
    decode .mem 0x876A4618 none = .ok (.gtswapD 5 .system 9 12 (.reg 24)) 1 ∧
    decode .mem 0x896A4618 none = .ok (.vswap 5 .system 9 12 (.reg 24)) 1 ∧
    decode .mem 0x8B6A4618 none = .ok (.tagswap 5 .system 9 12 (.reg 24)) 1 ∧
    decode .mem 0xA1680080 none = .ok (.fence 5 .system .rel) 1 ∧
    decode .mem 0xA3680080 none = .ok (.clasp 5 .system true) 1 := by decide

theorem test_decode_mem_4 :
    decode .mem 0xA5424098 none = .ok (.pfetch 5 true 9 (.reg 24)) 1 ∧
    decode .mem 0xA7424018 none = .ok (.cflush 5 9 (.reg 24)) 1 ∧
    decode .mem 0xA9424018 none = .ok (.cinv 5 9 (.reg 24)) 1 ∧
    decode .mem 0xAB4A4618 none = .ok (.femark 5 true 9 12 (.reg 24)) 1 ∧
    decode .mem 0xAD424618 none = .ok (.cohset 5 9 12 (.reg 24)) 1 ∧
    decode .mem 0xAF40040C none = .ok (.lkread 5 8 12) 1 ∧
    decode .mem 0xB140040C none = .ok (.lkbind 5 8 12) 1 ∧
    decode .mem 0xB340000C none = .ok (.lkrst 5 12) 1 := by decide

theorem test_decode_mtx_1 :
    decode .mtx 0x000AA413 none = .ok (.mma 5 10 32 9 true) 1 ∧
    decode .mtx 0x05400000 none = .ok (.oprdy 5) 1 ∧
    decode .mtx 0x07420610 none = .ok (.mkdesc 5 8 12 (.s 16)) 1 := by decide

theorem test_decode_eng_1 :
    decode .eng 0x01532000 none = .ok (.copy 5 9 9) 1 ∧
    decode .eng 0x03532000 none = .ok (.gather 5 9 9) 1 ∧
    decode .eng 0x05532000 none = .ok (.scatter 5 9 9) 1 ∧
    decode .eng 0x07532000 none = .ok (.mgt 5 9 9) 1 ∧
    decode .eng 0x09532000 none = .ok (.coll 5 9 9) 1 ∧
    decode .eng 0x0B532000 none = .ok (.tsend 5 9 9) 1 ∧
    decode .eng 0x0D520155 none = .ok (.ctrset 5 9 0x155) 1 ∧
    decode .eng 0x0F520155 none = .ok (.ctradd 5 9 0x155) 1 ∧
    decode .eng 0x11520155 none = .ok (.ctrrd 5 9 0x155) 1 ∧
    decode .eng 0x13520021 none = .ok (.chsend 5 9 33) 1 ∧
    decode .eng 0x15520021 none = .ok (.chrecv 5 9 33) 1 ∧
    decode .eng 0x17412048 none = .ok (.hwait 5 9 (some 8)) 1 ∧
    decode .eng 0x19412008 none = .ok (.htest 5 9 8) 1 ∧
    decode .eng 0x1B412000 none = .ok (.hcancel 5 9) 1 ∧
    decode .eng 0x1D532000 none = .ok (.hsave 5 9 9) 1 ∧
    decode .eng 0x1F532000 none = .ok (.hload 5 9 9) 1 := by decide

theorem test_decode_eng_2 :
    decode .eng 0x21412006 none = .ok (.hmov 5 9 6) 1 := by decide

theorem test_decode_ctl_1 :
    decode .ctl 0x002AAAAA none = .ok (.bra 0x2AAAAA) 1 ∧
    decode .ctl 0x036AAAAA none = .ok (.bany 5 0x2AAAAA) 1 ∧
    decode .ctl 0x056AAAAA none = .ok (.ball 5 0x2AAAAA) 1 ∧
    decode .ctl 0x076AAAAA none = .ok (.bnone 5 0x2AAAAA) 1 ∧
    decode .ctl 0x096AAAAA none = .ok (.bdiv 5 0x2AAAAA) 1 ∧
    decode .ctl 0x0B6AAAAA none = .ok (.call 5 0x2AAAAA) 1 ∧
    decode .ctl 0x0D400000 none = .ok (.ret 5) 1 ∧
    decode .ctl 0x0F40000C none = .ok (.brx 5 12) 1 ∧
    decode .ctl 0x11400000 none = .ok (.rejoin 5) 1 ∧
    decode .ctl 0x13400000 none = .ok (.exit 5) 1 ∧
    decode .ctl 0x15400000 none = .ok (.yield 5) 1 ∧
    decode .ctl 0x17424018 none = .ok (.bar 5 9 (.reg 24)) 1 ∧
    decode .ctl 0x19424618 none = .ok (.binit 5 9 12 (.reg 24)) 1 ∧
    decode .ctl 0x1B40000C none = .ok (.setfmt 5 12) 1 ∧
    decode .ctl 0x1D400400 none = .ok (.getfmt 5 8) 1 ∧
    decode .ctl 0x1F450401 none = .ok (.sread 5 0x14 (.v 8)) 1 := by decide

theorem test_decode_ctl_2 :
    decode .ctl 0x2149000C none = .ok (.swrite 5 0x24 12) 1 ∧
    decode .ctl 0x23694000 none = .ok (.trap 5 0xA5) 1 ∧
    decode .ctl 0x25400000 none = .ok (.eret 5) 1 ∧
    decode .ctl 0x25404000 none = .ok (.eretNext 5) 1 ∧
    decode .ctl 0x2940440C none = .ok (.tlbinv 5 .m2 8 12) 1 := by decide

/-! ### Words that the reference entries assemble -/

/-- R309, R311: literals and extension words. -/
theorem test_decode_literals :
    decode .alu 0x0621037F (some 0xFFFFFFFF) = .ok (.iaddDS 0 4 6 (.lit 0xFFFFFFFF)) 2 ∧
    decode .alu 0x7220807F (some 0x12345678) = .ok (.movS 0 2 (.lit 0x12345678)) 2 ∧
    decode .alu 0x4420417F (some 4) = .ok (.shlV 0 1 2 (.lit 4)) 2 ∧
    decode .alu 0xCE2081FF (some 1) = .ok (.shflXor 0 2 3 (.lit 1)) 2 ∧
    decode .alu 0xC823867F (some 0) = .ok (.unpk 0 14 12 (.lit 0)) 2 ∧
    decode .alu 0xE021037F (some 0xFF800000) = .ok (.vmaxxF 0 4 6 (.lit 0xFF800000)) 2 ∧
    decode .mem 0x0A08427F (some 0x0000087F) = .ok (.ldB64 0 true .plain 1 4 (.ext 16 none)) 2 ∧
    decode .mem 0xA400807F (some 0x0000007F) = .ok (.pfetch 0 false 2 (.ext 0 none)) 2 ∧
    decode .ctl 0x1600807F (some 0x0000007F) = .ok (.bar 0 2 (.ext 0 none)) 2 ∧
    decode .mtx 0x06228A7F (some 6) = .ok (.mkdesc 0 10 20 (.lit 6)) 2 := by decide

/-- R309: a scalar B operand of a vector form, and words of each class. -/
theorem test_decode_examples :
    decode .alu 0x1C210286 none = .ok (.imadV 0 4 5 (.s 6)) 1 ∧
    decode .alu 0x7020C007 none = .ok (.movV 0 3 (.s 7)) 1 ∧
    decode .alu 0xC4048286 none = .ok (.cvtFromF32 0 .sat .rtz .e4m3 5 6) 1 ∧
    decode .alu 0x74158184 none = .ok (.icmpV 0 2 .gen 3 (.v 4)) 1 ∧
    decode .alu 0x7C1C0082 none = .ok (.plop 0 3 8 1 2) 1 ∧
    decode .mem 0x14184206 none = .ok (.stB32 0 true .lk 1 4 (.reg 6)) 1 ∧
    decode .mem 0x60284206 none = .ok (.redAdd 0 .system 1 4 (.reg 6)) 1 ∧
    decode .mem 0xAC008386 none = .ok (.cohset 0 2 7 (.reg 6)) 1 ∧
    decode .eng 0x060CC000 none = .ok (.mgt 0 6 6) 1 ∧
    decode .eng 0x12080003 none = .ok (.chsend 0 4 3) 1 ∧
    decode .ctl 0x003FFFFD none = .ok (.bra 0x3FFFFD) 1 ∧
    decode .ctl 0x0880000C none = .ok (.bdiv 2 12) 1 ∧
    decode .ctl 0x22014000 none = .ok (.trap 0 5) 1 ∧
    decode .ctl 0x24004000 none = .ok (.eretNext 0) 1 := by decide

/-- R307, R308, R312, R313, R370: words that no row has: an unassigned opcode, an odd pair, a reserved comparison, a target that
is the source's own format, a scalar register beyond s63, a reserved scope. -/
theorem test_decode_refused :
    decode .mem 0x0E000000 none = .illegal ∧ decode .alu 0x04004000 none = .illegal ∧
    decode .alu 0x74330184 none = .illegal ∧ decode .alu 0xC401C286 none = .illegal ∧
    decode .alu 0x02100000 none = .illegal ∧ decode .mem 0x40304206 none = .illegal ∧
    decode .mem 0x0A08427F none = .needExt := by decide

/-- A table word is read in the first class that has it. -/
theorem test_decode_table_word : decodeTableWord 32 0x08004103 = some (.isubV 0 1 2 (.v 3)) := by decide

/-- The encoder writes the words of the reference entries. -/
theorem test_encode :
    encode (.imadV 0 4 5 (.s 6)) = some { cls := .alu, word := 0x1C210286, ext := none } ∧
    encode (.ldB64 0 true .plain 1 4 (.ext 16 none)) = some { cls := .mem, word := 0x0A08427F, ext := some 0x0000087F } ∧
    encode (.trap 0 5) = some { cls := .ctl, word := 0x22014000, ext := none } := by decide

/-! ### Well-formedness: a term that each check refuses -/

/-- R308, R311, R370, R409: register pairs, groups of four, offsets and conversion targets. -/
theorem test_ill_formed_words :
    WellFormed (.iaddDV 0 1 2 (.v 4)) = false ∧ WellFormed (.iaddDV 0 2 3 (.v 4)) = false ∧
    WellFormed (.iaddDV 0 2 4 (.v 5)) = false ∧ WellFormed (.iaddDS 0 2 4 (.s 5)) = false ∧
    WellFormed (.iaddDV 0 2 4 (.lit 5)) = true ∧ WellFormed (.fcmpF64 0 1 .eq 3 (.v 4)) = false ∧
    WellFormed (.vminxN 0 5 2 (.s 1)) = false ∧ WellFormed (.cvtFromF32 0 .sat .rne .fp32 1 2) = false ∧
    WellFormed (.cvtFromF32 0 .sat .rne .e2m1x 1 2) = false ∧ WellFormed (.cvtFromF32 0 .sat .rne .fp64 1 2) = false ∧
    WellFormed (.cvtFromF64 0 .sat .rne .fp32 1 3) = false ∧ WellFormed (.ldB8 0 false .plain 1 4 (.reg 0x7F)) = false ∧
    WellFormed (.ldB8 0 false .plain 1 4 (.ext 0 (some 0x7F))) = false ∧
    WellFormed (.ldB64 0 false .plain 1 5 (.reg 0)) = false ∧ WellFormed (.ldB128 0 false .plain 1 6 (.reg 0)) = false ∧
    WellFormed (.ldB64Scalar 0 false .plain 1 5 (.reg 0)) = false ∧ WellFormed (.tlbinv 0 .k64 1 3) = false := by decide

/-- R8, R30: the units that an event names exist. -/
theorem test_ill_formed_events :
    WellFormed (.queueSweep 512) = false ∧ WellFormed (.recordFetch 0 65536) = false ∧
    WellFormed (.locketCacheExpire 0 256) = false ∧ WellFormed (.engineTransferChunk 1 0) = false ∧
    WellFormed (.gangDispatch 1 8) = false ∧ WellFormed (.slotLeadStart 0 64) = false ∧
    WellFormed (.configRegisterWrite 0 (.pf 2) 0 [0, 0, 0, 0]) = false ∧ WellFormed (.configRegisterWrite 0 (.vf 128) 0 [0, 0, 0, 0]) = false ∧
    WellFormed (.configRegisterWrite 0 (.pf 1) 0x4000000 [0, 0, 0, 0]) = false ∧ WellFormed (.transitCopyResolve 0 256) = false ∧
    WellFormed (.clusterSleep 0 64) = false ∧ WellFormed (.hostMemoryWrite 0 2 0 []) = false ∧
    WellFormed (.qcreate 512 (.pf 0)) = false ∧ WellFormed (.xeSubSubmit 0 16 0) = false ∧
    WellFormed (.flitReceive 0 18 []) = false ∧ WellFormed (.flitReceive 0 0 []) = false ∧
    WellFormed (.linkTimeout 0 18) = false ∧ WellFormed (.peerRouteTimeout 0 512) = false ∧
    WellFormed (.peerLossAgree 512) = false ∧ WellFormed (.vfFlr 0 128) = false ∧ WellFormed (.queueSweep 511) = true := by decide

open Machine Safety

/-! ### Witnesses: a state and operands that meet the hypotheses of each statement -/

/-- A side with all lanes at the first word of a clause of one word. -/
def wSide : Side := { Side.at (BitVec.allOnes 32) 0x10000 0 with
  pt := { hdr := 0x10000, head := 0, pos := 1, count := 1, cls := .alu, opr := false, marks := [], loose := [] } }

/-- A group of VF 0 with all 128 registers. -/
def wAgent : Agent := { Agent.blank with id := 9000, crew := 9001, launch := 9002, nregs := 128, trapvec := 64, prim := some wSide }

def wCrew : Crew :=
  { id := 9001, pkg := 0, vf := 0, launch := 9002, stage := 0, gang := 9003, idx := 0, gangSize := 1, core := 0, ngroups := 1,
    regs := 128, size := 458752, pad := [], full := [], poison := [], ready := 0, readyAt := [], seen := [], ended := 0, rings := [] }

def wCursor : Cursor := { agent := 9000, slot := false, raw := 0, len := 1, left := false }

/-- A package whose VF 0 owns partition 0 and has eight Locket records. -/
def wVf : Vf := { Vf.reset with enabled := true, lkSize := 8, cfg := { VfCfg.reset with qslots := 1 } }
def wPkg : Pkg :=
  ({ Pkg.reset with formed := true, vfs := Pkg.reset.vfs.set 0 wVf }).modPart 0 (fun q =>
    { q with phase := .run, owner := some 0, ce := some 0 })

/-- The state of one group `a` issuing the word at `wCursor` in package `p`. -/
def wState (a : Agent) (p : Pkg) : State :=
  { State.reset with pkgs := [p], agents := [a], crews := [wCrew], cur := some wCursor, nextId := 9100 }

def wS : State := wState wAgent wPkg

/-- What holds of every lane below 32 holds of every active lane. -/
theorem witness_lanes {m : W} {P : Nat → Prop} (h : ∀ l, l < 32 → P l) : ∀ l, m.getLsbD l = true → P l := by
  intro l hl
  by_cases h32 : l < 32
  · exact h l h32
  · simp [BitVec.getLsbD_of_ge m l (by omega)] at hl

/-- The vector and scalar words of class ALU at the last registers, pairs and rows of the allocation. -/
theorem witness_IntVectorResults : Issues wS wAgent wSide wCursor ∧ Fits wAgent (127 :: 126 :: VSrc.regs (.v 125)) :=
  ⟨rfl, by decide⟩
theorem witness_IntScalarResults : Issues wS wAgent wSide wCursor ∧ activeMask wAgent wSide 0 ≠ 0 := ⟨rfl, by decide⟩
theorem witness_BitFields :
    Issues wS wAgent wSide wCursor ∧ Fits wAgent (127 :: 126 :: VSrc.regs (.v 125)) ∧ activeMask wAgent wSide 0 ≠ 0 ∧
    (31 : Nat) < 32 ∧ 0 < min ((0x2000 : W).toNat / 256 % 256) 32 ∧ min ((0xFF : W).toNat / 256 % 256) 32 = 0 := ⟨rfl, by decide⟩
theorem witness_PairResults :
    Issues wS wAgent wSide wCursor ∧ Fits wAgent (126 :: 127 :: 124 :: 125 :: VSrc.regsD (.v 126)) := ⟨rfl, by decide⟩
theorem witness_PredicateResults :
    Issues wS wAgent wSide wCursor ∧ Fits wAgent (127 :: 127 :: 126 :: VSrc.regsD (.v 126)) := ⟨rfl, by decide⟩
theorem witness_PredicateBytes :
    Issues wS wAgent wSide wCursor ∧ Fits wAgent (127 :: VSrc.regs (.v 126)) ∧ (31 : Nat) < 32 ∧ (7 : Nat) < 8 :=
  ⟨rfl, by decide⟩
theorem witness_FloatVectorResults :
    Issues wS wAgent wSide wCursor ∧ Fits wAgent (127 :: 126 :: VSrc.regs (.v 125)) := ⟨rfl, by decide⟩
theorem witness_FloatPairAndScalarResults :
    Issues wS wAgent wSide wCursor ∧ Fits wAgent (126 :: 127 :: 124 :: 125 :: VSrc.regsD (.v 126)) := ⟨rfl, by decide⟩
theorem witness_UnaryFloatResults : Issues wS wAgent wSide wCursor ∧ Fits wAgent (127 :: VSrc.regs (.v 126)) := ⟨rfl, by decide⟩
theorem witness_SpecialInputResults :
    Fmt.value .fp32 0x7FA00000 = .nan true ∧ Fmt.value .fp32 0x7FC00000 = .nan false ∧
    (∃ m e, Fmt.value .fp32 0x80000001 = .fin true m e ∧ m ≠ 0) ∧
    FVal.isNan (.inf true) = false ∧ FVal.isNan (.fin false 0 0) = false :=
  ⟨by decide, by decide, ⟨_, _, rfl, by decide⟩, by decide⟩

/-- The reciprocal of 2^-127 is below 2^128, that of the least subnormal is not; 1 and 2 are ends of the middle of FLG2, and 128
is the first value whose power of two is too great. -/
theorem witness_UnaryErrorBounds :
    (∃ m e, Fmt.value .fp32 0x3F800000 = .fin false m e ∧ m ≠ 0) ∧ (∃ m e, Fmt.value .fp32 0x43000000 = .fin false m e ∧ m ≠ 0) ∧
    (∃ m e, Fmt.value .fp32 0x00000001 = .fin false m e ∧ m ≠ 0) ∧
    |1 / ((2 : ℝ) ^ (-127 : Int))| < (2 : ℝ) ^ (128 : Int) ∧ (2 : ℝ) ^ (128 : Int) ≤ |1 / ((2 : ℝ) ^ (-149 : Int))| ∧
    (0 : ℝ) < 2 ∧ (1 / 2 : ℝ) ≤ 2 ∧ (1 / 4 : ℝ) < 1 / 2 ∧ ¬((128 : ℝ) < 128) ∧ |(32768 : ℝ)| ≤ 32768 := by
  refine ⟨⟨_, _, rfl, by decide⟩, ⟨_, _, rfl, by decide⟩, ⟨_, _, rfl, by decide⟩, ?_⟩
  norm_num

/-- A format without an infinity and with an even and an odd greatest pattern, and what a sum and a product take. -/
theorem witness_RoundsTheExactResult :
    Fmt.isFloat .e2m1 = true ∧ (7 : Nat) < 2 ^ Fmt.bits .e2m1 ∧ (∃ n m e, Fmt.value .e2m1 7 = .fin n m e) ∧
    (roundArith .e2m1 .rne false (.fin false 3 1)).ovf = false ∧ (roundArith .e2m1 .rne false (.fin false 7 0)).ovf = true ∧
    (roundArith .fp16 .rtz false (.fin false 1 16)).ovf = true ∧ Fmt.hasInf .fp16 = true ∧
    [FVal.fin true 0 0] ≠ [] ∧ (∀ v ∈ [FVal.inf true, .fin false 1 0], v.isNan = false ∧ v ≠ .inf (!true)) ∧
    mulInvalid (.inf true) (.fin false 1 0) = false ∧ mulInvalid (.inf true) (.fin false 0 0) = true ∧
    sumInvalid [.inf true, .inf true] = false ∧ sumInvalid [.inf true, .inf false] = true := by
  refine ⟨by decide, by decide, ⟨_, _, _, rfl⟩, ?_⟩
  decide +kernel

/-- CVT to E4M3 under TRAP: zeros in every lane, and lane 0 at infinity. -/
theorem witness_ConvertResults :
    let x := wAgent.setV 126 1 (fun _ => 0x7F800000)
    Issues wS wAgent wSide wCursor ∧ Issues (wState x wPkg) x wSide wCursor ∧
    Fits wAgent (cvtRegs .e4m3 127 ++ cvtRegs .fp32 126) ∧ Fits wAgent (cvtRegs .fp64 126 ++ cvtRegs .fp64 126) ∧
    (∀ l, (activeMask wAgent wSide 0).getLsbD l = true →
      (convertTo .e4m3 .rne .trap false (Fmt.valueFtz false .fp32 (cvtSource wAgent .fp32 126 l))).trap = false) ∧
    (activeMask x wSide 0).getLsbD 0 = true ∧
    (convertTo .e4m3 .rne .trap false (Fmt.valueFtz false .fp32 (cvtSource x .fp32 126 0))).trap = true :=
  ⟨rfl, rfl, by decide, by decide, witness_lanes (by decide +kernel), by decide, by decide +kernel⟩
theorem witness_ConversionOverflow :
    Fmt.hasInf .fp16 = true ∧ Fmt.isFloat .e4m3 = true ∧ Fmt.hasInf .e4m3 = false ∧ Fmt.hasNan .e4m3 = true := by decide

/-- Control values at the ends of what PACK and UNPK admit and refuse, with and without an active lane. -/
theorem witness_PackResults :
    Issues wS wAgent wSide wCursor ∧ Fits wAgent [127, 126] ∧ activeMask wAgent wSide 0 ≠ 0 ∧ activeMask wAgent wSide 1 = 0 ∧
    (SSrc.get wAgent (.lit 0)).toNat < 3 ∧ (SSrc.get wAgent (.lit 2)).toNat < 3 ∧
    3 ≤ (SSrc.get wAgent (.lit 3)).toNat ∧ (SSrc.get wAgent (.lit 3)).toNat = 3 ∧
    ((SSrc.get wAgent (.lit 6)).toNat < 7 ∧ (SSrc.get wAgent (.lit 6)).toNat ≠ 3) ∧ 7 ≤ (SSrc.get wAgent (.lit 7)).toNat :=
  ⟨rfl, by decide⟩
theorem witness_PackFields :
    Issues wS wAgent wSide wCursor ∧ Fits wAgent [127, 126] ∧ activeMask wAgent wSide 0 ≠ 0 ∧ activeMask wAgent wSide 1 = 0 ∧
    (SSrc.get wAgent (.lit 6)).toNat < 7 ∧ (SSrc.get wAgent (.lit 6)).toNat ≠ 3 ∧ (SSrc.get wAgent (.lit 7)).toNat % 4 = 3 ∧
    8 ≤ (SSrc.get wAgent (.lit 8)).toNat ∧ (31 : Nat) < 32 ∧ (2 : W).toNat < 3 := ⟨rfl, by decide⟩

/-- A control core of package 0 at the first word of a clause of one word, in supervisor state or not. -/
def wCc (sup : Bool) : Cc :=
  { num := 0, supervisor := sup, halted := false, evec := 64, epc := 0, ecause := 0, prev := false, edata := 0, croot := 0,
    troot := 0, asid := 0x80, subs := [] }
def wCcA (sup : Bool) : Agent :=
  { Agent.controlCore Boot.reset 0 0 true with id := 9000, prim := some { wSide with mask := 1 }, cc := some (wCc sup) }
def wCcS (sup : Bool) : State := wState (wCcA sup) wPkg
theorem witness_issuesCc (sup : Bool) : Issues (wCcS sup) (wCcA sup) { wSide with mask := 1 } wCursor := by cases sup <;> rfl

/-- The agent `wAgent` with its side `x`, the side `y` in the other slot, and the stack `st`. -/
def wSides (x : Side) (y : Option Side) (st : List Entry) : Agent :=
  { wAgent with prim := some x, sec := y, stack := st, p := wAgent.p.set 0 1 }
def wSide2 : Side := { wSide with mask := 2 }
/-- An entry of the stack, at the word of `wSide` or at another, parked or not. -/
def wEntry (a : DW) (park : Option Park) : Entry :=
  { pt := { wSide.pt with hdr := a }, len := 1, park := park, mask := 2, fmt := 0 }

/-- QNT to BF16 by record 0 of zeros: zeros, which do not overflow, and the greatest FP32 in lane 0, which does, with the trap
of POL set. -/
theorem witness_QntResults :
    let x := wAgent.setV 126 1 (fun _ => 0x7F7FFFFF)
    let u := { wState x { wPkg with vfs := Pkg.reset.vfs.set 0 { wVf with lkBase := 0 } } with ten := [⟨9, 0x40⟩] }
    Issues wS wAgent wSide wCursor ∧ Issues u x wSide wCursor ∧ Fits wAgent [127, 126] ∧ fmtSplit wSide.fmt = false ∧
    activeMask wAgent wSide 0 ≠ 0 ∧ 7 < wS.lkNrec 0 0 ∧ 0 < u.lkNrec 0 0 ∧
    (LkRec.ofBytes (u.lkView x 0).1).pol.getLsbD 6 = true ∧ qfOk (fmtQf wSide.fmt) = true ∧
    Fmt.ofCode (fmtQf wSide.fmt) = some .bf16 ∧ wS.isPoisoned .ten (wS.lkAddr 0 0 7) 64 = false :=
  ⟨rfl, rfl, by decide +kernel⟩
theorem witness_ShuffleResults : Issues wS wAgent wSide wCursor ∧ Fits wAgent (127 :: 126 :: VSrc.regs (.v 125)) :=
  ⟨rfl, by decide⟩
theorem witness_ExtremeResults : Issues wS wAgent wSide wCursor ∧ Fits wAgent [127] := ⟨rfl, by decide⟩
theorem witness_ReduceResults : Issues wS wAgent wSide wCursor ∧ Fits wAgent [127, 126] ∧ activeMask wAgent wSide 0 ≠ 0 ∧
    activeMask wAgent wSide 1 = 0 := ⟨rfl, by decide⟩
theorem witness_NopAdvances : Issues wS wAgent wSide wCursor := rfl
theorem witness_ExtremeIsLowest :
    let v (w : W) : FVal := Fmt.value .fp32 w.toNat
    ([3, 1, 1] : List W) ≠ [] ∧ ((v 0x7FA00000).isNan = true ∧ (v 0xFFC00000).isNan = true) ∧
    ((v 0x80000000).isNan = false ∧ (v 0).isNan = false) ∧ v 0x7FA00000 = .nan true := by decide
/-- Lane values that are all finite, with a NaN, with both infinities, and with one. -/
theorem witness_ReduceCombines :
    let vs (l : List W) : List FVal := l.map (fun x => Fmt.valueFtz (fmtFtz 0) .fp32 x.toNat)
    [(1 : W), 2].Perm [2, 1] ∧ vs [0x3F800000, 0x80000000] = [.fin false 8388608 (-23), .fin true 0 (-149)] ∧
    vs [0x7FC00000] = [.nan false] ∧ vs [0x7F800000, 0xFF800000] = [.inf false, .inf true] ∧
    vs [0xFF800000, 1] = [.inf true, .fin false 1 (-149)] := by
  refine ⟨List.Perm.swap _ _ _, ?_⟩
  decide +kernel
/-- A control core, and a group of eight registers of which a word names v9 and v127. -/
theorem witness_VectorRegisterChecks :
    let x := { wAgent with nregs := 8 }
    Issues (wCcS true) (wCcA true) { wSide with mask := 1 } wCursor ∧ (wCcA true).isCc = true ∧
    Issues (wState x wPkg) x wSide wCursor ∧ x.isCc = false ∧
    vecRegs (.iaddV 0 127 9 (.v 7)) = some [127, 9, 7] ∧ (9 ∈ [127, 9, 7] ∧ 8 ≤ 9 ∧ ∀ q ∈ [127, 9, 7], 8 ≤ q → 9 ≤ q) :=
  ⟨rfl, rfl, rfl, by decide⟩
theorem witness_RegisterWordFrames :
    Issues wS wAgent wSide wCursor ∧ wS.accRes = [] ∧ aluWrites (.iaddV 0 127 126 (.v 125)) = some (0, [127], [], []) ∧
    (∃ t, exec (.iaddV 0 127 126 (.v 125)) wS = .next t) ∧ (∃ t, exec (.bra 0) wS = .next t) ∧
    decode .ctl 0x14000000 none = .ok (.yield 0) 1 ∧ (∃ t, exec (.yield 0) wS = .next t) ∧
    (∀ q ∈ wS.pkgs, q.num = wAgent.pkg → ∀ e ∈ q.l1, e.core = cacheCore wAgent → e.dirty = 0) :=
  ⟨rfl, rfl, rfl, ⟨_, rfl⟩, ⟨_, rfl⟩, by decide, ⟨_, rfl⟩, by decide⟩
theorem witness_BranchResults :
    Issues wS wAgent wSide wCursor ∧ wSide.pt.pos + wCursor.len = wSide.pt.count + 1 ∧ activeMask wAgent wSide 0 ≠ 0 ∧
    activeMask wAgent wSide 1 = 0 ∧ (wAgent.sreg 62).toNat % 4 = 0 ∧ ((wAgent.setS 62 3).sreg 62).toNat % 4 ≠ 0 ∧
    wSide.pt.pos + wCursor.len ≠ { wSide.pt with count := 2 }.count + 1 := ⟨rfl, by decide⟩

/-- BDIV: no lane taken, all taken, and lane 0 taken in a handler, with the other slot empty, with it full, and with room
for no further entry. -/
theorem witness_DivergeResults :
    let a := wSides wSide none []
    let b := wSides { wSide with inHandler := true } none []
    let f := wSides wSide (some wSide2) []
    let n := { wSides wSide (some wSide2) [wEntry 0x20000 none] with divmax := 1 }
    Issues wS wAgent wSide wCursor ∧ Issues (wState a wPkg) a wSide wCursor ∧
    Issues (wState b wPkg) b { wSide with inHandler := true } wCursor ∧ Issues (wState f wPkg) f wSide wCursor ∧
    Issues (wState n wPkg) n wSide wCursor ∧ wSide.mask &&& wAgent.pred 1 = 0 ∧ wSide.mask &&& wAgent.pred 0 = wSide.mask ∧
    wSide.mask &&& a.pred 1 = 1 ∧ a.sec = none ∧ f.sec = some wSide2 ∧
    (f.stack.filter (fun e => e.park.isNone)).length < 64 ∧ 1 ≤ (n.stack.filter (fun e => e.park.isNone)).length :=
  ⟨rfl, rfl, rfl, rfl, rfl, by decide⟩

/-- REJOIN, EXIT and YIELD: the other slot full, an entry that is not parked, entries parked at this word and elsewhere. -/
theorem witness_SideResults :
    let f := wSides wSide (some wSide2) [wEntry 0x20000 (some .rejoin)]
    let n := wSides wSide none [wEntry 0x20000 none]
    let here := wSides wSide none [wEntry 0x10000 (some .rejoin)]
    let away := wSides wSide none [wEntry 0x20000 (some .rejoin)]
    let two := { wState f wPkg with agents := [f, { wAgent with id := 9005 }] }
    Issues (wState f wPkg) f wSide wCursor ∧ Issues (wState n wPkg) n wSide wCursor ∧
    Issues (wState here wPkg) here wSide wCursor ∧ Issues (wState away wPkg) away wSide wCursor ∧
    (∀ x ∈ [f, n, here, away], x.cc = none ∧ x.trapvec ≠ 0 ∧ ∀ y, x.prim = some y ∨ x.sec = some y → ∀ h, y.hold = some h →
      ∀ k ∈ h.noted, k.1 ≠ x.id) ∧
    wSide.pt.pos + wCursor.len = wSide.pt.count + 1 ∧ (∀ e ∈ f.stack, e.park ≠ none) ∧
    (∀ e ∈ here.stack, e.pt.hdr = wSide.pt.hdr ∧ e.pt.pos = wSide.pt.pos ∧ e.park = some .rejoin) ∧
    ¬(∀ e ∈ away.stack, e.pt.hdr = wSide.pt.hdr ∧ e.pt.pos = wSide.pt.pos ∧ e.park = some .rejoin) ∧
    activeMask f wSide 1 ≠ 0 ∧ activeMask f wSide 1 ≠ wSide.mask ∧ activeMask f wSide 0 = wSide.mask ∧
    Issues two f wSide wCursor ∧ two.eligibleMates f false ≠ [] := by
  refine ⟨rfl, rfl, rfl, rfl, ?_, by decide, by decide, by decide, by decide, by decide, by decide, by decide, rfl, ?_⟩
  · intro x hx
    simp only [List.mem_cons, List.not_mem_nil, or_false] at hx
    rcases hx with rfl | rfl | rfl | rfl <;> refine ⟨rfl, by decide, ?_⟩ <;> rintro y (h | h) k hk <;> cases h <;> cases hk
  · decide +kernel

/-- A group whose pair s0:s1 is the first address of its own scratchpad, and whose s2 is 0xFFFF and s3 0x10000. -/
def wPadA : Agent := ((wAgent.setS 1 0x80000000).setS 2 0xFFFF).setS 3 0x10000
/-- That group where its scratchpad begins with the 64-bit word `w`. -/
def wBar (w : Nat) (x : Agent) : State :=
  { wState x wPkg with crews := [{ wCrew with pad := Memory.writeN [] 0 (toLE 8 w) }] }

/-- What BAR and BINIT may find at a barrier word at the first address of the scratchpad: EXPECT at its greatest and one
arrival less, two less, and as many; a reserved bit; no arrival and one arrival with an operand at 16 bits and beyond; a side
that parks, one that is the group's last beside a side parked at this word; and a word that does not end its clause. -/
theorem witness_BarrierResults :
    let parked := { wPadA with stack := [wEntry 0x10000 (some (.bar 0 (.ext 0 none)))] }
    let both := { wPadA with sec := some wSide2 }
    let hand := { wPadA with prim := some { wSide with inHandler := true } }
    let word (w : Nat) : Nat := leNat ((wBar w wPadA).homeReadT (.pad 9001 0 false) 8)
    (∀ w, Issues (wBar w wPadA) wPadA wSide wCursor) ∧ Issues (wBar 2 parked) parked wSide wCursor ∧
    Issues (wBar 2 both) both wSide wCursor ∧ Issues (wBar 2 hand) hand { wSide with inHandler := true } wCursor ∧
    wPadA.cc = none ∧ activeMask wPadA wSide 0 ≠ 0 ∧ wSide.pt.pos + wCursor.len = wSide.pt.count + 1 ∧
    wSide.pt.pos + wCursor.len ≠ { wSide.pt with count := 2 }.count + 1 ∧
    (wBar 2 wPadA).barCheck ((wBar 2 wPadA).who wPadA) (scalarAddr wPadA 0 (.ext 0 none)) = .ok (.pad 9001 0 false) ∧
    (wBar 2 wPadA).targetPoisoned (.pad 9001 0 false) 8 = false ∧ MemoryWf (wBar 2 parked) ∧
    (word 0xFFFDFFFF / 2 ^ 48 = 0 ∧ word 0xFFFDFFFF / 2 ^ 16 % 2 ^ 16 + 1 < word 0xFFFDFFFF % 2 ^ 16) ∧
    (word 0xFFFEFFFF / 2 ^ 48 = 0 ∧ word 0xFFFEFFFF / 2 ^ 16 % 2 ^ 16 + 1 = word 0xFFFEFFFF % 2 ^ 16) ∧
    word 0xFFFFFFFF % 2 ^ 16 < word 0xFFFFFFFF / 2 ^ 16 % 2 ^ 16 + 1 ∧ word 0x1000000000002 / 2 ^ 48 ≠ 0 ∧
    (word 2 / 2 ^ 16 % 2 ^ 16 = 0 ∧ word 0x10002 / 2 ^ 16 % 2 ^ 16 ≠ 0) ∧
    ((wPadA.sreg 2).toNat < 2 ^ 16 ∧ 2 ^ 16 ≤ (wPadA.sreg 3).toNat) ∧
    (∀ f ∈ parked.stack, f.pt.hdr = wSide.pt.hdr ∧ f.pt.pos = wSide.pt.pos ∧ f.park = some (.bar 0 (.ext 0 none))) ∧
    (∀ a ∈ (wBar 2 both).agents, ∀ y, a.prim = some y ∨ a.sec = some y → ∀ h, y.hold = some h → ∀ n ∈ h.noted, n.1 ≠ both.id) := by
  refine ⟨fun _ => rfl, rfl, rfl, rfl, rfl, by decide, by decide, by decide, by decide, by decide, by decide, by decide,
    by decide, by decide, by decide, by decide, by decide, by decide, ?_⟩
  intro a ha y hy h hh
  rw [show (wBar 2 { wPadA with sec := some wSide2 }).agents = [{ wPadA with sec := some wSide2 }] from rfl,
    List.mem_singleton] at ha
  subst ha
  rcases hy with hy | hy <;> cases hy <;> cases hh

/-- SETFMT with the greatest value that it takes, with a reserved bit, with GSZ 3 and with QF 6. -/
theorem witness_FmtAndTrapResults :
    Issues wS wAgent wSide wCursor ∧ activeMask wAgent wSide 0 ≠ 0 ∧ activeMask wAgent wSide 1 = 0 ∧
    (let v := (0xF0D9F : W).toNat
     v / 2 ^ 20 = 0 ∧ v / 2 ^ 12 % 2 ^ 4 = 0 ∧ v / 2 ^ 9 % 4 ≠ 3 ∧ v / 2 ^ 5 % 16 ∈ [0, 1, 2, 3, 4, 5, 0xB, 0xC]) ∧
    (0x100000 : W).toNat / 2 ^ 20 ≠ 0 ∧ (0x1000 : W).toNat / 2 ^ 12 % 2 ^ 4 ≠ 0 ∧ (0x600 : W).toNat / 2 ^ 9 % 4 = 3 ∧
    (0xC0 : W).toNat / 2 ^ 5 % 16 ∉ [0, 1, 2, 3, 4, 5, 0xB, 0xC] := ⟨rfl, by decide⟩

/-- SREAD and SWRITE in a group, with and without an active lane: the last SEL of each range that a clause names, and the
last of each range of fields and lanes. -/
theorem witness_SpecialRegisters :
    Issues wS wAgent wSide wCursor ∧ wAgent.cc = none ∧ (127 : VReg).toNat < wAgent.nregs ∧ activeMask wAgent wSide 0 ≠ 0 ∧
    activeMask wAgent wSide 1 = 0 ∧ (5 : Nat) < 6 ∧ (3 : Nat) < 4 ∧ 0x80 ≤ (0x80 : BitVec 8).toNat ∧
    0x80 ≤ (0xFF : BitVec 8).toNat ∧ (0x27 : BitVec 8).toNat ∈ [0x15, 0x16, 0x17, 0x1D, 0x1E, 0x1F, 0x23, 0x24, 0x25, 0x26, 0x27] ∧
    (0x2C ≤ (0x2C : BitVec 8).toNat ∧ (0x7F : BitVec 8).toNat < 0x80) ∧
    ((0x7F : BitVec 8).toNat < 0x80 ∧ (0x7F : BitVec 8).toNat ≠ 0x20 ∧ (0x7F : BitVec 8).toNat ≠ 0x2B) ∧
    ((0 : BitVec 8).toNat < 0x80 ∧ (0 : BitVec 8).toNat ≠ 0x20 ∧ (0 : BitVec 8).toNat ≠ 0x2B) ∧ (31 : Nat) < 32 :=
  ⟨rfl, by decide⟩

/-- Where control memory lists nothing, a record waits for nothing. -/
theorem witness_records (s : State) (pkg vf n : Nat) (hm : s.ctl = []) (hp : s.promoting = []) :
    s.recordsWait pkg vf n none = none := by
  have walk (va root : Nat) : (∃ c l, s.walkFrom .ctl va ctlLevels root = .bad c l) ∨
      ∃ l a, s.walkFrom .ctl va ctlLevels root = .invalid l a := by
    have e (a : Nat) : leafSt (BitVec.ofNat 64 (leNat (Memory.readN [] a 8))) = 0 := rfl
    rw [ctlLevels, State.walkFrom]
    simp only [hm, hp, e, if_true, List.contains_nil, Bool.false_eq_true, if_false]
    split
    · exact .inl ⟨_, _, rfl⟩
    · split
      · exact .inl ⟨_, _, rfl⟩
      · exact .inr ⟨_, _, rfl⟩
  have none_ (k : Nat) : s.recordPa pkg vf k = none := by
    rw [State.recordPa]
    rcases walk (((s.vf pkg vf).rpBase.toNat + 64 * k) % 2 ^ 48) (s.vf pkg vf).croot.toNat with ⟨_, _, h⟩ | ⟨_, _, h⟩ <;>
      simp only [h]
  rw [State.recordsWait]
  split
  · rfl
  · split
    · rfl
    · rename_i k _
      rw [List.findSome?_eq_none_iff]
      intro i _
      rcases walk (((s.vf pkg vf).rpBase.toNat + 64 * (k + i)) % 2 ^ 48) (s.vf pkg vf).croot.toNat with ⟨_, _, h⟩ | ⟨_, _, h⟩ <;>
        simp only [h, none_, Option.bind_none]

/-- A trap outside a handler with and without a vector, in a handler, with a record to take; ERET in a handler. -/
theorem witness_TrapsAndReturns :
    let hand : Side := { wSide with inHandler := true }
    let h := { wAgent with prim := some hand, tcause := 2, frecs := [1], tdata := 1 }
    let novec := { wAgent with trapvec := 0 }
    wS.agent? 9000 = some wAgent ∧ wAgent.side false = some wSide ∧ (wState novec wPkg).agent? 9000 = some novec ∧
    Issues (wState h wPkg) h hand wCursor ∧ h.side false = some hand ∧ wAgent.cc = none ∧ wSide.inHandler = false ∧
    wAgent.trapvec ≠ 0 ∧ novec.trapvec = 0 ∧ MemoryWf wS ∧ wAgent.vf < 128 ∧ (31 : Nat) < 32 ∧
    hand.inHandler = true ∧ h.tcause ≠ 0x01 ∧ { h with tcause := 0x01 }.tcause = 0x01 ∧ activeMask h hand 0 ≠ 0 ∧
    activeMask h hand 1 = 0 ∧ h.tdata.toNat % 65536 ∈ h.frecs ∧ (∀ y, wAgent.side true = some y → y.began = none) ∧
    wS.recordsWait 0 0 1 none = none := by
  have h := witness_records wS 0 0 1 rfl rfl
  exact ⟨rfl, rfl, rfl, rfl, rfl, rfl, by
    refine ⟨?_, ?_, ?_, ?_, ?_, ?_, ?_, ?_, ?_, ?_, ?_, ?_, ?_, h⟩ <;> decide⟩

/-- A control core in supervisor state and in user state; the first and the last SEL that is no register, and that is one. -/
theorem witness_ControlCoreRegisters :
    let one : Side := { wSide with mask := 1 }
    (∀ sup, Issues (wCcS sup) (wCcA sup) one wCursor ∧ (wCcA sup).cc = some (wCc sup) ∧ (wCc sup).supervisor = sup) ∧
    activeMask (wCcA true) one 0 ≠ 0 ∧ activeMask (wCcA false) one 0 ≠ 0 ∧ 0x80 ≤ (0x80 : BitVec 8).toNat ∧
    (0x80 ≤ (0x85 : BitVec 8).toNat ∧ (0x85 : BitVec 8).toNat ∉ [0x80, 0x81, 0x82, 0x83, 0x84, 0x90, 0x91, 0x92, 0x93, 0x94]) ∧
    (0x80 ≤ (0xFF : BitVec 8).toNat ∧ (0xFF : BitVec 8).toNat ∉ [0x80, 0x81, 0x82, 0x83, 0x84, 0x90, 0x91, 0x92, 0x93, 0x94]) :=
  ⟨fun sup => by cases sup <;> exact ⟨rfl, rfl, rfl⟩, by decide⟩
theorem witness_ControlCoreResults :
    let one : Side := { wSide with mask := 1 }
    (∀ sup, Issues (wCcS sup) (wCcA sup) one wCursor ∧ (wCcS sup).agent? 9000 = some (wCcA sup) ∧
      (wCcA sup).side false = some one ∧ (wCcA sup).cc = some (wCc sup) ∧ (wCc sup).supervisor = sup) ∧
    Issues wS wAgent wSide wCursor ∧ wAgent.cc = none ∧ activeMask (wCcA true) one 0 ≠ 0 ∧ activeMask (wCcA false) one 0 ≠ 0 ∧
    activeMask (wCcA true) one 1 = 0 ∧ (wCcA true).isCc = true ∧
    (wCcA true).code + (wCc true).epc.setWidth 64 = one.ret.addr :=
  ⟨fun sup => by cases sup <;> exact ⟨rfl, rfl, rfl, rfl, rfl⟩, rfl, by decide⟩

/-! #### Memory words: an own scratchpad, and a SOFT page of 32 GiB that the first leaf of the table maps -/

def wP : State := wState wPadA wPkg
/-- The accesses of a vector word of which every active lane names the first address of the scratchpad. -/
def wTs : List (Nat × DW × Target) := (List.range 32).map (fun l => (l, 0x8000000000000000, .pad 9001 0 false))
/-- A state whose control space is one page of 32 GiB, SOFT, writable and executable, mapped to physical address 0. -/
def wSoft (a : Agent) : State := { wState a wPkg with ctl := [(0, 0xDD)] }

theorem witness_lands (k : Kind) (h : k = Kind.load ∨ k = Kind.store ∨ k = Kind.atomic) :
    Lands wP wPadA k 4 (lanesOf (activeMask wPadA wSide 0)) (laneAddr wPadA 0 (.ext 0 none)) wTs := by
  rcases h with rfl | rfl | rfl <;> exact ⟨by decide, by decide +kernel⟩

/-- LD.B32: every lane at the first address of the scratchpad; a scalar load from a SOFT page; with full and with empty
beads. -/
theorem witness_LoadResults :
    let full := { wP with crews := [{ wCrew with full := [0] }] }
    Issues wP wPadA wSide wCursor ∧ Fits wPadA (dataRegs 127 4 ++ VOff.regs (.ext 0 none)) ∧ (127 : VReg).toNat % ((4 + 3) / 4) = 0 ∧
    activeMask wPadA wSide 0 ≠ 0 ∧ activeMask wPadA wSide 1 = 0 ∧
    Lands wP wPadA Kind.load 4 (lanesOf (activeMask wPadA wSide 0)) (laneAddr wPadA 0 (.ext 0 none)) wTs ∧
    (wTs.filter (fun y => wP.readPoisoned (wP.who wPadA) y.2.2 4)).isEmpty = true ∧ Clean wP wPadA 4 wTs ∧
    (∀ y ∈ wTs, (plainBytes wP y.2.2 4).isSome) ∧ 0 ∈ beadsOf 0 4 ∧ 0 ∉ wCrew.full ∧
    full.crew? 9001 = some { wCrew with full := [0] } ∧
    (let a := wAgent
     Lands (wSoft a) a Kind.load 8 [0] (fun _ => scalarAddr a 0 (.ext 0x1000 none)) [(0, 0x1000, .ctl 0x1000 1)]) :=
  ⟨rfl, by decide, by decide, by decide, by decide, witness_lands _ (.inl rfl), by decide +kernel, by unfold Clean OffStacks; decide +kernel,
   by decide +kernel, by decide, by decide, rfl, rfl, by decide +kernel⟩

/-- ST.B32: to the scratchpad by every lane, to a SOFT line that no copy holds and to one that a copy holds, and `.lk`. -/
theorem witness_StoreResults :
    let a := { wAgent with lksel := 7 }
    let e : L1Line := { core := 0, space := .ctl, line := 32, bytes := List.replicate 128 0, dirty := 0, vf := 0, poison := false }
    let copy := { wSoft a with pkgs := [{ wPkg with l1 := [e] }] }
    Issues wP wPadA wSide wCursor ∧ Issues (wSoft a) a wSide wCursor ∧ Issues copy a wSide wCursor ∧
    Fits wPadA (dataRegs 127 4 ++ VOff.regs (.ext 0 none)) ∧ MemoryWf wP ∧ MemoryWf (wSoft a) ∧ a.isCc = false ∧
    a.lksel.toNat < (wSoft a).lkNrec a.pkg a.vf ∧ activeMask wPadA wSide 0 ≠ 0 ∧ activeMask wPadA wSide 1 = 0 ∧
    Lands wP wPadA Kind.store 4 (lanesOf (activeMask wPadA wSide 0)) (laneAddr wPadA 0 (.ext 0 none)) wTs ∧
    (∀ y ∈ wTs, y.2.2.place.1 ≠ 2 ∧ y.2.2.place.1 ≠ 1 ∧ ∀ pa, y.2.2 ≠ .ctl pa 1) ∧
    Lands (wSoft a) a Kind.store 8 [0] (fun _ => scalarAddr a 0 (.ext 0x1000 none)) [(0, 0x1000, .ctl 0x1000 1)] ∧
    ownCopy (wSoft a) a 32 = none ∧ ownCopy copy a 32 = some e ∧ (wSoft a).pkg? 0 = some wPkg ∧
    (wSoft a).isPoisoned .ctl (128 * 32) 128 = false ∧ (wSoft a).l1Count 0 0 < wPkg.l1Lines 0 0 ∧
    [(Target.pad 9001 0 false, 1), (.pad 9001 4 false, 2)].Pairwise (fun y z => overlaps z.1 4 y.1 0 4 = false) := by
  refine ⟨rfl, rfl, rfl, by decide, by decide, by decide, rfl, by decide, by decide, by decide, witness_lands _ (.inr (.inl
    rfl)),
    ?_, ⟨by decide, by decide +kernel⟩, by decide +kernel, by decide +kernel, rfl, by decide +kernel, by decide +kernel, by decide⟩
  intro y hy
  obtain ⟨l, -, rfl⟩ := List.mem_map.mp hy
  exact ⟨(by decide : 3 + 9001 ≠ 2), (by decide : 3 + 9001 ≠ 1), fun _ h => by cases h⟩

/-- Atomics by every lane of a group at one address, and by a control core at its SOFT page. -/
theorem witness_AtomicResults :
    let k := { wCcS true with ctl := [(0, 0xDD)] }
    Issues wP wPadA wSide wCursor ∧ MemoryWf wP ∧ (124 : VReg).toNat + 4 ≤ 128 ∧
    Fits wPadA ((List.range 4).map (124 + ·) ++ VOff.regs (.ext 0 none)) ∧ activeMask wPadA wSide 0 ≠ 0 ∧
    activeMask wPadA wSide 1 = 0 ∧
    Lands wP wPadA Kind.atomic 4 (lanesOf (activeMask wPadA wSide 0)) (laneAddr wPadA 0 (.ext 0 none)) wTs ∧
    Clean wP wPadA 4 wTs ∧ (∀ y ∈ wTs, y.2.2.place.1 ≠ 2) ∧
    Issues k (wCcA true) { wSide with mask := 1 } wCursor ∧ MemoryWf k ∧ (wCcA true).isCc = true ∧ (60 : VReg).toNat + 4 ≤ 64 ∧
    VOff.toScalar (.ext 0x1000 none) = some (.ext 0x1000 none) ∧
    Lands k (wCcA true) Kind.atomic 8 [0] (fun _ => scalarAddr (wCcA true) 0 (.ext 0x1000 none)) [(0, 0x1000, .ctl 0x1000 1)] ∧
    Clean k (wCcA true) 8 [(0, 0x1000, .ctl 0x1000 1)] ∧ ownCopy k (wCcA true) 32 = none := by
  refine ⟨rfl, by decide, by decide, by decide, by decide, by decide, witness_lands _ (.inr (.inr rfl)), ?_, by decide, rfl,
    by decide, rfl, by decide, rfl, ⟨by decide, by decide +kernel⟩, ?_, by decide +kernel⟩ <;> unfold Clean OffStacks <;> decide +kernel

/-- Addresses of every class at the ends of their ranges; a cache word and an atomic that trap; a load whose lane 0 fails,
and one whose page is not mapped. -/
theorem witness_AccessChecks :
    let at_ (w : W) : Agent := wAgent.setS 1 w
    let cc := (wCcA true).setS 1 0xC0000000
    let s := wState cc wPkg
    let w0 := wP.who wPadA
    ((0x1 : DW).toNat % 4 ≠ 0 ∧ (0x0001000000000000 : DW).toNat / 2 ^ 48 ≠ 0 ∧ (0x3FFFFFFFFFFFFFFC : DW).toNat / 2 ^ 62 = 0 ∧
      (0x4100000000000000 : DW).toNat / 2 ^ 62 = 1 ∧ (0x4100000000000000 : DW).toNat / 2 ^ 56 % 2 ^ 6 ≠ 0 ∧
      (0xC000000003FFFFFC : DW).toNat % 2 ^ 62 / 2 ^ 26 = 0 ∧ (0xC000000004000000 : DW).toNat % 2 ^ 62 / 2 ^ 26 ≠ 0 ∧
      (0x800000000006FFFC : DW).toNat / 2 ^ 61 = 4 ∧ (0x800000000006FFFC : DW).toNat % 2 ^ 19 + 4 ≤ wCrew.size ∧
      ¬((0x8000000000070000 : DW).toNat % 2 ^ 19 + 4 ≤ wCrew.size) ∧ (0xA00000000006FFFC : DW).toNat / 2 ^ 61 = 5) ∧
    (s.who cc).supervisor = true ∧ w0.supervisor = false ∧ w0.cc = false ∧ (s.who cc).cc = true ∧
    wP.crew? w0.crew = some wCrew ∧
    wP.crews.find? (fun e => e.gang == w0.gang && e.idx == 0 && e.pkg == w0.pkg) = some wCrew ∧
    wP.crews.find? (fun e => e.gang == w0.gang && e.idx == 7 && e.pkg == w0.pkg) = none ∧
    Issues wP wPadA wSide wCursor ∧ activeMask wPadA wSide 0 ≠ 0 ∧ (scalarAddr wPadA 0 (.ext 0 none)).toNat / 2 ^ 62 = 2 ∧
    (scalarAddr (at_ 0xC0000000) 0 (.ext 0 none)).toNat / 2 ^ 62 = 3 ∧ (at_ 0xC0000000).isCc = false ∧
    (Issues s cc { wSide with mask := 1 } wCursor ∧ cc.cc = some (wCc true) ∧ activeMask cc { wSide with mask := 1 } 0 ≠ 0 ∧
      VOff.toScalar (.ext 0 none) = some (.ext 0 none) ∧ (60 : VReg).toNat + 4 ≤ 64 ∧
      (scalarAddr cc 0 (.ext 0 none)).toNat % 8 = 0 ∧ (scalarAddr cc 0 (.ext 0 none)).toNat / 2 ^ 62 = 3 ∧
      (scalarAddr cc 0 (.ext 0 none)).toNat % 2 ^ 62 / 2 ^ 26 = 0) ∧
    (Fits wPadA (127 :: VOff.regs (.ext 2 none)) ∧ wSide.stall = none ∧
      wP.checkAddr w0 Kind.load (laneAddr wPadA 0 (.ext 2 none) 0) 4 = .bad Cause.misaligned 0 ∧ Cause.misaligned ≠ Cause.privileged) ∧
    (wS.pkg? wAgent.pkg = some wPkg ∧
      (∀ j, j < 32 → wS.checkAddr (wS.who wAgent) Kind.load (laneAddr wAgent 0 (.ext 0 none) j) 4 = .service 1) ∧
      wPkg.faultFor (wS.who wAgent).asid (laneAddr wAgent 0 (.ext 0 none) 0) false = none ∧
      (wPkg.faults.filter (fun f => !f.failed)).length < 4096) ∧
    (let e := { wPadA with errtrap := true }
     let u := { wState e wPkg with crews := [{ wCrew with poison := [0] }] }
     Issues u e wSide wCursor ∧ u.checkAddr (u.who e) Kind.load (laneAddr e 0 (.ext 0 none) 0) 4 = .ok (.pad 9001 0 false) ∧
      u.readPoisoned (u.who e) (.pad 9001 0 false) 4 = true) :=
  ⟨by decide, rfl, rfl, rfl, rfl, rfl, by decide, by decide, rfl, by decide, by decide, by decide, rfl,
    ⟨rfl, rfl, by decide, rfl, by decide, by decide, by decide, by decide⟩, ⟨by decide, rfl, by decide, by decide⟩,
    ⟨rfl, by decide +kernel, by decide, by decide⟩, rfl, by decide, by decide⟩

theorem witness_OwnReadAfterWrite :
    let t : Target := .pad 9001 458736 false
    let bs : List Byte := List.replicate 16 1
    wP.pkg? (wP.who wPadA).pkg = some wPkg ∧ MemoryWf wP ∧ (∀ x ∈ wPkg.l1, x.bytes.length = 128) ∧ t.place.1 ≠ 2 ∧
    bs.length ∈ [1, 2, 4, 8, 16] ∧ t.place.2 % bs.length = 0 ∧ wP.targetPoisoned t bs.length = false ∧
    wP.readPoisoned (wP.who wPadA) t bs.length = false ∧ (wP.crew? 9001).isSome ∧ OffStacks wP t bs.length ∧
    OffStacks (wSoft wAgent) (.ctl 0x1000 1) 16 := ⟨rfl, by unfold OffStacks; decide +kernel⟩
theorem witness_MemoryLaws : Memory.wf [(3, 1), (5, 2)] = true ∧ Memory.wf [(3, 1)] = true := by decide

/-- FENCE and CLASP with and without an open command, a cache word at a SOFT line with and without a dirty copy, and FEMARK of
the whole scratchpad. -/
theorem witness_OrderResults :
    let x := wPadA.setS 4 458752
    let u := wState x wPkg
    let sf := wSoft wAgent
    let cmd : MmaReq → State := fun m => { wS with mmas := [m] }
    Issues wS wAgent wSide wCursor ∧ activeMask wAgent wSide 0 ≠ 0 ∧ activeMask wAgent wSide 1 = 0 ∧
    ((wS.claspSet wAgent true).filter (wS.claspOpen wAgent) = []) ∧ wS.claspPast wAgent true = [] ∧
    (∀ m : MmaReq, m.agent = 9000 → ((cmd m).claspSet wAgent false).filter ((cmd m).claspOpen wAgent) ≠ []) ∧
    Issues (wCcS true) (wCcA true) { wSide with mask := 1 } wCursor ∧ (wCcA true).isCc = true ∧
    Issues sf wAgent wSide wCursor ∧ MemoryWf sf ∧ (scalarAddr wAgent 0 (.ext 0x1000 none)).toNat / 2 ^ 62 < 2 ∧
    sf.snapOf .ctl 0x1000 = none ∧ (Target.ctl 0x1000 1).place.1 < 2 ∧
    sf.checkAddr (sf.who wAgent) (flushKind 1) (scalarAddr wAgent 0 (.ext 0x1000 none)) 1 = .ok (.ctl 0x1000 1) ∧
    sf.checkAddr (sf.who wAgent) (flushKind 0) (scalarAddr wAgent 0 (.ext 0x1000 none)) 1 = .ok (.ctl 0x1000 1) ∧
    Issues u x wSide wCursor ∧ MemoryWf u ∧ x.isCc = false ∧ (x.sreg 4).toNat = 458752 ∧ 458752 % 16 = 0 ∧
    (scalarAddr x 0 (.ext 0 none)).toNat % 16 = 0 ∧ (scalarAddr x 0 (.ext 0 none)).toNat / 2 ^ 62 = 2 ∧
    u.padTarget (u.who x) (scalarAddr x 0 (.ext 0 none)) 458752 = some (.pad 9001 0 false) := by
  refine ⟨rfl, by decide, by decide, by decide, by decide, ?_, rfl, rfl, rfl, by decide, by decide, by decide, by decide, by decide +kernel,
    by decide +kernel, rfl, by decide, rfl, by decide, by decide, by decide, by decide, by decide +kernel⟩
  intro m hm
  simp [State.claspSet, State.claspOpen, State.isOpen, wS, wState, wAgent, Agent.blank, State.reset, hm]

/-- COHSET of a SOFT page to HARD and to SOFT, behind a transition too; TLBINV of one page and of the whole space. -/
theorem witness_TranslationResults :
    let a := (wCcA true).setS 1 0
    let x := { a with s := a.s.set 2 0x80 }
    let s := { wState x wPkg with ctl := [(0, 0xDD)] }
    let e : DW := 0xDD
    Issues s x { wSide with mask := 1 } wCursor ∧ x.cc = some (wCc true) ∧ s.pkg? x.pkg = some wPkg ∧
    (wCc true).supervisor = true ∧ activeMask x { wSide with mask := 1 } 0 ≠ 0 ∧
    cohOk wPkg (wCc true).asid.toNat 1 = true ∧ cohOk wPkg (wCc true).asid.toNat 2 = true ∧
    (scalarAddr x 0 (.ext 0x1000 none)).toNat / 2 ^ 48 = 0 ∧
    s.walkFrom .ctl (scalarAddr x 0 (.ext 0x1000 none)).toNat ctlLevels (wCc true).croot.toNat = .leaf e .g32 0 ∧
    leafSt e = 1 ∧ s.ctlPaOk (leafPa e) = true ∧ (∀ z ∈ s.cohTrs, z.id ≠ s.nextId) ∧ s.transitionOf (leafPa e) = none ∧
    leafCoh e = 1 ∧ (x.sreg 2).toNat % 256 ≤ 0x80 ∧
    (∀ k ∈ s.cmds, k.vf = (x.sreg 2).toNat % 256 → k.phase ≠ .running) := ⟨rfl, rfl, rfl, by decide +kernel⟩

/-! #### Locket words, handles, engines, channels, matrix words, steps -/

/-- LKREAD, LKRST and LKBIND at the last record, at the first index beyond, and at the last and the first index that the
operand does and does not hold; operands of LKBIND that it takes and that it refuses. -/
theorem witness_LocketResults :
    let x := (((wAgent.setS 0 7).setS 1 8).setS 2 0xFFFFF).setS 3 0x100000
    let s := wState x wPkg
    Issues s x wSide wCursor ∧ Fits x [127] ∧ activeMask x wSide 0 ≠ 0 ∧
    ((x.sreg 0).toNat < 2 ^ 20 ∧ (x.sreg 0).toNat < (s.vf 0 0).lkSize.toNat) ∧
    ((x.sreg 1).toNat < 2 ^ 20 ∧ (s.vf 0 0).lkSize.toNat ≤ (x.sreg 1).toNat) ∧ (x.sreg 2).toNat < 2 ^ 20 ∧
    2 ^ 20 ≤ (x.sreg 3).toNat ∧ s.isPoisoned .ten ((s.vf 0 0).lkBase.toNat + 64 * 7) 64 = false ∧
    ((0xFF0CFE : W).toNat % 256 ≠ 255 ∧ (0xFF0CFE : W).toNat / 2 ^ 24 = 0 ∧
      (0xFF0CFE : W).toNat / 2 ^ 8 % 16 ∈ [0, 1, 2, 3, 4, 5, 0xB, 0xC]) ∧
    ((0xFF : W).toNat % 256 = 255 ∧ (0x1000000 : W).toNat / 2 ^ 24 ≠ 0 ∧
      (0x600 : W).toNat / 2 ^ 8 % 16 ∉ [0, 1, 2, 3, 4, 5, 0xB, 0xC]) := ⟨rfl, by decide +kernel⟩

/-- Records with every bin at its greatest and with every bin at 0, and COUNT at its greatest. -/
theorem witness_LocketRules :
    let r (h : Nat) : LkRec :=
      { amax := 0, count := 0xFFFFFFFF, scale := 0, pol := 0, flags := 0, margin := 0, gen := 0, hist := List.replicate 24 h }
    (∀ h ∈ [0, 65535], (r h).hist.length = 24 ∧ (∀ y ∈ (r h).hist, y < 65536) ∧ ∀ y ∈ (r h).hist, y ≤ 65535) ∧
    ∀ y ∈ ((r 0).merge .fp32 [0x3F800000]).hist, y < 65535 := by decide +kernel

/-- The words of handles: a handle that is idle, pending and resolved, and a sibling side in HWAIT; a token of zeros, of an
instance that is kept, and of another VF, in the scratchpad; an instance with and without a status. -/
theorem witness_HandleResults :
    let e : Inst := { inst := 8999, agent := 9000, hnum := 2, status := some 0 }
    let x := (wPadA.setHandle 1 (.pending 8998 false)).setHandle 2 (.resolved 8999 0)
    let y := { x with sec := some { wSide2 with stall := some (.hwait 3) } }
    let st (tok : Nat) : State := { wBar tok x with insts := [e, { e with inst := 8998, hnum := 1, status := none }] }
    let s := st 0
    let good := (Handle.resolved 8999 0).token 0 0
    let bad := (Handle.resolved 8999 0).token 1 0
    let tg : Target := .pad 9001 0 false
    (∀ tok, Issues (st tok) x wSide wCursor) ∧ Issues (wState y wPkg) y wSide wCursor ∧ MemoryWf s ∧
    activeMask x wSide 0 ≠ 0 ∧ x.handle 0 = .idle ∧ x.handle 1 = .pending 8998 false ∧ x.handle 2 = .resolved 8999 0 ∧
    y.side true = some { wSide2 with stall := some (.hwait 3) } ∧
    Lands s x Kind.store 8 [0] (fun _ => x.spair 0) [(0, x.spair 0, tg)] ∧
    (∀ tok ∈ [0, good.toNat, bad.toNat], Lands (st tok) x Kind.load 8 [0] (fun _ => x.spair 0) [(0, x.spair 0, tg)] ∧
      Clean (st tok) x 8 [(0, x.spair 0, tg)] ∧ plainBytes (st tok) tg 8 = some (toLE 8 tok)) ∧
    tokenOk good x.vf x.pkg = true ∧ tokenOk bad x.vf x.pkg = false ∧ bad ≠ 0 ∧
    s.agent? x.id = some x ∧ x.vf < 128 ∧ x.pkg < 512 ∧
    (∀ f ∈ s.insts, f ∈ s.insts ∧ f.agent = x.id ∧ ∀ k ∈ s.insts, k.inst % 2 ^ 32 = f.inst % 2 ^ 32 → k = f) ∧
    wSide.began = none ∧ (wSide.told 1 (x.handle 1)).isPending = true ∧ (wSide.told 0 (x.handle 0)).isPending = false ∧
    { wSide2 with began := some (.hwait 3) }.began = some (.hwait 3) := by
  refine ⟨fun _ => rfl, rfl, by decide, by decide, rfl, rfl, rfl, rfl, ⟨by decide, by decide +kernel⟩, ?_, by decide, by decide,
    by decide, rfl, by decide, by decide, by decide, rfl, rfl, rfl, rfl⟩
  unfold Lands Clean OffStacks
  decide +kernel

/-- The block of a COPY of one element of 16 bytes in tensor space; of zeros, it fails its checks. -/
def wBlk (kind : Byte) : List Byte :=
  [kind, 0, 0, 1, 0, 0, 0, 0] ++ [0, 0, 0, 0, 0, 0, 0, 0x40] ++ [0, 1, 0, 0, 0, 0, 0, 0x40] ++ [16, 0, 0xFF, 0, 1, 0, 0, 0] ++
    [1, 0] ++ List.replicate 94 0

/-- A block that passes its checks and one of zeros, at an aligned address of the scratchpad, and a misaligned one; a poisoned
one; one that fails behind an ORD copy; a handle in use; a held release; a full queue; a word that goes on, and one that has been
cancelled; a send whose trigger is met, and one whose is not, in a VF that may start commands and in one that may not, and a queued
command before it. -/
theorem witness_EngineWordResults :
    let tg : Target := .pad 9001 0 false
    let va := wPadA.spair 0
    let s := { wP with crews := [{ wCrew with pad := Memory.writeN [] 0 (wBlk 1) }] }
    let r := s.post wPadA wCursor 0 .copy va
    let cmd := r.2.newCmd wPadA 0 r.1 .copy va (r.2.homeGet tg 128)
    let busy := wPadA.setHandle 0 (.pending 8998 true)
    let odd := wPadA.setS 0 64
    let snd (k : BitVec 8) (v : BitVec 8) : Cmd :=
      { cmd with kind := .tsend, blk := List.replicate 0x1C 0 ++ [k, k] ++ [0, 0] ++ [v] ++ List.replicate 95 0, eng := 64 }
    (Issues s wPadA wSide wCursor ∧ activeMask wPadA wSide 0 ≠ 0 ∧ va.toNat % 128 = 0 ∧ s.postOf wPadA wSide 0 = none ∧
      Issues (wState odd wPkg) odd wSide wCursor ∧ (odd.spair 0).toNat % 128 ≠ 0 ∧ (wState odd wPkg).postOf odd wSide 0 = none ∧
      (wPadA.handle 0).isPending = false ∧ (busy.handle 0).isPending = true ∧ s.postOf busy wSide 0 = none) ∧
    r.2.checkAddr (r.2.who wPadA) Kind.load va 128 = .ok tg ∧ r.2.targetPoisoned tg 128 = false ∧
    (r.2.queued 0 (engineOf wPadA .copy) < queueRoom (engineOf wPadA .copy) ∧
      (∀ p ∈ r.2.pkgs, p.num = 0 → ∀ z ∈ p.l1, z.core = cacheCore wPadA → z.dirty = 0) ∧
      r.2.blkOk (r.2.whoCmd cmd) .copy (r.2.homeGet tg 128) = true ∧ r.2.ordHeld cmd = false) ∧
    (let t := wP.post wPadA wCursor 0 .copy va
     t.2.blkOk (t.2.whoCmd cmd) .copy (t.2.homeGet tg 128) = false) ∧
    (wS.agent? 9000 = some wAgent ∧ (15 : Nat) < 16 ∧ wS.insts.length + 2 ≤ 2 ^ 32 ∧
      (∀ d ∈ s.cmds, d.kind = .coll → d.inst ≠ cmd.inst → d.phase = .dead) ∧ blkNslice cmd.blk = 1 ∧
      (∀ d ∈ s.cmds, d.phase ≠ .joining) ∧ cmd.set = cmd.inst) ∧
    (s.armed 0 none < 1024 ∧ s.armed 0 (some 0) < (s.vf 0 0).armsh.toNat ∧
      blkU (snd 0xFF 0).blk 0x1C 2 = 0xFFFF ∧ blkU (snd 0x00 1).blk 0x1C 2 = 0 ∧
      ¬(blkU (snd 0x00 1).blk 0x20 8 ≤ ((s.vf 0 0).ctr 0).toNat) ∧ s.dstLost (snd 0x00 1) = false ∧
      s.vfStarts 0 0 = true ∧ s.vfRuns 0 0 = true ∧ State.reset.vfStarts 0 0 = false ∧
      s.postsBefore 9000 64 9105 = false) ∧
    { s with crews := [{ wCrew with poison := [0] }] }.targetPoisoned tg 128 = true ∧
    (let ord : List Byte := [1, 4] ++ (wBlk 1).drop 2
     let bad := { cmd with blk := ord.set 0x18 0, inst := 9105, set := 9105 }
     { s with cmds := [{ cmd with blk := ord, inst := 9050, set := 9050 }] }.ordHeld bad = true ∧
     s.blkOk (s.whoCmd bad) .copy bad.blk = false) ∧
    (let e := { snd 0xFF 0 with inst := 9050, phase := .queued }
     e.pkg = (snd 0xFF 0).pkg ∧ e.eng = (snd 0xFF 0).eng ∧ e.agent = (snd 0xFF 0).agent ∧ e.inst < (snd 0xFF 0).inst ∧
     e.phase = .queued) := ⟨⟨rfl, by decide, by decide, by decide, rfl, by decide⟩, by decide +kernel⟩

/-- A launch of two stages, and a channel from stage 0 to stage 1 of one slot of 64 bytes. -/
def wLaunch (chans : List Chan) : Launch :=
  { id := 9002, pkg := 0, queue := 0, rec_ := 0, marker := false, serial := false, vf := 0, prio := 0, age := 0, prev := none, hdr := 0,
    arg := 0, shape := Vector.replicate 4 1, depAddr := 0, depVal := 0, doneAddr := 0, doneVal := 0, errAddr := 0, phase := .running,
    err := false, cause := 0, term := 0, fmt0 := 0, code := 0, trapvec := 0, divmax := 64, widths := [], crewN := 1, gangN := 1,
    stages := [], chans := chans, sendSeq := 0, mark := 0, codePages := [], wroteErr := false, wait := none, records := [] }
def wRing (x : Slot) : Ring := { chan := 0, base := 0, slots := [x] }
/-- The group of stage `st` that sends `n` bytes at `off`, and the crew of stage 1 with its ring's slot as `x`. -/
def wChan (st : Nat) (off n : W) (x : Slot) : State :=
  let a := { (wAgent.setS 0 off).setS 1 n with stage := st }
  { wState a wPkg with
    launches := [wLaunch [{ src := 0, dst := 1, slots := 1, size := 64 }]]
    crews := [{ wCrew with stage := st, rings := [wRing x] }, { wCrew with id := 9011, stage := 1, core := 4, rings := [wRing x] }] }

/-- Counters 0 and 4095. A send of the last 16 bytes of the scratchpad, of one whole slot, and of the first size beyond; a slot
that is free, full and held; an empty ring of an open channel and of one that is closed; a send behind one of the sibling side; a
channel number beyond the last, and lengths and offsets just outside what a send takes. -/
theorem witness_CounterAndChannelResults :
    let a (st : Nat) (off n : W) : Agent := { (wAgent.setS 0 off).setS 1 n with stage := st }
    let ch : Chan := { src := 0, dst := 1, slots := 1, size := 64 }
    (∀ st off n x, Issues (wChan st off n x) (a st off n) wSide wCursor ∧ (wChan st off n x).chan? 9002 0 = some ch) ∧
    activeMask wAgent wSide 0 ≠ 0 ∧ (wS.pkg? 0).isSome ∧ wAgent.vf < 128 ∧
    ((wS.vf 0 0).ctrs.map (fun y => y.1)).Pairwise (· < ·) ∧ (0 : BitVec 12).toNat ≠ (4095 : BitVec 12).toNat ∧
    (∀ p ∈ [(458736, 16), (458688, 64)], let (off, n) := p
      n % 16 = 0 ∧ 16 ≤ n ∧ n ≤ ch.size ∧ off % 16 = 0 ∧ off + n ≤ wCrew.size) ∧ ¬(80 ≤ ch.size) ∧
    ((wChan 0 0 64 (.free 0)).bestConsumer 9002 1 0).map (fun z => (z.1.id, z.2.oldestFree)) = some (9011, some 0) ∧
    (wChan 0 0 64 (.msg 1 16)).bestConsumer 9002 1 0 = none ∧
    (let q (x : Slot) := ((((wChan 1 0 0 x).modCrew 9001 (fun k => k.release 0 9000 0)).crew? 9001).bind
        (fun k => k.ring? 0)).map Ring.oldestMsg
     q (.msg 1 16) = some (some (0, 16)) ∧ q (.free 0) = some none ∧ q (.held 9000) = some none) ∧
    (wChan 1 0 0 (.free 0)).chanClosed 9002 0 = true ∧
    { wChan 1 0 0 (.free 0) with agents := [wAgent] }.chanClosed 9002 0 = false ∧
    ({ wAgent with sec := some { wSide2 with began := some (.chsend 0 8000 []) } }.sendsBefore 0 9100 = true ∧
      wAgent.sendsBefore 0 9100 = false ∧ wSide.began = none) ∧
    ((wChan 0 0 64 (.free 0)).launch? 9002 = some (wLaunch [ch]) ∧ ((wChan 0 0 64 (.free 0)).crew? 9001).isSome ∧
      [ch].length ≤ (1 : BitVec 6).toNat ∧ [ch][(0 : BitVec 6).toNat]? = some ch ∧
      ¬(72 % 16 = 0) ∧ ¬(16 ≤ 0) ∧ (458744 : W).toNat % 16 ≠ 0 ∧ (458752 : W).toNat % 16 = 0 ∧
      wCrew.size < (458752 : W).toNat + 16) := by
  refine ⟨fun _ _ _ _ => ⟨rfl, rfl⟩, by decide +kernel⟩

/-- An MMA of two BF16 tiles in the scratchpad by one lane, one whose descriptors hold a reserved bit, OPRDY, and MKDESC of the
last bead. -/
theorem witness_MatrixWordResults :
    let one : Side := { wSide with mask := 1 }
    let x := { ((wAgent.setS 1 0x04000008).setS 2 1024).setS 3 8 with prim := some one }
    let s := { wState x wPkg with crews := [{ wCrew with ngroups := 8 }] }
    let m := { (wAgent.setS 0 0x0006FFF0).setS 1 0x80000000 with prim := some one }
    let u := wState m wPkg
    Issues s x one wCursor ∧ (∀ n ∈ s.mmas, n.inst < s.nextId) ∧
    (∃ d e kp, s.mmaCheck x one 0 1 0 0 = .inr (d, e, kp)) ∧
    (∃ tr, s.mmaCheck x one 0 1 0 0x80000000 = .inl tr) ∧ (x.handle 0).isPending = false ∧ s.posted 0 0 < 16 ∧
    (∀ p ∈ s.pkgs, p.num = 0 → ∀ z ∈ p.l1, z.core = cacheCore x → z.dirty = 0) ∧ activeMask x one 0 ≠ 0 ∧
    Issues u m one wCursor ∧ (0x7F : Nat) / 256 = 0 ∧ 0x7F / 32 ≤ 3 ∧ (Fmt.ofCode (0x60 % 16)).isSome ∧ m.isCc = false ∧
    (pairVal (m.sreg 0) (m.sreg 1)).toNat / 2 ^ 62 = 2 ∧
    u.padTarget (u.who m) (pairVal (m.sreg 0) (m.sreg 1)) 0 = some (.pad 9001 0x6FFF0 false) ∧ 0x6FFF0 % 16 = 0 ∧
    u.crew? 9001 = some wCrew ∧ 0x6FFF0 < wCrew.size ∧ wCrew.core / 4 = m.core / 4 ∧
    wCrew.ready.getLsbD 0 = false ∧ { wCrew with ready := 1 }.ready.getLsbD 0 = true :=
  ⟨rfl, by decide, ⟨_, _, _, rfl⟩, ⟨_, rfl⟩, by decide, by decide, by decide, by decide, rfl, by decide⟩

/-- A turn of a side inside a clause at a word of zeros, which is IADD, and one at a header of one word of class ALU. -/
theorem witness_StepRunsDecoded :
    let hd : Side := { wSide with pt := ClausePt.at 0x10000 }
    let b := { wAgent with prim := some hd }
    let page : Mem := [(0, 0xDD), (0x10000, 0x01), (0x10003, 0xC0)]
    let s := { wState wAgent wPkg with ctl := page, agenda := [.issue 9000 false] }
    let u := { wState b wPkg with ctl := page, agenda := [.issue 9000 false] }
    s.agent? 9000 = some wAgent ∧ wAgent.side false = some wSide ∧ wSide.pt.pos ≠ 0 ∧
    (∃ s1, { s with agenda := [] }.fetchAt wAgent false wSide wSide.pt.addr = .word 0 s1) ∧
    decode .alu 0 none = .ok (.iaddV 0 0 0 (.v 0)) 1 ∧
    u.agent? 9000 = some b ∧ b.side false = some hd ∧ hd.pt.pos = 0 ∧
    (∃ s1, { u with agenda := [] }.fetchAt b false hd hd.pt.hdr = .word 0xC0000001 s1 ∧ s1.waitsMet b 0xC0000001 = true) ∧
    (∃ h, headerFor b 0xC0000001 = some h) ∧ headerFor b 0 = none ∧ 9000 ∉ s.strayed ∧ 9000 ∉ u.strayed ∧
    9000 ∈ { s with strayed := [9000] }.strayed ∧
    ((0xC000000000000000 : DW).toNat / 2 ^ 62 = 3 ∧ (s.who wAgent).supervisor = false ∧ (0xBFFFFFFFFFFFFFFC : DW).toNat / 2 ^ 62 = 2 ∧
      ((0xFFFFFFFFFFFFFFFC : DW).toNat / 2 ^ 62 = 3 ∧ ((wCcS true).who (wCcA true)).supervisor = true)) ∧
    OffStacks s (.ctl 0x10004 1) 4 ∧ s.codeLate wAgent.launch (s.who wAgent) 0x10004 = false ∧
    s.fetchCheck (s.who wAgent) 0x10004 = .ok (.ctl 0x10004 1) ∧ (Target.ctl 0x10004 1).code = some (.ctl, 0x10004) ∧
    s.isPoisoned .ctl 0x10004 4 = false ∧ s.launch? wAgent.launch = none ∧
    ({ s with agenda := [] }.runs wAgent = true ∧ { u with agenda := [] }.runs b = true ∧
      { s with agenda := [] }.runs { wAgent with saved := true } = false) ∧
    (decode .alu 0x0621037F none = .needExt ∧ wSide.pt.count < wSide.pt.pos + 1 ∧
      wSide.pt.pos + 1 ≤ { wSide.pt with count := 2 }.count ∧
      ({ wAgent with sec := some { wSide2 with began := some (.chrecv 0 0) } }.pairHeld false (.movS 0 1 (.s 5))) = some 0) :=
  ⟨rfl, rfl, by decide, ⟨_, rfl⟩, by decide, rfl, rfl, rfl, ⟨_, rfl, by decide +kernel⟩, ⟨_, rfl⟩, by decide, by decide, by decide, by decide,
    by decide, by unfold OffStacks; decide +kernel, by decide +kernel, by decide +kernel, rfl, by decide +kernel, rfl,
    by decide +kernel, by decide⟩

/-- Well-formed instructions with operands at the ends of their fields, in one word and in two, and their words. -/
theorem witness_DecodeEncode :
    WellFormed (.iaddV 7 127 127 (.v 127)) = true ∧ (encode (.iaddV 7 127 127 (.v 127))).isSome ∧
    WellFormed (.iaddV 7 127 127 (.lit 0xFFFFFFFF)) = true ∧ (encode (.iaddV 7 127 127 (.lit 0xFFFFFFFF))).isSome := by decide

/-- A state whose next step runs a word. -/
theorem witness_StepKeepsMemoryWf :
    let s := { wState wAgent wPkg with ctl := [(0, 0xDD)], agenda := [.issue 9000 false] }
    MemoryWf s ∧ ∃ t, step s = .next t := ⟨by decide, _, rfl⟩

/-! #### Events -/

/-- A command of the group `wAgent` with this block, and the state whose tensor space of 32 GiB is mapped to physical
address 0 of package 0, in which it stands. -/
def wCmd (k : CmdKind) (ph : CmdPhase) (blk : List Byte) : Cmd :=
  { wS.newCmd wAgent 0 9050 k 0 blk with phase := ph }
def wTen (c : Cmd) : State :=
  { wState (wAgent.setHandle 0 (.pending 9050 false)) { wPkg with vfs := wPkg.vfs.set 0 { wVf with troot := 0x1000 } } with
    ctl := [(0x1000, 0x03), (0x1001, 0x20), (0x2000, 0xCD)], cmds := [c], ten := [(0, 7)] }

/-- The block of a GATHER or a SCATTER of one element of 16 bytes, with its index at 0x200 of tensor space. -/
def wIdx (kind : Byte) : List Byte :=
  (wBlk kind).take 0x18 ++ [16, 0, 0xFF, 0, 0, 0, 0, 0] ++ [0, 2, 0, 0, 0, 0, 0, 0x40] ++ [1, 0] ++ List.replicate 86 0
/-- The block of an MGT of one point of FP32, with its weights at 0x200 of tensor space. -/
def wGrid : List Byte :=
  (wBlk 4).take 0x10 ++ [1, 0, 1, 0, 1, 0, 7, 0] ++ List.replicate 8 0 ++ [0, 1, 0, 0, 0, 0, 0, 0x40] ++ [1, 0, 1, 0, 1, 0, 7, 0] ++
    List.replicate 8 0 ++ [0, 2, 0, 0, 0, 0, 0, 0x40] ++ List.replicate 64 0

/-- A COPY that is queued, running, suspended by its VF, and ended; its source and destination; TSEND
with and without its trigger; an increment, a merge, a COLL of one participant, and a record copy. -/
theorem witness_EngineEventResults :
    let run := wCmd .copy .running (wBlk 1)
    let s := wTen run
    let que := wTen { run with phase := .queued }
    let don := wTen { run with phase := .ended }
    let w := s.whoCmd run
    let snd := { wCmd .tsend .armed (List.replicate 128 0) with due := true }
    let col := wCmd .coll .joining (List.replicate 0x1D 0 ++ [2, 1, 0] ++ List.replicate 96 0)
    let inc : PendInc := { inst := 9050, pkg := 0, vf := 0, ctr := 4095, inc := 1, saved := false }
    let mrg : PendMerge := { pkg := 0, vf := 0, idx := 7, fmt := .bf16, vals := [0], inst := 9060, saved := false }
    ((que.setOf 9050).filter (fun c => c.kind == .copy) = [{ run with phase := .queued }] ∧
      que.canStart { run with phase := .queued } = true ∧ isSnap run.blk = false) ∧
    (nestTotal (nestCounts run.kind run.blk) ≠ 0 ∧ isResume run.blk = false) ∧
    (s.cmd? 9050 = some run ∧ run.blk ≠ [] ∧ s.vfRuns 0 0 = true ∧ s.cmdReady run = true ∧ s.engFree run = true ∧
      s.ordHeld run = false ∧ blkLk run.blk = none) ∧
    (MemoryWf s ∧ s.engCheck w Kind.engineRead 0x4000000000000000 16 = .ok (.ten 0) ∧ s.isPoisoned .ten 0 16 = false ∧
      s.engCheck w Kind.engineWrite 0x4000000000000100 16 = .ok (.ten 256) ∧ blkCvt run.blk = none ∧ isExp run.blk = false ∧
      destWidth .copy run.blk = 16) ∧
    s.copySource run w = [(.ten 0, 16)] ∧
    (s.tlbInvs = [] ∧ don.setOf 9050 = [{ run with phase := .ended }] ∧ don.ordHeld { run with phase := .ended } = false ∧
      ∀ m ∈ don.merges, m.inst ≠ 9050) ∧
    (que.cmdReady { run with phase := .queued } = true ∧ run.resumes = false ∧
      ∀ z ∈ (s.writesAt run run.ivec).toList ++ (s.readsAt run run.ivec).toList, z.1.toNat / 2 ^ 62 ≠ 2) ∧
    (wTen snd).mayFire snd = true ∧
    (let u := wTen col
     u.collMembers 9050 = [col] ∧ collNpart col.blk = 1 ∧ 2 ≤ collOp col.blk) ∧
    (wTen snd).cmd? 9050 = some snd ∧ (wTen snd).vfRuns 0 0 = true ∧
    ({ wTen run with pkgs := [{ Pkg.reset with formed := true }] }.vfRuns 0 0 = false) ∧
    ({ wTen snd with incs := [inc] }.incs[0]? = some inc ∧ ((wS.pkg? 0).isSome) ∧
      ((wS.vf 0 0).ctrs.map (fun y => y.1)).Pairwise (· < ·)) ∧
    ({ s with merges := [mrg] }.merges[0]? = some mrg ∧ mrg.vals ≠ []) := by decide +kernel

/-- A GATHER, a SCATTER and an MGT at their first position: what each reads and where it writes. -/
theorem witness_positions :
    let at_ (k : CmdKind) (b : List Byte) : State := wTen (wCmd k .running b)
    let who (k : CmdKind) (b : List Byte) : Who := (at_ k b).whoCmd (wCmd k .running b)
    let g := wCmd .gather .running (wIdx 2)
    let c := wCmd .scatter .running (wIdx 3)
    let m := wCmd .mgt .running wGrid
    ((at_ .gather (wIdx 2)).engCheck (who .gather (wIdx 2)) Kind.engineRead 0x4000000000000200 4 = .ok (.ten 0x200) ∧
      (at_ .gather (wIdx 2)).isPoisoned .ten 0x200 4 = false ∧ (at_ .gather (wIdx 2)).wroteSince g.mark .ten 0x200 4 = false ∧
      (at_ .gather (wIdx 2)).gatherDests g (who .gather (wIdx 2)) = [(.ten 0x100, 16)]) ∧
    (isCombine c.blk = false ∧ (at_ .scatter (wIdx 3)).scatterDests c (who .scatter (wIdx 3)) = [(.ten 0x100, 16)]) ∧
    (gridFmt (blkU m.blk 0x16 1) = some .fp32 ∧ gridFmt (blkU m.blk 0x2E 1) = some .fp32 ∧
      mgtTaps m.blk 0 0 0 = [(13, 0, 0, 0)] ∧ (at_ .mgt wGrid).gridSource m (who .mgt wGrid) = [(.ten 0, 4)] ∧
      (at_ .mgt wGrid).engCheck (who .mgt wGrid) Kind.engineWrite (nestDest .mgt wGrid m.ivec) 4 = .ok (.ten 0x100) ∧
      (at_ .mgt wGrid).engCheck (who .mgt wGrid) Kind.engineRead 0x4000000000000000 4 = .ok (.ten 0) ∧
      (at_ .mgt wGrid).engCheck (who .mgt wGrid) Kind.engineRead 0x4000000000000234 4 = .ok (.ten 0x234)) := by
  and_intros <;> decide +kernel

/-- An iteration that goes through, and one whose destination may not be written. -/
theorem witness_iterations :
    let run := wCmd .copy .running (wBlk 1)
    let ro := { wTen run with ctl := [(0x1000, 0x03), (0x1001, 0x20), (0x2000, 0x8D)] }
    (∃ s1 v note, (wTen run).iterate run = .ok s1 v note ∧ s1.cmds = (wTen run).cmds) ∧
    (∃ s1 cause fa, ro.iterate run = .stop s1 cause fa ∧ s1.cmds = ro.cmds) := ⟨⟨_, _, _, rfl, rfl⟩, ⟨_, _, _, rfl, rfl⟩⟩

/-- A request of the matrix engine that may be granted, one whose pass ends and is not the last or is, and one that has waited;
woken sides, sides at one header, a hold that is over, and a side and a group that have waited long enough. -/
theorem witness_MatrixAndIssueEvents :
    let d : Desc := { base := 0, core := 0, regs := false, t := false, rot := 0, fmt := .bf16, rowp := 8, tilep := 8, klen := 64 }
    let m : MmaReq :=
      { inst := 9050, pkg := 0, cluster := 0, leader := 0, follower := 1, agent := 9000, hnum := 0, crew := 9001, gang := 9003,
        vf := 0, launch := 9002, team := 0, a := d, b := d, acc := 0, kp := 64, g := 32, ovw := true, amx := none, dup := none,
        prio := 0, posted := 0, waitFrom := 0, promoted := none, busy := none, passes := 1, done := 0, saved := false,
        wait := none, acc0 := [], acc0Bad := [], marks := [], mark := 0, accMarks := [(9000, 0)], map := [],
        loose := [], failed := none }
    let at_ (m : MmaReq) : State := { wState (wAgent.setHandle 0 (.pending 9050 false)) wPkg with mmas := [m], aclk := 2048 }
    let e : MmaRes := { inst := 9050, agent := 9000, crew := 9001, team := 0, launch := 9002, slices := [], told := [], acc := 96, regs := List.range 32, res := [], bad := [], marks := [(9000, 0)],
                        know := [], bars := [], msgs := [] }
    let hd : Side := Side.at 1 0x10000 0
    let both := { wAgent with prim := some hd, sec := some { hd with mask := 2 } }
    let woken := { wAgent with prim := some { wSide with stall := some (.woken true) } }
    let held : Hold := { until_ := 2048, noted := [] }
    (m.done = 0 ∧ m.busy = none ∧ (at_ m).mmas = [m]) ∧ (at_ m).mma? 9050 = some m ∧ (at_ m).grantable m = true ∧ m.waitFrom + 2048 ≤ (at_ m).aclk ∧
    ({ m with passes := 2, busy := some 2048 }.done + 1 < 2 ∧ 2048 ≤ (at_ m).aclk) ∧ m.passes ≤ m.done + 1 ∧
    (∀ a ∈ (at_ m).agents, ∀ h, h < 16 → a.handle h ≠ .pending 9050 true) ∧
    (∃ a ∈ (at_ m).agents, a.isCc = false ∧ a.crew = m.crew ∧ a.grp / 8 = m.team) ∧
    (e.acc + 31 < 128 ∧ (∀ x ∈ e.marks, x.1 = 9000 → ∀ j, j < 32 → ∀ k, k < 32 → wAgent.vwrote (e.acc + j) k ≤ x.2) ∧ ∃ x ∈ e.marks, x.1 = 9000) ∧
    (wState woken wPkg).agent? 9000 = some woken ∧ woken.side false = some { wSide with stall := some (.woken true) } ∧
    (both.prim = some hd ∧ both.sec = some { hd with mask := 2 } ∧ hd.pt.pos = 0 ∧ hd.inHandler = false ∧ both.stack = []) ∧
    (at_ m).holdOver held = true ∧ { hd with waited := 64 }.waited = 64 ∧ { wAgent with waited := 512 }.waited = 512 := by decide +kernel

/-- A package whose partition 0 has cluster 0. -/
def wPkgC : Pkg := { wPkg with sets := Pkg.reset.sets.set 0 { en := true, clu := 1, slc := 1, hbm := 1, base := 0, size := 1 } }
/-- An enabled queue of VF 0, of 16 records, whose tail line is at 0x20000. -/
def wQueue (st : QState) : Queue :=
  { num := 0, ring := 0x40000, tline := 0x20000, log2n := 4, prio := 0, vf := 0, stb := 1, st := st, head := 0, pword := 0, pbit := 0,
    pendAt := 0, bitAt := none, last := none, gate := none, emptySince := 0, destroying := false, wait := none }
/-- A state whose control space is one page of 32 GiB mapped to physical address 0, with these queues, TAIL at `tl`. -/
def wQs (qs : List Queue) (tl : Byte) : State :=
  { wState wAgent { wPkgC with queues := qs } with
    ctl := if tl = 0 then [(0, 0xFD)] else [(0, 0xFD), (0x20000, tl)], crews := [], agents := [], aclk := 130000 }

/-- What a read gives where it goes through. -/
def wGot {α : Type} : Got α → Option α
  | .ok x => some x
  | _ => none
/-- The header at 0x30000 of one stage of groups with eight registers, and its bucket at 0x30100. -/
def wHdr : List Byte :=
  [1, 1, 0, 0] ++ List.replicate 28 0 ++ [5, 0, 0, 0, 0, 0, 1, 1] ++ List.replicate 24 0 ++
    [8, 1, 0, 0, 0, 0, 0, 0] ++ [0, 1, 3, 0, 0, 0, 0, 0] ++ List.replicate 176 0 ++
    [0, 0, 0, 0, 0, 0, 0, 0] ++ (List.replicate 8 [1, 0, 0, 0]).flatten
def wLs (l : Launch) : State :=
  { wQs [] 0 with ctl := Memory.writeN [(0, 0xCD)] 0x30000 wHdr, launches := [l],
                    pkgs := [{ wPkgC with dirOwners := [{ page := 0, size := 2 ^ 35, pkg := 0, core := 0 }] }] }

/-- A queue in each state with TAIL at HEAD, one ahead, as far ahead as the ring allows, and one further; a launch that waits for
its header, that waits for its first gangs, and that runs; a launch and a marker that are complete. -/
theorem witness_QueueAndLaunchEvents :
    let st : Stage := { regs := 8, scratch := 0, bucket := 0, entry := 0, we := [32, 1, 1, 1, 1, 1], ext := [2, 1, 1, 1], next := 0,
                        total := 2, mood := .neither, moodAt := 0 }
    let l0 := { wLaunch [] with phase := .waiting, hdr := 0x30000 }
    let l1 := { l0 with stages := [st] }
    let l2 := { l1 with phase := .running }
    let done := { l0 with phase := .ending, doneAddr := 0x50000 }
    let mark := { done with marker := true }
    let id (l : Launch) : Option Nat := ((wLs l).nextLaunch 0).map (fun x => x.id)
    (∀ k, k ∈ [QState.idle, .pending, .resident, .evicting] → ∀ tl ∈ [(0 : Byte), 1, 16],
      let s := wQs [wQueue k] tl
      s.queue? 0 0 = some (wQueue k) ∧ wGot (s.readTail 0 (wQueue k)) = some tl.toNat ∧
      tl.toNat ≤ (wQueue k).head + 2 ^ (wQueue k).log2n) ∧
    (let s := wQs [wQueue .idle] 17
     wGot (s.readTail 0 (wQueue .idle)) = some 17 ∧ 2 ^ (wQueue .idle).log2n < 17) ∧
    (wQs [wQueue .resident] 1).mayFetch 0 (wQueue .resident) = true ∧
    wGot ((wQs [wQueue .resident] 1).rdVf ((wQs [wQueue .resident] 1).whoVf 0 0) none 0x40000 256) =
      some (List.replicate 256 0) ∧
    (wQs [wQueue .resident] 1).queueHeld 0 (wQueue .resident) = none ∧
    (wPkgC.mp.res = false ∧ wPkgC.haOpen 2 0 = false ∧ 0 < (wPkgC.vf 0).cfg.qslots.toNat ∧
      (let p := { wPkgC with queues := [wQueue .resident, { wQueue .pending with num := 1 }] }
       (p.nextPending 0).isSome ∧ p.spareSlots 0 = 0)) ∧
    (wQueue .evicting).emptySince + 130000 ≤ (wQs [] 0).aclk ∧ (wQs [] 0).waitOver 0 none = true ∧
    (id l0 = some 9002 ∧ ((wGot ((wLs l0).readHeader l0)).bind
      (fun m => placeAll (fun _ => true) m m.stages 0 (((wLs l0).vfCores 0 0).map CoreRoom.empty))).isSome) ∧
    (id l1 = some 9002 ∧ ((wLs l1).startsOn l1).isSome) ∧
    (id l2 = some 9002 ∧ ((wLs l2).nextGang l2).isSome) ∧
    ((wLs done).mayFinish done = true ∧ (wLs mark).markerDone mark = true ∧ MemoryWf (wLs done) ∧
      (wLs done).checkAddr ((wLs done).whoVf 0 0) Kind.store 0x50000 8 = .ok (.ctl 0x50000 0)) := by
  and_intros <;> decide +kernel

/-- A bank of one row has no violation where the row has none. -/
theorem witness_bank (p : Pkg) (r : Vector Byte 64) (h : p.badPart r = none) : p.badBank (Vector.replicate 64 r) = none := by
  refine List.findSome?_eq_none_iff.mpr (fun k hk => ?_)
  rw [show tblRow (Vector.replicate 64 r) k = r by simp [tblRow, List.mem_range.mp hk], h]
  rfl

/-- Register values at the ends of their ranges and just beyond; a package with EN and SWAP; a partition that runs, drains,
saves, restores and is idle, at an edge whose entry names VF 0, another VF and none. -/
theorem witness_PartitionEvents :
    let slt := { Slt.reset with en := true }
    let row (v : Byte) : Vector (Vector Byte 64) 64 := Vector.replicate 64 (Vector.replicate 64 v)
    let p (ph : PPhase) (e : Byte) : Pkg :=
      ({ wPkgC with slt := { slt with tbl0 := row e, tbl1 := row 255 } }).modPart 0 (fun q => { q with phase := ph, incoming := some 0 })
    let s (ph : PPhase) (e : Byte) : State := { State.reset with pkgs := [p ph e] }
    (2032 ≤ 2032 ∧ 2032 ≤ 2031250 ∧ 2 * 1016 ≤ 2032 ∧ 2031 < 2032 ∧ 2031250 < 2031251) ∧
    (2 * (65000 : Nat) ≤ Slt.reset.pSlotlen.toNat ∧ Slt.reset.pSlotlen.toNat < 2 * 65001) ∧
    ((600 : W).toNat % 2 ^ 12 = 600 ∧ (599 : W).toNat % 2 ^ 12 < 600 ∧ (2400 : W).toNat % 2 ^ 12 = 2400 ∧ 2400 < (2401 : W).toNat % 2 ^ 12) ∧
    (wPkgC.slt.en = false ∧ wPkgC.recovery = false ∧ (p .run 0).slt.en = true ∧ (p .run 0).slt.swap = false ∧
      { slt with swap := true }.swap = true) ∧
    (p .run 0).badBank ((p .run 0).slt.bank true) = none ∧ (p .run 0).badBank ((p .run 0).slt.bank false) = some (0, 1) ∧
    ((p .run 1).slt.entry ((p .run 1).slt.slotNow 0) 0 = 1 ∧ ((p .run 1).vf 1).owed = 0 ∧ ((p .run 1).part 0).phase = .run ∧
      ((p .run 1).part 0).owner = some 0) ∧
    ((p .run 255).slt.entry 0 0 = 255 ∧ ((p .run 255).setRow 0).en = true ∧ (p .run 255).slt.slotlen ≠ 0 ∧
      (0 - (p .run 255).slt.frameAt) % (p .run 255).slt.slotlen.toNat = 0 ∧ 0 = (p .run 255).slt.enAt) ∧
    (((p .run 0).part 0).slackOf = none ∧ (p .run 0).moves 0 = false ∧ ((p .run 0).part 0).held = false) ∧
    (((p .drain 0).part 0).phase = .drain ∧ (s .drain 0).partQuiet 0 0 = true ∧ ((p .save 0).part 0).phase = .save ∧
      ((p .restore 0).part 0).phase = .restore ∧ ((p .idle 0).part 0).phase = .idle) ∧
    ((p .run 0).idleOwner 0 1300000 = some 0 ∧ (s .run 0).runnable 0 0 = false) ∧
    (Pkg.reset.answers = false ∧ wPkgC.formed = true ∧ ([0, 0, 0, 0] : List Byte).length = 4 ∧ ([0] : List Byte).length ≠ 4 ∧
      (s .save 0).partQuiet 0 0 = true ∧ (s .restore 0).partQuiet 0 0 = true ∧
      ∀ c ∈ (s .drain 0).cmds, c.pkg = 0 → c.phase = .running → c.vf < 128 → (p .drain 0).inPart 0 c.vf = true → c.vf = 1) := by
  refine ⟨by decide, by decide, by decide, by decide +kernel, witness_bank _ _ (by decide +kernel), by decide +kernel, by decide +kernel, by decide +kernel,
    by decide +kernel, by decide +kernel, by decide +kernel, by decide +kernel⟩

/-- A fault request; a return copy that has resolved; a transition, and one queued behind it; two halves of a directory
region; host accesses that go on and that wait. -/
theorem witness_TranslationAndHostEvents :
    let f : FaultReq := { id := 8, pkg := 0, asid := 0, va := 0, sub := 0, level := 1, host := false, failed := false }
    let x : Transit := { idx := 255, leaf := 0xCE, inst := 0, leafAt := 0, asid := 0, va := 0 }
    let tr : CohTr :=
      { id := 5, pkg := 0, agent := 9000, slot := false, len := 1, asid := 0x80, va := 0, leafAt := 0, page := 0, size := 2 ^ 35, old := 1,
        new := 2, owner := 0, ownerOp := 0, host := false, queued := false }
    let y : CohTr := { tr with id := 6, new := 3, queued := true }
    let u (b : Nat) : DirUnit := { base := b, size := 32768, quietFrom := 0 }
    let p := { wPkg with faults := [f], transit := [x], dirUnits := [u 0, u 32768] }
    let s := { wState wAgent p with ctl := [(0, 0xDD)], aclk := 2 ^ 20 }
    let one := { s with cohTrs := [tr] }
    let rq : HostReq := { pkg := 0, port := 1, write := true, addr := 128, bytes := [1], len := 0 }
    s.pkg? 0 = some p ∧ (p.openFault 8 = true ∧ MemoryWf s ∧ 0 % 8 = 0 ∧ s.ctlPaOk 0 = true) ∧
    (s.transitFind 0 255 = some x ∧ s.transitStatus x = some 1) ∧
    (one.cohTrs.find? (fun z => z.id == tr.id && !z.host && !z.queued) = some tr ∧ (∀ z ∈ one.cohTrs, z.queued = false)) ∧
    (s.agent? 9000 = some wAgent ∧ wAgent.side false = some wSide) ∧
    (y.id ≠ tr.id ∧ y.leafAt = tr.leafAt ∧ p.mp.coh = false ∧ tr.new < 4 ∧ y.new ≠ tr.new) ∧
    (u 0 ∈ p.dirUnits ∧ 0 + 2 ^ p.mp.log2q.toNat ≤ s.aclk ∧ 32768 / 65536 = 0 / 65536 ∧ ¬(0 + 2 ^ p.mp.log2q.toNat ≤ s.aclk - 1)) ∧
    (∀ a ∈ s.agents, a.core / 4 ≠ 1) ∧ s.evictHeld 0 0 .ctl 1 = false ∧
    (s.offers 0 = true ∧ s.ctlRangeOk 128 1 = true ∧ (∀ l ∈ linesOf 128 1, s.hostHeld (128 * l) true = false) ∧
      ∃ l ∈ linesOf 128 1, one.hostHeld (128 * l) true = true) ∧
    (∀ z ∈ s.hostQ, z.write = false) ∧ ∃ z ∈ { s with hostQ := [rq] }.hostQ, z.pkg = 0 ∧ z.port = 1 ∧ z.write = true := by
  refine ⟨rfl, by decide +kernel, by decide +kernel, by decide +kernel, ⟨rfl, rfl⟩, by decide +kernel, by decide +kernel, by decide +kernel,
    by decide +kernel, by decide +kernel, by decide +kernel, by decide +kernel⟩

/-- A package whose PF mailbox holds this command, started by port 0. -/
def wMbx (c : List Byte) : Pkg := { wPkg with pfMbx := { Mbx.reset with cmd := c ++ List.replicate (64 - c.length) 0, go := true } }
def wM (p : Pkg) : State := wState wAgent p
/-- A QCREATE of a ring of 16 records at 0x40000 for VF 0. -/
def wQc (ring : Byte) : List Byte := [1, 0, 0, 0, 0, 0, 0, 0] ++ [ring, 0, 4, 0, 0, 0, 0, 0] ++ [0, 0, 2, 0, 0, 0, 0, 0] ++ [4, 0, 0, 1]

/-- A package with as many queues as there are numbers has no free one. -/
theorem witness_full (n : Nat) (h : 65536 ≤ n) : { wPkg with queues := List.replicate n (wQueue .idle) }.freeQueue = none := by
  simp [Pkg.freeQueue, wQueue, h]

/-- The mailbox commands with fields at the ends of what they take, and just beyond, a QCREATE with a reserved byte, and one from
the window of another VF. -/
theorem witness_MailboxCommands :
    let q := wQueue .idle
    (∀ p, (wM p).pkg? p.num = some p) ∧
    (∀ r ∈ [(0 : Byte), 1], let p := wMbx (wQc r)
      p.mbxGo (.pf 0) 1 = true ∧ p.recovery = false ∧ (∀ i, i < 12 → blkU p.pfMbx.cmd (0x1C + i) 1 = 0) ∧
      queueMalformed (p.mbx (.pf 0)).cmd = false ∧
      (p.vf 0).enabled = true ∧ ({ wM p with ctl := [(0, 0xDD)] }.queueReads 0 0 (p.mbx (.pf 0)).cmd = (r == 0)) ∧ p.freeQueue = some 0) ∧
    queueMalformed ((wQc 0).set 0x18 3) = true ∧ queueMalformed ((wQc 0).set 0x18 17) = true ∧
    (∃ i, i < 12 ∧ blkU (wMbx (wQc 0 ++ [1])).pfMbx.cmd (0x1C + i) 1 ≠ 0) ∧ (∃ k, Window.vf 1 = .vf k ∧ k ≠ blkU (wQc 0) 0x1A 1) ∧
    (blkU ((wQc 0).set 0x1A 128) 0x1A 1 = 128 ∧ (wPkg.vf 1).enabled = false) ∧
    { wPkg with queues := List.replicate 65536 (wQueue .idle) }.freeQueue = none ∧
    (blkU (wMbx [3, 0, 0, 0, 0, 0, 0, 0, 0, 0, 128]).pfMbx.cmd 0x0A 1 = 128 ∧
      blkU (wMbx [6, 0, 0, 0, 0, 0, 0, 0, 0, 2]).pfMbx.cmd 8 2 = 512) ∧
    (let p := { wMbx [2] with queues := [q] }
     p.mbxGo (.pf 0) 2 = true ∧ (wM p).queue? 0 0 = some q ∧ q.st ≠ .disabled ∧ (wM p).inFlight 0 0 = []) ∧
    ((wMbx [3, 0, 0, 0, 0, 0, 0, 0, 0, 0, 127]).mbxGo (.pf 0) 3 = true ∧ blkU (wMbx [3, 0, 0, 0, 0, 0, 0, 0, 0, 0, 127]).pfMbx.cmd 0x0A 1 < 128) ∧
    (let p := wMbx [4]
     p.mbxGo (.pf 0) 4 = true ∧ p.move = none ∧ p.mp.pmv = false ∧ blkU p.pfMbx.cmd 8 8 % 4 = 0 ∧ p.slt.en = false ∧
     setRefused p.boot.harvest Pkg.reset.sets = false ∧
     setRefused p.boot.harvest (Pkg.reset.sets.set 0 { SetRow.reset with en := true, clu := 0 }) = true) ∧
    (let r : HaReq := { func := 0, vf := 0, addr := 0, data := 0, raisedAt := 0, posted := some (0, 9), ref_ := 8, tmo := 0 }
     let p := { wMbx [5, 0, 0, 0, 0, 0, 0, 0, 9] with haReqs := [r] }
     p.mbxGo (.pf 0) 5 = true ∧ p.haReqs.find? (fun r => r.posted == some (p.pfMbx.port, BitVec.ofNat 32 (blkU p.pfMbx.cmd 8 4))) = some r ∧
     blkU p.pfMbx.cmd 0x0C 1 = 0 ∧ haResultOk 0 0x1A = true ∧ haResultOk 0 0x1B = false ∧ haResultOk 3 0x1A = false ∧
     (wMbx [5]).haReqs = [] ∧ r.late 1 = true ∧ r.late 0 = false) ∧
    (let p := wMbx [6, 0, 0, 0, 0, 0, 0, 0, 0xFF, 1]
     p.mbxGo (.pf 0) 6 = true ∧ blkU p.pfMbx.cmd 8 2 = 511 ∧ p.mp.plr = false ∧ p.haOpen 4 511 = false ∧ (wM p).detected.contains (0, 511) = false ∧
     ({ wM p with pkgs := [p, { wPkg with num := 511 }] }.pkg? 511).isSome = true) ∧
    (wMbx [7]).mbxGo (.pf 0) 7 = true ∧ { wMbx (wQc 0) with recovery := true }.recovery = true := by
  refine ⟨fun p => by simp [wM, wState, State.pkg?], by decide +kernel, by decide, by decide, ⟨0, by decide, by decide⟩,
    ⟨1, rfl, by decide⟩, by decide +kernel, witness_full _ (Nat.le_refl _), by decide, by decide +kernel, by decide +kernel, by decide +kernel, by decide +kernel, by decide +kernel,
    by decide +kernel⟩

/-- HSEM free, held by each port, and broken one aclk after TMO and not at it; an event to write, in a ring with one free entry
and in a full one; a submission at an aligned and at a misaligned address; an SPDM port at each stage, and indices of
measurements that are there and that are not; a partition move with a table that changes nothing. -/
theorem witness_MpEvents :
    let h (holder since : Nat) : Hsem := { holder := holder, since := since, tmo := 100, broken0 := false, broken1 := false }
    let r : HaReq := { func := 0, vf := 0, addr := 0, data := 0, raisedAt := 0, posted := none, ref_ := 8, tmo := 0 }
    let ring (head : W) : HaRing := { base := 0, log2n := 4, head := head, tail := 0, nextEv := 0xFFFFFFFF }
    let p := { wPkg with hsem := h 1 0, haReqs := [r], ha := Vector.replicate 2 (ring 15) }
    let blk := [5, 0, 0, 1] ++ List.replicate 20 0 ++ [1, 0, 0, 0, 0, 2, 1] ++ List.replicate 97 0
    let cc := Agent.controlCore Boot.reset 0 0 true
    let s := { State.reset with ctl := Memory.writeN [(0, 0xDD)] 0x1000 blk, pkgs := [wPkg], agents := [cc] }
    (wPkg.hsem.holder = 0 ∧ p.hsem.holder = 0 + 1 ∧ (h 2 0).holder = 1 + 1 ∧ (0 : Nat) < 2 ∧ (1 : Nat) < 2) ∧
    ((h 1 0).since + 1300000 * (h 1 0).tmo.toNat < 130000001 ∧ ¬((h 1 0).since + 1300000 * (h 1 0).tmo.toNat < 130000000)) ∧
    (p.haNext = some r ∧ (ring 15).log2n ≠ 0 ∧ ((ring 15).head - (ring 15).tail).toNat < 2 ^ (ring 15).log2n.toNat ∧
      ¬(((ring 16).head - (ring 16).tail).toNat < 2 ^ (ring 16).log2n.toNat)) ∧
    ((wM p).pkg? 0 = some p ∧ MemoryWf (wM p)) ∧
    (s.pkg? 0 = some wPkg ∧ wPkg.xeSub[15]? = some { subLo := 0, stLo := 0, stHi := 0 } ∧
      s.agents.find? (fun y => y.pkg == 0 && y.isCc && y.core == 0) = some cc ∧ s.agent? cc.id = some cc) ∧
    ((pairVal 0x1000 0).toNat % 128 = 0 ∧ (pairVal 0x1040 0).toNat % 128 ≠ 0 ∧
      s.checkAddr { s.who cc with supervisor := false } Kind.load 0x1000 128 = .ok (.ctl 0x1000 1) ∧
      s.targetPoisoned (.ctl 0x1000 1) 128 = false ∧ subKind (s.homeReadT (.ctl 0x1000 1) 128) = some .coll) ∧
    (∀ k, k < 4 → ({ wPkg with spdm := Vector.replicate 2 k }.spdm[1]?.getD 0) = k) ∧
    ((wPkg.measurement 0).isSome ∧ (wPkg.measurement 3).isSome ∧ wPkg.measurement 4 = none ∧ wPkg.measurement 254 = none ∧
      (wPkg.measurement 255).isSome) ∧
    (Pkg.reset.formed = false ∧ Pkg.reset.recovery = false ∧ wPkg.formed = true ∧ { wPkg with recovery := true }.recovery = true) := by
  refine ⟨by decide, by decide, by decide, ⟨rfl, by decide⟩, ⟨rfl, rfl, rfl, rfl⟩, by decide +kernel, by decide, ⟨rfl, rfl,
    rfl, rfl, rfl⟩, rfl, rfl, rfl, rfl⟩

/-- Of flits of the same 248 bytes the one with their CRC passes its check, and any other fails it. -/
theorem witness_flitOk (b : List Byte) (h : b.length = 248) (x : BitVec 64) :
    flitOk (b ++ toLE 8 x.toNat) = (x == Config.crc b) ∧ (b ++ toLE 8 x.toNat).length = 256 := by
  have n : leNat (toLE 8 x.toNat) = x.toNat := by
    rw [leNat_toLE]
    exact Nat.mod_eq_of_lt x.isLt
  refine ⟨?_, by simp [h]⟩
  simp only [flitOk, blkU, List.drop_left' h, List.take_left' h, List.take_of_length_le (Nat.le_of_eq (toLE_length 8 _)), n]
  rw [Bool.eq_iff_iff]
  simp [BitVec.toNat_inj]

/-- A package of the serial number `n` whose links are up and hold these flits unacknowledged. -/
def wFar (n : Nat) (l : List (BitVec 16 × Flit)) : Pkg :=
  { wPkg with boot := { Boot.reset with serial := n }, links := Vector.replicate 18 { Link.reset with up := true, replay := l } }

/-- Wherever a link leads, the package there has sent what its replay buffer holds. -/
theorem witness_sent (x : Nat × Nat) (l : List (BitVec 16 × Flit)) (h : Config.linkPeer 0 17 = some x) (hx : x.2 < 18) :
    { wS with pkgs := [wFar x.1 l] }.sentTo (wFar 0 []) 17 = l := by
  have up (n : Nat) (m : List (BitVec 16 × Flit)) (k : Nat) (hk : k < 18) :
      (wFar n m).link k = { Link.reset with up := true, replay := m } := by
    simp [Pkg.link, wFar, hk]
  have far : { wS with pkgs := [wFar x.1 l] }.farEnd (wFar 0 []) 17 = some (0, x.2) := by
    simp only [State.farEnd, up 0 [] 17 (by decide)]
    rw [show (wFar 0 []).boot.serial = 0 from rfl, h]
    simp [up _ _ _ hx, show (wFar x.1 l).boot.serial = x.1 from rfl, show (wFar x.1 l).formed = true from rfl,
      show (wFar x.1 l).num = 0 from rfl]
  simp [State.sentTo, far, State.pkg?, up _ _ _ hx, show (wFar x.1 l).num = 0 from rfl]

/-- A link that is up, with seven failures in a row and with six, silent for 16 us and for 1 us; a domain that one package forms;
an unreachable package and its loss; units of every kind that an error strikes; a package in reset. -/
theorem witness_FabricAndErrorEvents :
    let lk (fails : Nat) : Link := { Link.reset with up := true, fails := fails }
    let p (fails : Nat) : Pkg := { wPkg with links := Vector.replicate 18 (lk fails), unreach := [(1, 0)] }
    let q : Pkg := { wPkg with num := 1, mirror := 0 }
    let s := { wState wAgent (p 7) with pkgs := [p 7, q], aclk := 130000, detected := [(0, 1)] }
    (s.pkg? 0 = some (p 7) ∧ s.pkg? 1 = some q) ∧
    (((p 7).link 17).up = true ∧ 8 ≤ ((p 7).link 17).fails + 1 ∧ ((p 6).link 17).fails + 1 < 8 ∧
      ((p 7).link 17).lastRx + 20800 ≤ s.aclk ∧ ((p 7).link 17).lastTx + 1300 ≤ s.aclk) ∧
    ((List.replicate 256 (0 : Byte)).length = 256 ∧ s.lost.contains 0 = false ∧ { s with lost := [1] }.lost.contains 1 = true) ∧
    (let order := serialOrder [0]
     0 < order.length ∧ order.length ≤ 512 ∧ State.reset.admitted [0] = order ∧ State.reset.admitted [0, 0] = order) ∧
    ((p 7).routeGone 1 s.aclk = true ∧ (p 7).mp.plr = false ∧ (p 7).haOpen 4 1 = false ∧ s.detected.contains (0, 1) = true ∧
      wS.detected.contains (0, 1) = false ∧ s.homeOf 1 = 1 ∧ (s.pkg? q.mirror).isSome = true ∧ s.rebuilding.contains 1 = false ∧
      ∀ c ∈ s.cmds, c.pkg = 1 → c.sent = false) ∧
    (s.unitOn 0 (.reg 9000 127 31) = true ∧ s.unitOn 0 (.sreg 9000 63) = true ∧ s.unitOn 0 (.bead 9001 28671) = true ∧
      s.unitOn 0 (.ctl (2 ^ 26 - 1)) = true ∧ s.unitOn 0 (.ten (496 * 2 ^ 23 - 1)) = true ∧
      ((p 7).logCe (pageId .ctl 0) s.aclk).ceCount (pageId .ctl 0) s.aclk ≤ (p 7).mp.pgthr.toNat ∧ { (p 7).mp with ret := true }.ret = true) ∧
    MemoryWf s ∧
    ((wPkg.link 0).up = false ∧ s.sentTo wPkg 0 = [] ∧ s.agenda = [] ∧
      (∀ x, Config.linkPeer 0 17 = some x → x.2 < 18 →
        { wS with pkgs := [wFar x.1 [(0, { vc := 2, kind := .data, dst := 0, src := 0, addr := 0, payload := [] })]] }.sentTo
          (wFar 0 []) 17 ≠ [])) ∧
    (s.homeAt .ten (2 ^ 40) ≠ 0 ∧ s.homeAt .ctl (2 ^ 33) ≠ 0 ∧ (∀ g ∈ ((p 7).link 17).wait, g.vc ≠ 2)) := by
  refine ⟨⟨rfl, rfl⟩, by decide, by decide +kernel, by decide +kernel, by decide +kernel, by decide +kernel, by decide,
    ⟨rfl, rfl, rfl, fun x h hx => by simp [witness_sent x _ h hx]⟩, by decide +kernel⟩

/-! #### Clauses of several statements at their ends -/

/-- ICMP and FCMP with the last register of an allocation, the words of no vector register on a group, and the scalar ICMP of a
control core. -/
theorem witness_PredicateResults_ends :
    Issues wS wAgent wSide wCursor ∧ Fits wAgent (127 :: VSrc.regs (.v 127)) ∧ Fits wAgent [127] ∧ Fits wAgent [] ∧
    Issues (wCcS true) (wCcA true) { wSide with mask := 1 } wCursor ∧ (wCcA true).isCc = true :=
  ⟨rfl, by decide, by decide, by decide, witness_issuesCc true, rfl⟩

/-- The returns from a trap with a memory cause, whose record is freed, and from TRAP, whose is not; a crew that has ended, and
one that has not. -/
theorem witness_TrapsAndReturns_ends :
    let memory := [Cause.misaligned, Cause.pageFault, Cause.access, Cause.remoteTensor, Cause.peerLost, Cause.poison,
      Cause.cohIsolation]
    ({ wAgent with tcause := 0x04 }.tcause.toNat ∈ memory ∧ { wAgent with tcause := 0x02 }.tcause.toNat ∉ memory) ∧
    ({ wCrew with ended := 1 }.allEnded = true ∧ wCrew.allEnded = false ∧ (wP.who wPadA).core ≠ none) := by decide

/-- A dirty SOFT line of VF 0 at physical address 0x1000, and a SNAP copy whose source page holds it. -/
def wDirty : Pkg :=
  { wPkg with l1 := [{ core := 0, space := .ctl, line := 32, bytes := List.replicate 128 0, dirty := 1, vf := 0, poison := false }] }
def wSnap : Cmd := { wS.newCmd wAgent 0 9050 .copy 0 (wBlk 1) with phase := .running, snap := [(.ctl, 0, 65536)] }

/-- A release and a TLBINV with nothing in their way, and with a SNAP copy that holds a dirty line's page. -/
theorem witness_Releases :
    let s := wState wAgent wDirty
    let mine (_ : Nat) (l : L1Line) : Bool := l.vf == 0 || decide (256 ≤ l.core)
    (s.release 0 (cacheCore wAgent)).1 = none ∧ (s.cleanWhere mine).1 = none ∧
    ({ s with cmds := [wSnap] }.release 0 (cacheCore wAgent)).1 = some (.snap 9050) ∧
    ({ s with cmds := [wSnap] }.cleanWhere mine).1 = some (.snap 9050) := by decide +kernel

/-- An engine word that has issued and goes on, or has been cancelled meanwhile; one whose queue is full; and one whose release a
SNAP copy holds. -/
theorem witness_EngineWordResults_waits :
    let sd := { wSide with began := some (.posting 0 9100 .copy 0 0x8000000000000000) }
    let x := { wPadA.setHandle 0 (.pending 9100 false) with prim := some sd }
    let y := { wPadA with prim := some sd }
    let cmd := wP.newCmd wPadA 0 9200 .gather 0 []
    let full := (List.range 32).map (fun i => { cmd with inst := 9200 + i, phase := .running })
    Issues (wState x wPkg) x sd wCursor ∧ (x.handle 0).boundTo 9100 = true ∧
    Issues (wState y wPkg) y sd wCursor ∧ (y.handle 0).boundTo 9100 = false ∧
    (queueRoom 0 ≤ { wP with cmds := full }.queued 0 0 ∧ { wP with cmds := full }.mayJoin x none = false) ∧
    ({ (wState x wDirty) with cmds := [wSnap] }.release 0 (cacheCore x)).1 = some (.snap 9050) :=
  ⟨rfl, by decide, rfl, by decide, by decide +kernel, by decide +kernel⟩

/-- A tensor page of 32 GiB that lies on package 1, which is in the domain, and one that is lost. -/
def wRemote (c : Cmd) (lost : List Nat) : State :=
  { wTen c with ctl := [(0x1000, 0x03), (0x1001, 0x20), (0x2000, 0xCD), (0x2005, 0x01)], lost := lost,
                pkgs := (wTen c).pkgs ++ [{ wPkg with num := 1 }] }

/-- A COPY whose chunk crosses links, before its flits go out and when they have arrived; a send to a lost package. -/
theorem witness_EngineEventResults_remote :
    let run := wCmd .copy .running (wBlk 1)
    let s := wTen run
    (s.flying 9050 = false ∧ run.sent = false ∧ s.flitsFor (State.oneChunk run 1 s) 9050 = []) ∧
    ((wRemote run []).flying 9050 = false ∧ (wRemote run []).flitsFor (State.oneChunk run 1 (wRemote run [])) 9050 ≠ [] ∧
      { run with sent := true }.sent = true) ∧
    (wRemote (wCmd .tsend .armed (wBlk 6)) [1]).dstLost (wCmd .tsend .armed (wBlk 6)) = true := by decide +kernel

/-- An MMA that has a map to read, and one that has none. -/
theorem witness_MatrixAndIssueEvents_map :
    let d : Desc := { base := 0, core := 0, regs := false, t := false, rot := 0, fmt := .bf16, rowp := 8, tilep := 8, klen := 64 }
    let m : MmaReq :=
      { inst := 9050, pkg := 0, cluster := 0, leader := 0, follower := 1, agent := 9000, hnum := 0, crew := 9001, gang := 9003,
        vf := 0, launch := 9002, team := 0, a := d, b := d, acc := 0, kp := 64, g := 32, ovw := true, amx := none,
        dup := some 0x8000000000000000, prio := 0, posted := 0, waitFrom := 0, promoted := none, busy := none, passes := 1, done := 0,
        saved := false, wait := none, acc0 := [], acc0Bad := [], marks := [], mark := 0, accMarks := [], map := [], loose := [], failed := none }
    let s : State := { wState wAgent wPkg with mmas := [m] }
    m.klen ≠ 0 ∧ m.needsMap = true ∧ { m with dup := none }.needsMap = false ∧ s.mmaReady m = true ∧
    (∃ l, s.mapRead m = .words l) ∧ (Side.at 1 0x10000 0).atHeader = true ∧ { wSide with ahead := true }.atHeader = true ∧
    wSide.atHeader = false := by
  refine ⟨by decide, by decide, by decide, by decide +kernel, ⟨_, rfl⟩, by decide, by decide, by decide⟩

/-- A queue whose pending bit is set, and one whose is not. -/
theorem witness_QueueAndLaunchEvents_bit :
    (wQs [wQueue .idle] 1).pendingBit 0 (wQueue .idle) = true ∧
    (wQs [wQueue .idle] 1).pendingBit 0 { wQueue .idle with pbit := 1 } = false := by decide +kernel

/-- A partition whose owner changes at the next edge, without an edge inside the slot. -/
theorem witness_PartitionEvents_ahead :
    let slt := { Slt.reset with en := true }
    let row (v : Byte) : Vector (Vector Byte 64) 64 := Vector.replicate 64 (Vector.replicate 64 v)
    let p : Pkg := ({ wPkgC with slt := { slt with tbl0 := row 1, tbl1 := row 255 } }).modPart 0 (fun q => { q with phase := .run })
    p.leadsMid 0 0 = false ∧ p.slt.slotNow 0 ≠ 63 ∧ (p.vf 1).owed = 0 ∧ (p.part 0).phase = .run ∧
    (p.part 0).owner ≠ { State.reset with pkgs := [p] }.ownerAhead p 0 := by decide +kernel

/-- A submission of a control core whose core holds no dirty line. -/
theorem witness_MpEvents_release :
    let cc := Agent.controlCore Boot.reset 0 0 true
    let s := { State.reset with pkgs := [wPkg], agents := [cc] }
    (s.release 0 (cacheCore cc)).1 = none := by decide +kernel

/-- A flit that might overtake an earlier one, and a flit of a running command's chunk. -/
theorem witness_FabricAndErrorEvents_flits :
    let f : Flit := { vc := 2, kind := .data, dst := 1, src := 0, addr := 0, payload := [], cmd := some 9050, ord := 2 }
    let s := { wTen (wCmd .copy .running (wBlk 1)) with traffic := [(0, { f with ord := 1 })] }
    s.overtakes 0 f = true ∧ wS.overtakes 0 f = false ∧ f.counted = true ∧ (f.cmd.bind (fun i => s.cmd? i)).isSome ∧
    { f with cmd := none }.cmd = none := by decide +kernel

/-- What REJOIN and EXIT leave in the slots: a live side beside an entry that is not parked, at another word and at its own
header; no live side and two such entries; entries all parked at one BAR, and at a BAR and a REJOIN. -/
theorem witness_SideResults_refills :
    let hd : Side := { wSide2 with pt := ClausePt.at 0x20000 }
    let at_ (a : DW) : Entry := { pt := ClausePt.at a, len := 1, park := none, mask := 4, fmt := 0 }
    let bar : Entry := wEntry 0x30000 (some (.bar 0 (.ext 0 none)))
    let m := wSides wSide (some wSide2) [wEntry 0x20000 (some .rejoin), at_ 0x20000, wEntry 0x20000 (some .rejoin)]
    let j := wSides wSide (some hd) [at_ 0x20000]
    let two := wSides wSide none [wEntry 0x20000 (some .rejoin), at_ 0x20000, at_ 0x30000]
    let b := wSides wSide none [bar, { bar with mask := 4 }]
    let n := wSides wSide none [bar, wEntry 0x30000 (some .rejoin)]
    (∀ x ∈ [m, j, two, b, n], Issues (wState x wPkg) x wSide wCursor ∧ x.cc = none ∧ x.trapvec ≠ 0 ∧
      activeMask x wSide 0 = wSide.mask ∧ activeMask x wSide 0 ≠ 0) ∧
    (wEntry 0x20000 (some .rejoin)).park ≠ none ∧ (at_ 0x20000).park = none ∧ wSide2.atHeader = false ∧
    (hd.atHeader = true ∧ hd.inHandler = false ∧ (at_ 0x20000).pt.pos = 0 ∧ hd.pt.hdr = (at_ 0x20000).pt.hdr) ∧
    (at_ 0x20000).pt.hdr ≠ (at_ 0x30000).pt.hdr ∧
    (∀ k ∈ [{ bar with mask := 4 }], k.pt.hdr = bar.pt.hdr ∧ k.pt.pos = bar.pt.pos ∧ k.park = bar.park) ∧
    (wEntry 0x30000 (some .rejoin)).park ≠ bar.park := by
  refine ⟨?_, by decide⟩
  intro x hx
  simp only [List.mem_cons, List.not_mem_nil, or_false] at hx
  rcases hx with rfl | rfl | rfl | rfl | rfl <;> exact ⟨rfl, rfl, by decide, by decide, by decide⟩

/-- A core with nothing dirty, no armed send, no collective, no MMA and no side parked at a BAR; words that go on. -/
theorem witness_RegisterWordFrames_words :
    Issues wP wPadA wSide wCursor ∧ wP.accRes = [] ∧ wP.lost = [] ∧ wP.cmds = [] ∧ wP.mmas = [] ∧
    (∀ q ∈ wP.pkgs, q.num = wPadA.pkg → ∀ z ∈ q.l1, z.core = cacheCore wPadA → z.dirty = 0) ∧
    wP.armed 0 none < 1024 ∧ wP.armed 0 (some 0) < (wP.vf 0 0).armsh.toNat ∧ (wPadA.spair 0).toNat / 2 ^ 62 ≠ 3 ∧
    (∃ t, exec (.oprdy 0) wP = .next t) ∧ (∃ t, exec (.hcancel 0 0) wP = .next t) ∧ (∃ t, exec (.ctrset 0 0 0) wP = .next t) ∧
    (∃ t, exec (.coll 0 0 0) wP = .next t) ∧ (∃ t, exec (.tsend 0 0 0) wP = .next t) ∧ (∃ t, exec (.hload 0 0 0) wP = .next t) ∧
    (∃ t, exec (.chsend 0 0 0) (wChan 0 0 64 (.free 0)) = .next t) ∧
    (∀ e ∈ wPadA.stack, ∀ b f, e.park ≠ some (.bar b f)) ∧ (∃ t, exec (.bdiv 0 0) wP = .next t) ∧ (∃ t, exec (.exit 0) wP = .next t) :=
  ⟨rfl, rfl, rfl, rfl, rfl, by decide, by decide, by decide, by decide, ⟨_, rfl⟩, ⟨_, rfl⟩, ⟨_, rfl⟩, ⟨_, rfl⟩, ⟨_, rfl⟩, ⟨_, rfl⟩,
    ⟨_, rfl⟩, (fun _ h => by cases h), ⟨_, rfl⟩, ⟨_, rfl⟩⟩

/-- A tensor page of 32 GiB mapped to physical address 0 of package 0. -/
def wTenS (a : Agent) : State :=
  { wState a { wPkg with vfs := wPkg.vfs.set 0 { wVf with troot := 0x1000 } } with
    ctl := [(0x1000, 0x03), (0x1001, 0x20), (0x2000, 0xCD)] }

/-- ST.B32 `.lk` whose lanes all name the first tensor address; a store by every lane to one SOFT line that has a copy, and to one
that has none; CINV of a tensor line; CFLUSH and CINV of a dirty line, with and without a SNAP copy of its page. -/
theorem witness_StoreResults_lines :
    let x := { wAgent.setS 1 0x40000000 with lksel := 7 }
    let a := { wAgent with lksel := 7 }
    let e : L1Line := { core := 0, space := .ctl, line := 32, bytes := List.replicate 128 0, dirty := 0, vf := 0, poison := false }
    let copy := { wSoft a with pkgs := [{ wPkg with l1 := [e] }] }
    let ts := (List.range 32).map (fun l => (l, (0x4000000000000000 : DW), Target.ten 0))
    let us := (List.range 32).map (fun l => (l, (0x1000 : DW), Target.ctl 0x1000 1))
    let dirty := { wState wAgent wDirty with ctl := [(0, 0xDD)] }
    let ten := { wTenS x with pkgs := [{ wPkg with
      vfs := wPkg.vfs.set 0 { wVf with troot := 0x1000 }, l1 := [{ e with space := .ten, line := 0 }] }] }
    (Issues (wTenS x) x wSide wCursor ∧ MemoryWf (wTenS x) ∧ x.isCc = false ∧ x.lksel.toNat < (wTenS x).lkNrec 0 0 ∧
      (wTenS x).isPoisoned .ten ((wTenS x).lkAddr 0 0 7) 64 = false ∧ Fits x (dataRegs 127 4 ++ VOff.regs (.ext 0 none)) ∧
      Lands (wTenS x) x Kind.store 4 (lanesOf (activeMask x wSide 0)) (laneAddr x 0 (.ext 0 none)) ts ∧
      ∀ y ∈ ts, y.2.2.place.1 ≠ 2 ∧ y.2.2 = .ten 0) ∧
    (Lands (wSoft a) a Kind.store 4 (lanesOf (activeMask a wSide 0)) (laneAddr a 0 (.ext 0x1000 none)) us ∧
      Lands copy a Kind.store 4 (lanesOf (activeMask a wSide 0)) (laneAddr a 0 (.ext 0x1000 none)) us ∧
      0x1000 % 4 = 0 ∧ (us.map (fun y => y.2.2.place.2 / 128)).eraseDups = [32] ∧ ownCopy (wSoft a) a 32 = none ∧
      ownCopy copy a 32 = some e ∧ e.bytes.length = 128 ∧ (wSoft a).isPoisoned .ctl (128 * 32) 128 = false ∧
      (wSoft a).l1Count 0 0 + 1 ≤ wPkg.l1Lines 0 0 ∧ ((wSoft a).pkg? 0).isSome = true) ∧
    (Issues ten x wSide wCursor ∧ ten.checkAddr (ten.who x) (flushKind 0) (scalarAddr x 0 (.ext 0 none)) 1 = .ok (.ten 0)) ∧
    (Issues dirty wAgent wSide wCursor ∧
      dirty.checkAddr (dirty.who wAgent) (flushKind 1) (scalarAddr wAgent 0 (.ext 0x1000 none)) 1 = .ok (.ctl 0x1000 1) ∧
      (∃ z, (dirty.pkg? 0).bind (fun p => p.l1Find (cacheCore wAgent) .ctl 32) = some z ∧ z.dirty ≠ 0) ∧
      dirty.snapOf .ctl 0x1000 = none ∧ { dirty with cmds := [wSnap] }.snapOf .ctl 0x1000 = some 9050) := by
  unfold Lands
  refine ⟨⟨rfl, ?_⟩, ?_, ⟨rfl, ?_⟩, rfl, ?_, ⟨_, rfl, by decide⟩, ?_⟩ <;> decide +kernel

/-- HCANCEL: no operation; an MMA; an armed TSEND; a move with all its bytes left, with
none, with a decided status, held by an ORD copy, and started or not; a collective not started and started. -/
theorem witness_HandleResults_cancel :
    let run := wCmd .copy .running (wBlk 1)
    let que := { run with phase := .queued }
    let ord := { wCmd .copy .running ([1, 4] ++ (wBlk 1).drop 2) with inst := 9040, set := 9040 }
    let own := { wCmd .copy .running ([1, 4] ++ (wBlk 1).drop 2) with started := true }
    let snd := wCmd .tsend .armed (List.replicate 128 0)
    let col := wCmd .coll .joining (List.replicate 0x1D 0 ++ [2, 1, 0] ++ List.replicate 96 0)
    let total (c : Cmd) : Nat := (((wTen c).setOf c.set).map Cmd.bytesTotal).foldl (· + ·) 0
    let done (c : Cmd) : Nat := (((wTen c).setOf c.set).map Cmd.bytesDone).foldl (· + ·) 0
    (∀ m : MmaReq, m.inst = 9050 → { wS with mmas := [m] }.mma? 9050 = some m) ∧
    (wS.tlbInvs = [] ∧ wS.cmd? 9050 = none ∧ wS.mma? 9050 = none) ∧
    ((wTen snd).cmd? 9050 = some snd ∧ snd.open_ = [] ∧ ∀ e ∈ (wTen snd).merges, e.inst ≠ 9050) ∧
    ((wTen run).cmd? 9050 = some run ∧ total run - done run = 16 ∧ min 4096 (total run) = 16 ∧ run.final = none ∧
      { run with final := some 1 }.final ≠ none ∧ (wTen run).ordHeld run = false) ∧
    ((wTen { run with phase := .ended }).setOf 9050 = [{ run with phase := .ended }] ∧ (wTen que).vfStarts 0 0 = true ∧
      que.started = false ∧ State.reset.vfStarts 0 0 = false) ∧
    ({ wTen own with cmds := [ord, own] }.ordHeld own = true ∧ own.started = true) ∧
    ((wTen col).cmd? 9050 = some col ∧ col.started = false ∧ (∀ d ∈ (wTen col).cmds, d.staddr = none ∧ d.phase ≠ .reporting) ∧
      { col with started := true, phase := .running }.bytesDone = 0) := by
  refine ⟨fun m h => by simp [State.mma?, h], ?_⟩
  decide +kernel

/-- What MMA finds in descriptors `A` and `B` in s0:s1 and s2:s3, with `r` registers, accumulators from `v` on, and these
extension bits, in a group of a crew of eight groups with one lane. -/
def wMma (A B : Nat) (r v : Nat) (ext : W) : Option Trap :=
  let one : Side := { wSide with mask := 1 }
  let x := { ((((wAgent.setS 0 (BitVec.ofNat 32 A)).setS 1 (BitVec.ofNat 32 (A / 2 ^ 32))).setS 2 (BitVec.ofNat 32 B)).setS 3
    (BitVec.ofNat 32 (B / 2 ^ 32))) with prim := some one, nregs := r }
  ({ wState x wPkg with crews := [{ wCrew with ngroups := 8 }] }.mmaCheck x one 0 1 (BitVec.ofNat 7 v) ext).getLeft?

/-- The nine checks of R241, each at the last operand that passes and at the first that does not: a crew of seven groups; the last
register; a reserved bit; a pair of formats; a length; a row pitch; the last bead; registers that meet the accumulators; and a
misaligned pair. -/
theorem witness_MatrixWordResults_checks :
    let one : Side := { wSide with mask := 1 }
    let A := 64 * 2 ^ 52 + 8 * 2 ^ 32
    let B := 8 * 2 ^ 32 + 1024
    let stop (c : Nat) (n : W) : Option Trap := some (Trap.plain c n)
    let ok (z : Option Trap) : Bool := z.isNone
    ok (wMma A B 128 96 0) = true ∧
    ((wState { wAgent with prim := some one } wPkg).mmaCheck { wAgent with prim := some one } one 0 1 0 0 |>.getLeft?) = stop Cause.illegalInstr 0 ∧
    wMma A B 127 96 0 = stop Cause.regRange 127 ∧ wMma A B 128 97 0 = stop Cause.regRange 128 ∧
    wMma (A + 2 ^ 26) B 128 96 0 = stop Cause.mtxOperand 1 ∧ wMma A B 128 96 0x2000 = stop Cause.mtxOperand 1 ∧
    wMma (A + 2 ^ 22) B 128 96 0 = stop Cause.mtxOperand 2 ∧ wMma A (B + 2 ^ 52) 128 96 0 = stop Cause.mtxOperand 3 ∧
    wMma (A - 2 ^ 32) B 128 96 0 = stop Cause.mtxOperand 4 ∧
    wMma (A + 27648) B 128 96 0 = wMma (A + 27648) B 128 0 0 ∧ ok (wMma (A + 27648) B 128 96 0) = true ∧
    wMma (A + 27649) B 128 96 0 = stop Cause.mtxOperand 5 ∧
    (ok (wMma (A + 2 ^ 17 + 80) B 128 96 0) = true ∧ wMma (A + 2 ^ 17 + 81) B 128 96 0 = stop Cause.mtxOperand 6) ∧
    wMma A (B + 2) 128 96 6 = stop Cause.misaligned 0 ∧ ok (wMma A B 128 96 6) = true := by
  decide +kernel

/-- Where no record is taken, the first free run is the one that the package's choice names. -/
theorem witness_freeRun : freeRun [] 1 = some (Config.recordAt [] 1 % 65535 + 1) := by
  have h : Config.recordAt [] 1 % 65535 + 1 < 65536 := by omega
  simp [freeRun, List.range_succ, List.find?]
  exact ⟨0, by simp [h]⟩

/-- A COPY whose source was written after it started, whose log shows the bytes that stood there; one destination bead. A slice that
comes twice; a refused command with a record to take. -/
theorem witness_EngineEventResults_records :
    let run := { wCmd .copy .running (wBlk 1) with ran := 0 }
    let s := { wTen run with wlog := [{ agent := none, cmd := none, place := Space.place .ten, lo := 0, hi := 1, old := [5] }] }
    let w := s.whoCmd run
    let two : List Byte := (wBlk 1).set 4 2
    let j := wCmd .copy .joining two
    let bad : Cmd := { run with
      fault := some { seq := 0, cause := 0x12, sub := 0, complete := false, ivec := run.ivec, faddr := 0, detail := 0 } }
    (s.engCheck w Kind.engineRead 0x4000000000000000 16 = .ok (.ten 0) ∧ s.isPoisoned .ten 0 16 = false ∧ blkCvt run.blk = none ∧
      s.wroteSince 0 .ten 0 16 = true ∧ s.wroteSince 1 .ten 0 16 = false ∧ (0x4000000000000100 : DW).toNat % 16 + 16 ≤ 16 ∧
      Memory.readN (s.asOf 0).ten 0 1 = [5] ∧ Memory.readN (s.asOf 1).ten 0 1 = [7]) ∧
    ((wTen j).openSet j.crew j.hnum (blkNslice j.blk) = [j] ∧ blkSlice j.blk = blkSlice two) ∧
    (bad.vf < 128 ∧ isResume bad.blk = false ∧ blkNslice bad.blk = 1 ∧ blkSlice bad.blk = 0) ∧
    (∃ k, freeRun (s.vf 0 0).rpUsed 1 = some k) := by
  refine ⟨by decide +kernel, by decide +kernel, by decide +kernel, ?_⟩
  exact ⟨_, witness_freeRun⟩

/-- A flit for a home that is being promoted, and one for another; a flit on its way to the lost home; ERR_CFG with thresholds just
met and just exceeded by the errors of a page. -/
theorem witness_FabricAndErrorEvents_homes :
    let f : Flit := { vc := 0, kind := .request, dst := 1, src := 2, addr := 0x200000000, payload := [1] }
    let p : Pkg := { wPkg with unreach := [(1, 0)], ceLog := [(7, 0), (7, 0)] }
    let q : Pkg := { wPkg with num := 1, mirror := 0 }
    let s := { wState wAgent p with pkgs := [p, q, { wPkg with num := 2 }], aclk := 130000, detected := [(0, 1)], traffic := [(2, f)] }
    let count (v : Nat) : Nat := (p.ceLog.filter (fun x => x.1 == 7 && decide (s.aclk ≤ x.2 + v % 2 ^ 16 * 1300000000))).length
    (f.ofCtl = true ∧ f.counted = true ∧ f.addr.toNat / 2 ^ 33 = 1 ∧ 1 ∈ { s with promoting := [1] }.promoting ∧ 1 ∉ s.promoting) ∧
    (f ∈ s.flits ∧ f.dst = 1 ∧ f.src ≠ 1 ∧ f.src ≠ q.mirror ∧ s.lost.contains f.src = false ∧ s.lost.contains q.mirror = false ∧
      s.cmds = [] ∧ q.mirror ≠ 1 ∧ (s.pkg? q.mirror).isSome = true ∧ s.rebuilding.contains 1 = false ∧ s.homeOf 1 = 1 ∧
      ∃ x ∈ s.detected, x.2 = 1) ∧
    (p.formed = true ∧ p.recovery = false ∧ p.retired = [] ∧ (∀ x ∈ p.ceLog, x.1 = 7) ∧ p.ceLog ≠ [] ∧
      (0x20001 : W).toNat % 2 ^ 16 ≠ 0 ∧ (0x20001 : W).toNat < 2 ^ 24 ∧ count 0x20001 ≤ 0x20001 / 2 ^ 16 % 16 ∧
      (0x10001 : W).toNat < 2 ^ 24 ∧ 0x10001 / 2 ^ 16 % 16 < count 0x10001) := by
  decide +kernel

end Sys2Proof
end

section
/-! Reset and the events of the Bezel (O53, O57). -/
namespace Sys2Proof
open Sys2Proof.Machine

/-! ### The state after reset -/

/-- R295: the agents at reset are the control cores, each found under its number. -/
theorem reset_agent? {k : Nat} (hk : k < 16) : State.reset.agent? k = some (Agent.controlCore Boot.reset 0 k false) := by
  have found : (List.range 16).find? ((fun a : Agent => a.id == k) ∘ fun i => Agent.controlCore Boot.reset 0 i false) = some k := by
    rw [List.find?_range_eq_some]
    exact ⟨by simp [Agent.controlCore], by simpa using hk, fun j hj => by simp [Agent.controlCore]; omega⟩
  simp only [State.agent?, State.reset, List.find?_map, found, Option.map_some]

theorem reset_vf {v : Nat} (hv : v < 128) : Pkg.reset.vf v = Vf.reset := by
  simp [Pkg.vf, Pkg.reset, hv]

/-- Settles O53: every field by computation, the control cores and the VFs each for any number. -/
theorem resetState : Obligations.ResetState := by
  unfold Obligations.ResetState
  refine ⟨by decide, fun p => ⟨rfl, rfl⟩, rfl, rfl, rfl, rfl, fun k hk => ?_, Pkg.reset, rfl, rfl, rfl, rfl, rfl, rfl, rfl, rfl, rfl, rfl,
    fun v hv => ?_⟩
  · exact ⟨_, _, reset_agent? hk, rfl, rfl, rfl, rfl, rfl⟩
  · rw [reset_vf hv]
    exact ⟨rfl, rfl, rfl⟩

/-! ### The edge that EN brings about -/

/-- Package 0 as EN has started its slots at aclk 0: its entries name no VF, and its partitions stand in a LEAD whose edge, too,
was due at aclk 0. -/
def pkgInLead : Pkg :=
  { Pkg.reset with
    slt := { Slt.reset with en := true, tbl0 := Vector.replicate 64 (Vector.replicate 64 0xFF) }
    sets := Vector.replicate 64 { SetRow.reset with en := true }
    parts := Vector.replicate 64 { Part.reset with phase := .lead } }

def stateInLead : State := { State.reset with pkgs := [pkgInLead] }

/-- The phase of partition 0 of package 0 in the state that an event leaves. -/
def phaseAfter (o : Host.Outcome State Fault Refusal) : Option PPhase :=
  match o with
  | .next t => (t.pkg? 0).map (fun r => (r.part 0).phase)
  | _ => none

/-- R118: the edge ends the LEAD that was due (`Part.endLead`), though its entry names no VF. -/
theorem phaseAfter_slotEdge_inLead : phaseAfter (exec (.slotEdge 0 0) stateInLead) = some .run := by decide +kernel

/-- Refutes O57: the clause of the edge that EN brings about says of every partition that its phase stays, without a word on the
phase; a LEAD whose edge was due becomes RUN there (notes/assumptions/85.md). -/
theorem not_partitionEvents : ¬ Obligations.PartitionEvents := by
  unfold Obligations.PartitionEvents
  rintro ⟨-, -, parts⟩
  obtain ⟨-, -, edge, -⟩ := parts stateInLead 0 0 pkgInLead rfl (by decide)
  obtain ⟨t, r, ht, hr, stays, -⟩ := edge rfl (by decide +kernel) (by decide) (by decide) (by decide +kernel) rfl
  have lead : (r.part 0).phase = .lead := by rw [stays]; decide +kernel
  have run := phaseAfter_slotEdge_inLead
  simp [phaseAfter, ht, hr, lead] at run

end Sys2Proof
end

section
/-! What is found after an update of a package, and what of the packages an update keeps. -/
namespace Sys2Proof.Machine

/-- Two replacements that agree on the element that is found are one. -/
theorem List.modFirst_congr {α : Type} {p : α → Bool} {f g : α → α} {l : List α}
    (h : ∀ x, l.find? p = some x → f x = g x) : List.modFirst p f l = List.modFirst p g l := by
  induction l with
  | nil => rfl
  | cons x r ih =>
    by_cases hp : p x = true
    · simp [List.modFirst, hp, h x (by simp [hp])]
    · simp only [List.modFirst, hp, Bool.false_eq_true, if_false]
      rw [ih fun y hy => h y (by simp [hp, hy])]

/-- What a replacement keeps of every element it keeps of the list. -/
theorem List.map_modFirst {α β : Type} {p : α → Bool} {f : α → α} {w : α → β} (h : ∀ x, w (f x) = w x) (l : List α) :
    (List.modFirst p f l).map w = l.map w := by
  induction l with
  | nil => rfl
  | cons x r ih =>
    unfold List.modFirst
    split
    · simp [h]
    · simp [ih]

/-- An element of a replaced list is one of the list, or a replaced one. -/
theorem List.mem_modFirst {α : Type} {p : α → Bool} {f : α → α} {l : List α} {y : α} (h : y ∈ List.modFirst p f l) :
    y ∈ l ∨ ∃ x ∈ l, p x = true ∧ y = f x := by
  induction l with
  | nil => cases h
  | cons x r ih =>
    unfold List.modFirst at h
    split at h
    · rcases List.mem_cons.mp h with rfl | h
      · exact .inr ⟨x, by simp, ‹_›, rfl⟩
      · exact .inl (by simp [h])
    · rcases List.mem_cons.mp h with rfl | h
      · exact .inl (by simp)
      · rcases ih h with h | ⟨z, hz, hp, hy⟩
        · exact .inl (by simp [h])
        · exact .inr ⟨z, by simp [hz], hp, hy⟩

theorem State.pkg?_num {s : State} {n : Nat} {p : Pkg} (h : s.pkg? n = some p) : p.num = n := by
  simpa using List.find?_some h

/-- An update of a package acts on the package that is found. -/
theorem State.modPkg_congr {s : State} {n : Nat} {p : Pkg} {f g : Pkg → Pkg} (h : s.pkg? n = some p) (hfg : f p = g p) :
    s.modPkg n f = s.modPkg n g := by
  unfold State.modPkg
  rw [List.modFirst_congr fun x hx => ?_]
  rw [Option.some.inj ((show s.pkg? n = some x from hx).symm.trans h), hfg]

/-- The updated package, where it is there. -/
theorem State.pkg?_modPkg_some {s : State} {n : Nat} {p : Pkg} (h : s.pkg? n = some p) (f : Pkg → Pkg)
    (hf : ∀ q, (f q).num = q.num) : (s.modPkg n f).pkg? n = some (f p) := by
  rw [State.pkg?_modPkg s n f fun q hq => (hf q).trans hq, h, Option.map_some]

/-- What an update keeps of every package is kept of the packages. -/
theorem State.modPkg_map (s : State) (n : Nat) {f : Pkg → Pkg} {β : Type} {w : Pkg → β} (h : ∀ p, w (f p) = w p) :
    (s.modPkg n f).pkgs.map w = s.pkgs.map w := List.map_modFirst h s.pkgs

/-- Where packages agree by number on a part of them, the packages that are found agree on it. -/
theorem State.pkg?_map_congr {s t : State} {β : Type} {w : Pkg → β}
    (h : t.pkgs.map (fun p => (p.num, w p)) = s.pkgs.map (fun p => (p.num, w p))) (n : Nat) :
    (t.pkg? n).map w = (s.pkg? n).map w := by
  have look (l : List Pkg) : (l.find? (fun p => p.num == n)).map w =
      ((l.map (fun p => (p.num, w p))).find? (fun x => x.1 == n)).map (fun x => x.2) := by
    rw [List.find?_map, Option.map_map]
    rfl
  show (t.pkgs.find? _).map w = (s.pkgs.find? _).map w
  rw [look, look, h]

/-- The bytes are the same where the memories and the crews are. -/
theorem sameBytes_of_eq {s t : State} (hc : t.ctl = s.ctl) (ht : t.ten = s.ten) (hh : t.host = s.host) (hk : t.crews = s.crews) :
    Safety.SameBytes s t := by
  refine ⟨fun p => by rw [hc], fun p => by rw [ht], fun p => by rw [hh], fun k => ?_⟩
  rw [State.crew?, hk, State.crew?]

end Sys2Proof.Machine
end

section
/-! Links and flits (R289 to R292). -/
namespace Sys2Proof.Machine
open Sys2Proof.Safety

/-! ### One link of a package -/

theorem Pkg.link_modLink_same (p : Pkg) {k : Nat} (f : Link → Link) (hk : k < 18) : (p.modLink k f).link k = f (p.link k) := by
  simp [Pkg.link, Pkg.modLink, hk]

theorem State.pkg?_modLink {s : State} {n : Nat} {p : Pkg} (h : s.pkg? n = some p) (k : Nat) (f : Link → Link) :
    (s.modPkg n (fun q => q.modLink k f)).pkg? n = some (p.modLink k f) :=
  State.pkg?_modPkg_some h _ fun _ => rfl

/-! ### Which links are up -/

/-- Which links of a package are up. -/
def Pkg.ups (p : Pkg) : Vector Bool 18 := p.links.map Link.up

theorem Pkg.link_up (p : Pkg) (k : Nat) : (p.link k).up = p.ups[k]?.getD false := by
  unfold Pkg.link Pkg.ups
  rw [Vector.getElem?_map]
  cases p.links[k]? <;> rfl

/-- An update of a link that leaves it up or down. -/
theorem Pkg.ups_modLink (p : Pkg) (k : Nat) {f : Link → Link} (h : ∀ l, (f l).up = l.up) : (p.modLink k f).ups = p.ups := by
  ext i hi
  simp only [Pkg.ups, Pkg.modLink, Vector.getElem_map, Vector.getElem_setIfInBounds]
  split
  · subst_vars
    rw [h, Pkg.link, Vector.getElem?_eq_getElem hi, Option.getD_some]
  · rfl

/-- What no flit changes: which links of which packages are up, and every byte. -/
def State.wires (s : State) : List (Nat × Vector Bool 18) × Mem × Mem × Mem × List Crew :=
  (s.pkgs.map (fun p => (p.num, p.ups)), s.ctl, s.ten, s.host, s.crews)

theorem State.wires_bytes {s t : State} (h : t.wires = s.wires) : SameBytes s t := by
  simp only [State.wires, Prod.mk.injEq] at h
  obtain ⟨-, hc, ht, hh, hk⟩ := h
  exact sameBytes_of_eq hc ht hh hk

/-- Where the wires agree, a package is found with the same links up. -/
theorem State.wires_up {s t : State} (h : t.wires = s.wires) {n : Nat} {p : Pkg} (hp : s.pkg? n = some p) :
    ∃ q, t.pkg? n = some q ∧ q.ups = p.ups := by
  have same := State.pkg?_map_congr (s := s) (t := t) (w := Pkg.ups) (congrArg Prod.fst h) n
  rw [hp, Option.map_some, Option.map_eq_some_iff] at same
  exact same

theorem State.wires_modLink (s : State) (n k : Nat) {f : Link → Link} (h : ∀ l, (f l).up = l.up) :
    (s.modPkg n (fun p => p.modLink k f)).wires = s.wires := by
  unfold State.wires
  rw [State.modPkg_map s n fun p => by rw [Pkg.ups_modLink p k h]; rfl]
  rfl

theorem State.wires_putFlit (s : State) (n k : Nat) (f : Flit) : (s.putFlit n k f).wires = s.wires := by
  unfold State.putFlit
  split
  · rfl
  · next p _ =>
    have sent : (s.modPkg n (fun p' => p'.modLink k (fun l => l.sent f s.aclk (s.farEnd p k).isSome))).wires = s.wires :=
      s.wires_modLink n k fun l => rfl
    simp only
    split <;> exact sent

theorem State.wires_sendFlit (s : State) (n k : Nat) (f : Flit) : (s.sendFlit n k f).wires = s.wires := by
  unfold State.sendFlit
  split
  · rfl
  · simp only
    split
    · exact s.wires_putFlit n k f
    · exact s.wires_modLink n k fun l => rfl

theorem State.wires_forward (s : State) (n : Nat) (f : Flit) : (s.forward n f).wires = s.wires := by
  unfold State.forward
  split
  · rfl
  · split
    · exact s.wires_sendFlit n _ f
    · rfl

theorem State.wires_sendTraffic (s : State) : s.sendTraffic.wires = s.wires := by
  unfold State.sendTraffic
  rw [foldl_keeps State.wires _ fun s (x : Nat × Flit) => s.wires_forward x.1 x.2]
  rfl

theorem State.wires_noteRoutes (s : State) : s.noteRoutes.wires = s.wires := by
  unfold State.noteRoutes State.wires
  simp only [List.map_map, Prod.mk.injEq, and_true]
  refine List.map_congr_left fun p _ => ?_
  simp only [Function.comp_apply]
  split <;> rfl

/-! ### A link that goes down -/

/-- A link taken down. -/
def Link.downed (l : Link) : Link := { l with up := false, fails := 0, used := Vector.replicate 6 0, wait := [], replay := [] }

/-- One end of a link taken down. -/
def State.endDown (s : State) (x : Nat × Nat) : State := s.modPkg x.1 (fun q => q.modLink x.2 Link.downed)

theorem State.pkg?_endDown {s : State} {n : Nat} {p : Pkg} (h : s.pkg? n = some p) (x : Nat × Nat) :
    (s.endDown x).pkg? n = some (if n = x.1 then p.modLink x.2 Link.downed else p) := by
  split
  · subst_vars
    exact State.pkg?_modLink h x.2 _
  · next hn =>
    rw [← h]
    exact State.pkg?_modPkg_ne s x.1 n _ (fun q hq => hq) hn

theorem State.pkg?_endDown_same {s : State} {n k : Nat} {p : Pkg} (h : s.pkg? n = some p) (hk : k < 18) :
    ∃ q, (s.endDown (n, k)).pkg? n = some q ∧ (q.link k).up = false := by
  refine ⟨_, State.pkg?_endDown h (n, k), ?_⟩
  rw [if_pos rfl, Pkg.link_modLink_same p _ hk]
  rfl

/-- A link that is down stays down when an end goes down. -/
theorem State.pkg?_endDown_down {s : State} {n k : Nat} {p : Pkg} (h : s.pkg? n = some p) (hd : (p.link k).up = false)
    (x : Nat × Nat) : ∃ q, (s.endDown x).pkg? n = some q ∧ (q.link k).up = false := by
  refine ⟨_, State.pkg?_endDown h x, ?_⟩
  split
  · simp only [Pkg.link, Pkg.modLink, Vector.getElem?_setIfInBounds] at hd ⊢
    split
    · split <;> rfl
    · exact hd
  · exact hd

theorem State.linkDown_wires {s : State} {n k : Nat} {p : Pkg} (h : s.pkg? n = some p) :
    (s.linkDown n k).wires = (((n, k) :: (s.farEnd p k).toList).foldl State.endDown s).wires := by
  unfold State.linkDown
  simp only [h]
  rw [State.wires_sendTraffic]
  exact State.wires_noteRoutes _

/-- R290, R292: a link goes down at both ends, and no byte changes. -/
theorem State.linkDown_spec {s : State} {n k : Nat} {p : Pkg} (h : s.pkg? n = some p) (hk : k < 18) :
    ∃ q, (s.linkDown n k).pkg? n = some q ∧ (q.link k).up = false ∧ SameBytes s (s.linkDown n k) ∧
      ∀ x r, s.farEnd p k = some x → s.pkg? x.1 = some r → x.2 < 18 →
        ∃ r', (s.linkDown n k).pkg? x.1 = some r' ∧ (r'.link x.2).up = false := by
  have wires := State.linkDown_wires (k := k) h
  generalize s.linkDown n k = t at wires
  have found {m j : Nat} {u : State} (hu : t.wires = u.wires)
      (hm : ∃ q, u.pkg? m = some q ∧ (q.link j).up = false) : ∃ q, t.pkg? m = some q ∧ (q.link j).up = false := by
    obtain ⟨q, hq, hd⟩ := hm
    obtain ⟨r, hr, hups⟩ := State.wires_up hu hq
    exact ⟨r, hr, by rw [Pkg.link_up, hups, ← Pkg.link_up, hd]⟩
  have near := State.pkg?_endDown_same h hk
  cases hx : s.farEnd p k with
  | none =>
    simp only [hx, Option.toList_none, List.foldl_cons, List.foldl_nil] at wires
    obtain ⟨q, hq, hd⟩ := found wires near
    have bytes : SameBytes s t := State.wires_bytes (s := s.endDown (n, k)) wires
    exact ⟨q, hq, hd, bytes, by simp⟩
  | some x =>
    simp only [hx, Option.toList_some, List.foldl_cons, List.foldl_nil] at wires
    obtain ⟨q0, hq0, hd0⟩ := near
    obtain ⟨q, hq, hd⟩ := found wires (State.pkg?_endDown_down hq0 hd0 x)
    have bytes : SameBytes s t := State.wires_bytes (s := (s.endDown (n, k)).endDown x) wires
    refine ⟨q, hq, hd, bytes, ?_⟩
    rintro _ r ⟨rfl⟩ hr hx2
    exact found wires (State.pkg?_endDown_same (State.pkg?_endDown hr (n, k)) hx2)

end Sys2Proof.Machine
end

section
/-! Events of the links (R289 to R292). -/
namespace Sys2Proof.Machine
open Sys2Proof.Safety

/-- The books of a link's end after a flit has come in. -/
def State.flitGot (s : State) (pkg k fails : Nat) (seq : BitVec 16) : State :=
  s.modPkg pkg (fun q => q.modLink k (fun l => { l with lastRx := s.aclk, fails := fails, seq := seq }))

/-- The flit that a failed one was: the oldest that its sender keeps, else as its fields say (notes/assumptions/98.md). -/
def State.failedFlit (s : State) (p : Pkg) (k : Nat) (f : List Byte) : BitVec 16 × Flit :=
  ((s.sentTo p k).head?).getD (BitVec.ofNat 16 (blkU f 6 2), flitOf f)

section
variable {s : State} {pkg k : Nat} {p : Pkg} {f : List Byte} (h : s.pkg? pkg = some p) (hk : k < 18)
  (hup : (p.link k).up = true)
include h hk hup

theorem flitReceive_good (hlen : f.length = 256) (hok : flitOk f = true) :
    exec (.flitReceive pkg k f) s = .next (((s.flitGot pkg k 0 (BitVec.ofNat 16 (blkU f 6 2))).unreplay p k
      (BitVec.ofNat 16 (blkU f 6 2))).acceptFlit pkg k (s.arrived p k f)) := by
  simp [execFlitReceive, h, hk, hup, hlen, hok, State.flitGot]

theorem flitReceive_lone (hlen : f.length = 256) (hok : flitOk f = false) (hn : (p.link k).fails + 1 < 8) (hs : s.sentTo p k = []) :
    exec (.flitReceive pkg k f) s = .next (s.flitGot pkg k ((p.link k).fails + 1) (p.link k).seq) := by
  simp [execFlitReceive, h, hk, hup, hlen, hok, hn, hs, State.flitGot]

/-- R290: a failed flit comes again from its sender's replay buffer. -/
theorem flitReceive_again (hlen : f.length = 256) (hok : flitOk f = false) (hn : (p.link k).fails + 1 < 8) (hs : s.sentTo p k ≠ []) (ha : s.agenda = []) :
    exec (.flitReceive pkg k f) s = .next { s.flitGot pkg k ((p.link k).fails + 1) (p.link k).seq with
      agenda := [.flit pkg k ((s.failedFlit p k f).2.bytes (s.failedFlit p k f).1.toNat)] } := by
  simp [execFlitReceive, h, hk, hup, hlen, hok, hn, hs, State.flitGot, State.resend, State.failedFlit, ha]

/-- R290: the eighth failure of a flit of VC2 or VC3 drops it. -/
theorem flitReceive_drops (hlen : f.length = 256) (hok : flitOk f = false) (hn : 8 ≤ (p.link k).fails + 1)
    (hv : (s.failedFlit p k f).2.vc = 2 ∨ (s.failedFlit p k f).2.vc = 3) :
    exec (.flitReceive pkg k f) s =
      .next ((s.flitGot pkg k 0 (p.link k).seq).dropFlit p k (s.failedFlit p k f)) := by
  have hn' : ¬(p.link k).fails + 1 < 8 := Nat.not_lt.mpr hn
  simp only [State.failedFlit] at hv
  simp [execFlitReceive, h, hk, hup, hlen, hok, hn', State.flitGot, State.failedFlit, hv]

/-- R290: the eighth failure of any other flit takes the link down. -/
theorem flitReceive_linkDown (hlen : f.length = 256) (hok : flitOk f = false) (hn : 8 ≤ (p.link k).fails + 1)
    (h2 : (s.failedFlit p k f).2.vc ≠ 2) (h3 : (s.failedFlit p k f).2.vc ≠ 3) :
    exec (.flitReceive pkg k f) s = .next (s.linkDown pkg k) := by
  have hn' : ¬(p.link k).fails + 1 < 8 := Nat.not_lt.mpr hn
  simp only [State.failedFlit] at h2 h3
  simp [execFlitReceive, h, hk, hup, hlen, hok, hn', h2, h3]

theorem linkTimeout_silent (hr : (p.link k).lastRx + 20800 ≤ s.aclk) :
    exec (.linkTimeout pkg k) s = .next (s.linkDown pkg k) := by
  simp [execLinkTimeout, h, hk, hup, Link.silent, linkQuiet, hr]

theorem keepaliveSend_idle (hr : (p.link k).lastTx + 1300 ≤ s.aclk) :
    exec (.keepaliveSend pkg k) s = .next (s.putFlit pkg k
      { vc := 5, kind := .keepAlive, dst := ((s.farEnd p k).map (fun x => x.1)).getD pkg, src := pkg, addr := 0, payload := [] }) := by
  simp [execKeepaliveSend, h, hk, hup, keepTime, hr]

end

/-! ### Flits on their way -/

section
variable {s : State} {pkg k : Nat} {p : Pkg} (f : Flit) (h : s.pkg? pkg = some p)
include h

theorem State.putFlit_out : (s.putFlit pkg k f).out = .flit pkg k (f.bytes (p.link k).txSeq.toNat) :: s.out := by
  unfold State.putFlit
  simp only [h]
  split <;> rfl

/-- R290: a flit that goes out is received at the far end, and stays in the replay buffer of its sender. -/
theorem State.putFlit_far (hk : k < 18) {x : Nat × Nat} (hx : s.farEnd p k = some x) :
    (s.putFlit pkg k f).agenda = s.agenda ++ [.flit x.1 x.2 (f.bytes (p.link k).txSeq.toNat)] ∧
      ∃ q, (s.putFlit pkg k f).pkg? pkg = some q ∧ (q.link k).replay = (p.link k).replay ++ [((p.link k).txSeq, f)] := by
  unfold State.putFlit
  simp only [h, hx]
  refine ⟨rfl, _, State.pkg?_modLink h k _, ?_⟩
  rw [Pkg.link_modLink_same p _ hk]
  rfl

end

/-- R292: what goes to a lost package, or comes from one, is gone. -/
theorem State.forward_lost {s : State} {f : Flit} (pkg : Nat) (h : s.lost.contains f.src = true ∨ s.lost.contains f.dst = true) :
    s.forward pkg f = s := by
  unfold State.forward
  rw [if_pos (by rw [Bool.or_eq_true]; exact h.symm)]

section
variable {s : State} {pkg : Nat} {f : Flit} (hs : s.lost.contains f.src = false) (hd : s.lost.contains f.dst = false)
include hs hd

/-- R290, R291, R293: a flit stays where it has no route, where it might overtake another, and while its line waits for a home. -/
theorem State.forward_held (h : s.nextHop pkg f.dst = none ∨ s.overtakes pkg f = true ∨
    (f.ofCtl = true ∧ f.addr.toNat / 2 ^ 33 ∈ s.promoting)) :
    s.forward pkg f = { s with traffic := s.traffic ++ [(pkg, f)] } := by
  have live : ¬(s.lost.contains f.dst || s.lost.contains f.src) = true := by rw [hs, hd]; simp
  rw [State.forward, if_neg live]
  rcases h with h | h | ⟨hc, hp⟩
  · simp [h]
  · simp [h]
  · have hw : s.homeStalls f = true := by simpa [State.homeStalls, hc] using hp
    simp [hw]

theorem State.forward_sent {j : Nat} (hj : s.nextHop pkg f.dst = some j) (ho : s.overtakes pkg f = false)
    (hw : ¬(f.ofCtl = true ∧ f.addr.toNat / 2 ^ 33 ∈ s.promoting)) : s.forward pkg f = s.sendFlit pkg j f := by
  have hw : s.homeStalls f = false := by
    rw [State.homeStalls, Bool.and_eq_false_iff]
    by_cases hc : f.ofCtl = true
    · exact .inr (by simpa using fun hp => hw ⟨hc, hp⟩)
    · exact .inl (by simpa using hc)
  have live : ¬(s.lost.contains f.dst || s.lost.contains f.src) = true := by rw [hs, hd]; simp
  rw [State.forward, if_neg live]
  simp [ho, hw, hj]

end

/-- R291: a flit might overtake an earlier one of its channel, source and destination that has still to be sent. -/
theorem State.overtakes_earlier {s : State} {pkg : Nat} {f : Flit} {x : Nat × Flit} (hx : x ∈ s.traffic) (h : x.2.before f = true) :
    s.overtakes pkg f = true := by
  have : s.traffic.any (fun x => x.2.before f) = true := List.any_eq_true.mpr ⟨x, hx, h⟩
  simp [State.overtakes, this]

/-- R289: the credit that goes back for a flit. -/
def Flit.back (f : Flit) (pkg : Nat) : Flit := { vc := f.vc, kind := .credit, dst := f.src, src := pkg, addr := 0, payload := [] }

theorem State.acceptFlit_lost {s : State} {f : Flit} (pkg k : Nat) (h : s.lost.contains f.src = true) :
    s.acceptFlit pkg k f = if f.counted then s.putFlit pkg k (f.back pkg) else s := by
  simp only [State.acceptFlit, h, if_true]
  rfl

theorem State.acceptFlit_alive (s : State) (pkg k : Nat) {f : Flit} (hk : f.kind = .keepAlive) : s.acceptFlit pkg k f = s := by
  simp [State.acceptFlit, Flit.counted, hk]

section
variable {s : State} {pkg k : Nat} {f : Flit} (hs : s.lost.contains f.src = false)
include hs

/-- R289, R291: a flit that takes a credit gives it back, and goes on where it is for another package. -/
theorem State.acceptFlit_counted (hc : f.kind ≠ .credit) (ha : f.kind ≠ .keepAlive) :
    s.acceptFlit pkg k f =
      if f.dst = pkg then s.putFlit pkg k (f.back pkg) else (s.putFlit pkg k (f.back pkg)).forward pkg f := by
  have hn : f.counted = true := by simp [Flit.counted, hc, ha]
  have live : f.src ∉ s.lost := by simpa using hs
  simp [State.acceptFlit, live, hn, hc, Flit.back]

/-- R289: a credit that nothing waits for. -/
theorem State.acceptFlit_credit {p : Pkg} (h : s.pkg? pkg = some p) (hk : k < 18) (hc : f.kind = .credit)
    (hw : ∀ g ∈ (p.link k).wait, g.vc ≠ f.vc) : s.acceptFlit pkg k f = s.modPkg pkg (fun q => q.modLink k
      (fun l => { l with used := l.used.setIfInBounds f.vc (l.used[f.vc]?.getD 0 - 1) })) := by
  have none_waits : (p.link k).wait.find? (fun g => g.vc == f.vc) = none := by simpa using hw
  have taken := State.pkg?_modLink h k (fun l => { l with used := l.used.setIfInBounds f.vc (l.used[f.vc]?.getD 0 - 1) })
  have live : f.src ∉ s.lost := by simpa using hs
  simp [State.acceptFlit, live, hc, State.takeCredit, taken, Pkg.link_modLink_same p _ hk, none_waits]

end

/-! ### A chunk dropped (R290) -/

theorem State.dropChunk_none (s : State) {f : Flit} (h : f.cmd = none) : s.dropChunk f = s := by
  simp [State.dropChunk, h]

/-- R290: the command whose chunk is dropped stops where it is, with ENGINE_FAULT where it had no fault before. -/
theorem State.dropChunk_running {s : State} {f : Flit} {i : Nat} {e : Cmd} (hf : f.cmd = some i) (he : s.cmd? i = some e)
    (hr : e.phase = .running) (hc : e.kind ≠ .coll) :
    s.dropChunk f = s.fresh.2.modCmd i (fun c => { (c.stopped s.nextId Cause.engineFault 0) with sent := false }) := by
  have hi : e.inst = i := by simpa using List.find?_some he
  simp [State.dropChunk, hf, he, hr, hc, hi]

theorem State.dropChunk_stops {s : State} {f : Flit} {i : Nat} {e : Cmd} (hf : f.cmd = some i) (he : s.cmd? i = some e)
    (hc : e.kind ≠ .coll) (hr : e.phase = .running) :
    ∃ t d, s.dropChunk f = t ∧ SameBytes s t ∧ t.cmd? i = some d ∧ d.phase = .ended ∧ d.ivec = e.ivec ∧ d.sent = false ∧
      ∃ z, d.fault = some z ∧ z.complete = false ∧ z.ivec = e.stopVec ∧ (e.fault = none → z.cause.toNat = Cause.engineFault) := by
  refine ⟨_, { (e.stopped s.nextId Cause.engineFault 0) with sent := false }, State.dropChunk_running hf he hr hc,
    sameBytes_of_eq rfl rfl rfl rfl, ?_, rfl, rfl, rfl, ?_⟩
  · have found := List.modFirst_find_same (fun c : Cmd => c.inst == i)
      (fun c => { (c.stopped s.nextId Cause.engineFault 0) with sent := false }) s.cmds fun c hi => hi
    rw [show s.cmds.find? (fun c => c.inst == i) = some e from he] at found
    exact found
  · cases hz : e.fault with
    | none => exact ⟨_, by simp only [Cmd.stopped, hz]; rfl, rfl, rfl, fun _ => rfl⟩
    | some g => exact ⟨_, by simp only [Cmd.stopped, hz]; rfl, rfl, rfl, by simp⟩

end Sys2Proof.Machine
end

section
/-! What goes from one package to another (R194, R289). -/
namespace Sys2Proof.Machine

/-- Bytes cut into pieces of 232, as many as they need, are the bytes. -/
theorem flatMap_pieces (bs : List Byte) (m : Nat) :
    (List.range m).flatMap (fun i => (bs.drop (232 * i)).take 232) = bs.take (232 * m) := by
  induction m with
  | zero => rfl
  | succ m ih =>
    rw [List.range_succ, List.flatMap_append, ih, List.flatMap_singleton, ← List.take_add]
    rfl

theorem flitsOf_payload (vc : Nat) (k : FlitKind) (src dst addr : Nat) (bs : List Byte) :
    (flitsOf vc k src dst addr bs).flatMap Flit.payload = bs := by
  rw [flitsOf, List.flatMap_map, flatMap_pieces, List.take_of_length_le]
  omega

theorem flitsOf_fields {vc : Nat} {k : FlitKind} {src dst addr : Nat} {bs : List Byte} {f : Flit}
    (h : f ∈ flitsOf vc k src dst addr bs) :
    f.vc = vc ∧ f.kind = k ∧ f.src = src ∧ f.dst = dst ∧ f.payload.length ≤ 232 := by
  obtain ⟨i, -, rfl⟩ := List.mem_map.mp h
  exact ⟨rfl, rfl, rfl, rfl, by simp⟩

theorem flitsOf_ne_nil (vc : Nat) (k : FlitKind) (src dst addr : Nat) (bs : List Byte) :
    flitsOf vc k src dst addr bs ≠ [] := by
  simp only [flitsOf, ne_eq, List.map_eq_nil_iff, List.range_eq_nil]
  omega

/-- R291: flits take their places in the order of sending, and change in nothing else. -/
theorem State.mem_placed {s : State} {l : List Flit} {g : Flit} (h : g ∈ s.placed l) : ∃ f ∈ l, ∃ n, g = { f with ord := n } := by
  obtain ⟨x, hx, rfl⟩ := List.mem_map.mp h
  exact ⟨x.1, List.fst_mem_of_mem_zipIdx hx, _, rfl⟩

theorem State.placed_mem {s : State} {l : List Flit} {f : Flit} (h : f ∈ l) : ∃ n, { f with ord := n } ∈ s.placed l := by
  obtain ⟨i, hi⟩ := List.mem_iff_getElem?.mp h
  exact ⟨_, List.mem_map.mpr ⟨(f, i), List.mem_zipIdx_iff_getElem?.mpr hi, rfl⟩⟩

theorem State.placed_payload (s : State) (l : List Flit) : (s.placed l).flatMap Flit.payload = l.flatMap Flit.payload := by
  rw [State.placed, List.flatMap_map]
  show l.zipIdx.flatMap (fun x => x.1.payload) = _
  rw [← List.flatMap_map Prod.fst Flit.payload, List.zipIdx_map_fst]

theorem State.placed_ne_nil {s : State} {l : List Flit} (h : l ≠ []) : s.placed l ≠ [] := by
  simpa [State.placed] using h

/-- Flits of one source come up there, in order. -/
theorem State.sendOut_from {s : State} {l : List Flit} {src : Nat} (h : ∀ f ∈ l, f.src = src) :
    s.sendOut l = { s with traffic := s.traffic ++ (s.placed l).map (fun f => (src, f)) } := by
  rw [State.sendOut_eq, List.map_congr_left fun g hg => ?_]
  obtain ⟨f, hf, n, rfl⟩ := State.mem_placed hg
  rw [← h f hf]

/-- R289: bytes to another package go in flits of at most 232 of them. -/
theorem State.carry_flits (s : State) (vc : Nat) (kind : FlitKind) {src dst : Nat} (addr : Nat) (bs : List Byte) (h : src ≠ dst) :
    ∃ fs, s.carry vc kind src dst addr bs = { s with traffic := s.traffic ++ fs.map (fun f => (src, f)) } ∧
      fs ≠ [] ∧ fs.flatMap Flit.payload = bs ∧ ∀ f ∈ fs,
        f.vc = vc ∧ f.kind = kind ∧ f.src = src ∧ f.dst = dst ∧ f.payload.length ≤ 232 := by
  refine ⟨s.placed (flitsOf vc kind src dst addr bs), ?_, State.placed_ne_nil (flitsOf_ne_nil vc kind src dst addr bs), ?_, fun g hg => ?_⟩
  · rw [State.carry, if_neg h, State.sendOut_from fun f hf => (flitsOf_fields hf).2.2.1]
  · rw [State.placed_payload, flitsOf_payload]
  · obtain ⟨f, hf, n, rfl⟩ := State.mem_placed hg
    have fields := flitsOf_fields hf
    exact fields

/-- R194: what a package wrote goes to the mirror on VC4, under its writer's number. -/
theorem State.carryMirror_flits (s : State) (owner : Nat) {src dst : Nat} (addr : Nat) (bs : List Byte) (h : src ≠ dst) :
    ∃ fs : List Flit, s.carryMirror owner src dst addr bs = { s with traffic := s.traffic ++ fs.map (fun f => (src, f)) } ∧
      fs.flatMap Flit.payload = bs ∧ ∀ f ∈ fs,
        f.vc = 4 ∧ f.kind = .data ∧ f.src = src ∧ f.dst = dst ∧ f.owner = some owner := by
  have fields : ∀ f ∈ (flitsOf 4 .data src dst addr bs).map (fun f => { f with owner := some owner }),
      f.vc = 4 ∧ f.kind = .data ∧ f.src = src ∧ f.dst = dst ∧ f.owner = some owner := by
    intro f hf
    obtain ⟨g, hg, rfl⟩ := List.mem_map.mp hf
    obtain ⟨hv, hk, hs, hd, -⟩ := flitsOf_fields hg
    exact ⟨hv, hk, hs, hd, rfl⟩
  refine ⟨s.placed ((flitsOf 4 .data src dst addr bs).map (fun f => { f with owner := some owner })), ?_, ?_, fun g hg => ?_⟩
  · rw [State.carryMirror, if_neg h, State.sendOut_from fun f hf => (fields f hf).2.2.1]
  · rw [State.placed_payload, List.flatMap_map]
    exact flitsOf_payload 4 .data src dst addr bs
  · obtain ⟨f, hf, n, rfl⟩ := State.mem_placed hg
    exact fields f hf

/-! ### Requests and answers -/

/-- R289: bytes for tensor space go on VC2 and are answered on VC4. -/
theorem State.exchange_ten (s : State) (src addr : Nat) (bs : List Byte) : s.exchange .ten src addr bs [] =
    (s.carry 2 (if bs.isEmpty then .request else .data) src (s.homeAt .ten addr) addr bs).carry 4 .response
      (s.homeAt .ten addr) src addr [] := by
  simp [State.exchange, State.mirroredAt, Space.channels]

/-- R289: a read of control space goes on VC0 and is answered on VC1. -/
theorem State.exchange_ctl_read (s : State) (src addr : Nat) (bs : List Byte) : s.exchange .ctl src addr [] bs =
    (s.carry 0 .request src (s.homeAt .ctl addr) addr []).carry 1 .response (s.homeAt .ctl addr) src addr bs := by
  simp [State.exchange, State.mirroredAt, Space.channels]

/-- R194, R289: a write of control space goes on to the mirror of its home before it is answered. -/
theorem State.exchange_ctl_write {s : State} {src addr : Nat} {bs : List Byte} {p : Pkg} (h : s.pkg? (s.homeAt .ctl addr) = some p)
    (hb : bs ≠ []) : s.exchange .ctl src addr bs [] =
      (((s.carry 0 .request src (s.homeAt .ctl addr) addr bs).carryMirror src p.num p.mirror addr bs).carry 1 .response p.mirror
        p.num addr []).carry 1 .response (s.homeAt .ctl addr) src addr [] := by
  obtain ⟨l, hl⟩ := s.carry_eq 0 .request src (s.homeAt .ctl addr) addr bs
  have found : ({ s with traffic := l } : State).pkg? (({ s with traffic := l } : State).homeAt .ctl addr) = some p := h
  simp only [State.exchange, State.mirroredAt, Space.channels, hl, State.mirrored, found]
  simp [hb]

end Sys2Proof.Machine
end

section
/-! Errors (R277, R279). -/
namespace Sys2Proof.Machine

/-! ### Poison of a unit -/

theorem Agent.vreg_some {a : Agent} {r : Nat} (hr : r < 128) (l : Nat) : a.vreg r l = (a.v[r])[l]?.getD 0 := by
  unfold Agent.vreg
  rw [Vector.getElem?_eq_getElem hr]

theorem Agent.poisonLane_eq {a : Agent} {r l : Nat} (hr : r < 128) : a.poisonLane r l =
    { a with v := a.v.setIfInBounds r ((a.v[r]).setIfInBounds l poisonWord), vpoison := setInsert (32 * r + l) a.vpoison } := by
  unfold Agent.poisonLane
  rw [Vector.getElem?_eq_getElem hr]

/-- R277: a poisoned lane of a register reads as 0x7FC00BAD. -/
theorem Agent.poisonLane_same (a : Agent) {r l : Nat} (hr : r < 128) (hl : l < 32) :
    (a.poisonLane r l).vreg r l = 0x7FC00BAD := by
  rw [Agent.vreg_some hr, Agent.poisonLane_eq hr]
  simp [hl, poisonWord]

/-- R277: every other lane and register is as it was. -/
theorem Agent.poisonLane_other (a : Agent) {r l u v : Nat} (hr : r < 128) (h : u ≠ r ∨ v ≠ l) :
    (a.poisonLane r l).vreg u v = a.vreg u v := by
  by_cases hu : u = r
  · subst hu
    have hv : l ≠ v := fun e => h.elim (fun h => h rfl) (fun h => h e.symm)
    rw [Agent.vreg_some hr, Agent.vreg_some hr, Agent.poisonLane_eq hr]
    simp [hv]
  · simp [Agent.poisonLane_eq hr, Agent.vreg, Ne.symm hu]

/-- R277: the four granules of a bead. -/
theorem Crew.poisonBeads_bead (c : Crew) (n : Nat) : c.poisonBeads (16 * n) 16 =
    { c with poison := [4 * n, 4 * n + 1, 4 * n + 2, 4 * n + 3].foldl (fun x y => setInsert y x) c.poison } := by
  have bead : beadsOf (16 * n) 16 = [n] := by
    have h : n + 1 - n = 1 := by omega
    rw [beadsOf, show 16 * n / 16 = n by omega, show (16 * n + 16 - 1) / 16 = n by omega, rangeIncl, h]
    rfl
  have granules : granulesOf (16 * n) 16 = [4 * n, 4 * n + 1, 4 * n + 2, 4 * n + 3] := by
    have h : 4 * n + 3 + 1 - 4 * n = 4 := by omega
    rw [granulesOf, show 16 * n / 4 = 4 * n by omega, show (16 * n + 16 - 1) / 4 = 4 * n + 3 by omega, rangeIncl, h]
    rfl
  rw [Crew.poisonBeads, bead]
  simp only [List.foldl_cons, List.foldl_nil, granules]

/-! ### Errors counted -/

/-- R279: one more correctable error. -/
def State.countCe (s : State) (pkg : Nat) : State :=
  s.modPkg pkg (fun q => { q with mp := { q.mp with errCe := satInc q.mp.errCe } })

/-- R279: one more uncorrectable error. -/
def State.countUe (s : State) (pkg : Nat) : State :=
  s.modPkg pkg (fun q => { q with mp := { q.mp with errUe := satInc q.mp.errUe } })

theorem eccCorrectable_nowhere {s : State} {pkg : Nat} {u : EccUnit} (h : s.unitOn pkg u = true) (hu : unitPage u = none) :
    exec (.eccCorrectable pkg u) s = .next (s.countCe pkg) := by
  simp [execEccCorrectable, h, hu, State.countCe]

theorem eccUncorrectable_nowhere {s : State} {pkg : Nat} {u : EccUnit} (h : s.unitOn pkg u = true) (hu : unitPage u = none) :
    exec (.eccUncorrectable pkg u) s = .next ((s.countUe pkg).poisonUnit pkg u) := by
  simp [execEccUncorrectable, h, hu, State.countUe]

theorem eccUncorrectable_page {s : State} {pkg k : Nat} {u : EccUnit} (h : s.unitOn pkg u = true) (hu : unitPage u = some k) :
    exec (.eccUncorrectable pkg u) s = .next (((s.countUe pkg).poisonUnit pkg u).askRetire pkg k) := by
  simp [execEccUncorrectable, h, hu, State.countUe]

theorem State.pkg?_countUe {s : State} {pkg : Nat} {p : Pkg} (h : s.pkg? pkg = some p) :
    (s.countUe pkg).pkg? pkg = some { p with mp := { p.mp with errUe := satInc p.mp.errUe } } :=
  State.pkg?_modPkg_some h _ fun _ => rfl

/-- R279, R288: of a page that is retired, or that the host retires, the MP writes no byte and counts no error. -/
theorem State.askRetire_host {s : State} {pkg k : Nat} {p : Pkg} (h : s.pkg? pkg = some p)
    (hr : p.retired.contains k = true ∨ p.mp.ret = true) :
    ∃ q, (s.askRetire pkg k).pkg? pkg = some q ∧ q.mp = p.mp ∧ (s.askRetire pkg k).ctlPoison = s.ctlPoison ∧
      (s.askRetire pkg k).tenPoison = s.tenPoison := by
  unfold State.askRetire
  simp only [h]
  split
  · exact ⟨p, h, rfl, rfl, rfl⟩
  · next open_ =>
    have ret : p.mp.ret = true := hr.resolve_left fun hc => open_ (by rw [hc]; rfl)
    simp only [ret, Bool.not_true, Bool.false_eq_true, if_false]
    exact ⟨_, State.pkg?_modPkg_some h _ fun _ => rfl, rfl, rfl, rfl⟩

/-- R279: a page that has no more errors than PGTHR stays. -/
theorem State.testPage_stays {s : State} {pkg k : Nat} {p : Pkg} (h : s.pkg? pkg = some p)
    (hc : p.ceCount k s.aclk ≤ p.mp.pgthr.toNat) : s.testPage pkg k = s := by
  unfold State.testPage
  simp only [h]
  rw [if_neg (Nat.not_lt.mpr hc)]

theorem State.testPage_asks {s : State} {pkg k : Nat} {p : Pkg} (h : s.pkg? pkg = some p)
    (hc : p.mp.pgthr.toNat < p.ceCount k s.aclk) : s.testPage pkg k = s.askRetire pkg k := by
  unfold State.testPage
  simp only [h]
  rw [if_pos hc]

/-- R279: a correctable error of a page of control space, which does not retire it. -/
theorem eccCorrectable_ctl {s : State} {pkg l : Nat} {p : Pkg} (h : s.pkg? pkg = some p) (hu : s.unitOn pkg (.ctl l) = true)
    (hc : (p.logCe (pageId .ctl (128 * l)) s.aclk).ceCount (pageId .ctl (128 * l)) s.aclk ≤ p.mp.pgthr.toNat) :
    exec (.eccCorrectable pkg (.ctl l)) s =
      .next ((s.countCe pkg).modPkg pkg (fun q => q.logCe (pageId .ctl (128 * l)) s.aclk)) := by
  have counted : (s.countCe pkg).pkg? pkg = some _ := State.pkg?_modPkg_some h _ fun _ => rfl
  have logged := State.pkg?_modPkg_some counted (fun q => q.logCe (pageId .ctl (128 * l)) s.aclk) fun _ => rfl
  have stays := State.testPage_stays logged (k := pageId .ctl (128 * l)) hc
  simp only [exec_eccCorrectable, execEccCorrectable, hu, Bool.not_true, Bool.false_eq_true, if_false, unitPage]
  exact congrArg _ stays

/-! ### ERR_CFG -/

/-- R279: the thresholds that a word of ERR_CFG names. -/
def Pkg.errCfg (p : Pkg) (v : W) : Pkg :=
  { p with mp := { p.mp with
    window := BitVec.ofNat 16 v.toNat
    pgthr := BitVec.ofNat 4 (v.toNat / 2 ^ 16)
    bkthr := BitVec.ofNat 4 (v.toNat / 2 ^ 20) } }

/-- A field of a word, as a number. -/
theorem extractLsb'_eq_ofNat_div (v : W) (lo n : Nat) : v.extractLsb' lo n = BitVec.ofNat n (v.toNat / 2 ^ lo) :=
  BitVec.eq_of_toNat_eq (by simp [BitVec.extractLsb'_toNat, Nat.shiftRight_eq_div_pow])

theorem Pkg.writeErrCfg_eq (p : Pkg) {v : W} (h : v.toNat % 2 ^ 16 ≠ 0) : p.writeErrCfg v = p.errCfg v := by
  have hw : v.extractLsb' 0 16 ≠ 0 := by
    intro e
    apply h
    have := congrArg BitVec.toNat e
    simpa using this
  unfold Pkg.writeErrCfg
  simp only [hw, if_false]
  simp only [extractLsb'_eq_ofNat_div, Nat.pow_zero, Nat.div_one]
  rfl

/-- R279, R281: the host writes ERR_CFG, and what is logged is held to it. -/
theorem configRegisterWrite_errCfg {s : State} {pkg : Nat} {p : Pkg} (port : Nat) {v : W} (h : s.pkg? pkg = some p)
    (hf : p.formed = true) (hr : p.recovery = false) (hv : v.toNat % 2 ^ 16 ≠ 0) :
    exec (.configRegisterWrite pkg (.pf port) 0x300 (toLE 4 v.toNat)) s =
      .next ((s.modPkg pkg (fun _ => p.errCfg v)).testThresholds pkg) := by
  have word : BitVec.ofNat 32 (leNat (toLE 4 v.toNat)) = v := by
    rw [leNat_toLE, show 256 ^ 4 = 2 ^ 32 from rfl, Nat.mod_eq_of_lt v.isLt, BitVec.ofNat_toNat, BitVec.setWidth_eq]
  have written : p.mpWrite (some port) s.aclk 0x300 v = p.errCfg v := by
    rw [← Pkg.writeErrCfg_eq p hv]
    simp [Pkg.mpWrite, hr, Pkg.writeReg]
  have answers : p.answers = true := by simp [Pkg.answers, hf]
  simp only [exec_configRegisterWrite, execConfigRegisterWrite, State.whenAnswers, h, answers, if_true, toLE_length, ne_eq,
    not_true_eq_false, if_false, word, State.mpWrite]
  rw [State.modPkg_congr (g := fun _ => p.errCfg v) h written]

/-- R279: the pages with errors held to the thresholds, where none is retired. -/
theorem State.testThresholds_pages {s : State} {pkg : Nat} {q : Pkg} (h : s.pkg? pkg = some q) (hr : q.retired = []) :
    s.testThresholds pkg = (q.ceLog.map (fun x => x.1)).eraseDups.foldl (fun s k => s.testPage pkg k) s := by
  unfold State.testThresholds
  simp only [h, hr, List.map_nil]
  rfl

theorem State.testThresholds_stays {s : State} {pkg : Nat} {q : Pkg} (h : s.pkg? pkg = some q) (hr : q.retired = [])
    (hc : ∀ x ∈ q.ceLog, q.ceCount x.1 s.aclk ≤ q.mp.pgthr.toNat) : s.testThresholds pkg = s := by
  rw [State.testThresholds_pages h hr]
  refine List.foldlRecOn (motive := fun t => t = s) _ _ rfl fun t ht k hk => ?_
  obtain ⟨x, hx, rfl⟩ := List.mem_map.mp (List.mem_eraseDups.mp hk)
  rw [ht, State.testPage_stays h (hc x hx)]

/-- A list of one thing, without its repetitions. -/
theorem eraseDups_replicate {l : List Nat} {k : Nat} (hn : l ≠ []) (h : ∀ x ∈ l, x = k) : l.eraseDups = [k] := by
  cases l with
  | nil => exact absurd rfl hn
  | cons x r =>
    have rest : r.filter (fun b => !b == x) = [] := by
      rw [List.filter_eq_nil_iff]
      intro b hb
      simp [h b (by simp [hb]), h x (by simp)]
    rw [List.eraseDups_cons, rest, h x (by simp)]
    rfl

theorem State.testThresholds_asks {s : State} {pkg k : Nat} {q : Pkg} (h : s.pkg? pkg = some q) (hr : q.retired = [])
    (hn : q.ceLog ≠ []) (hk : ∀ x ∈ q.ceLog, x.1 = k) (hc : q.mp.pgthr.toNat < q.ceCount k s.aclk) :
    s.testThresholds pkg = s.askRetire pkg k := by
  have one : (q.ceLog.map (fun x => x.1)).eraseDups = [k] :=
    eraseDups_replicate (by simpa using hn) (by simpa using fun a b hx => hk (a, b) hx)
  rw [State.testThresholds_pages h hr, one, List.foldl_cons, List.foldl_nil, State.testPage_asks h hc]

/-- R279: the errors of a page that count under the thresholds that a word of ERR_CFG names. -/
theorem Pkg.ceCount_errCfg (p : Pkg) (v : W) (k now : Nat) : (p.errCfg v).ceCount k now =
    (p.ceLog.filter (fun x => x.1 == k && decide (now ≤ x.2 + v.toNat % 2 ^ 16 * 1300000000))).length := by
  rw [Pkg.ceCount, Pkg.ceRecent, List.filter_filter]
  rfl

end Sys2Proof.Machine
end

section
/-! Packages that start anew (R291, R298, R299): what goes with their work and their memory. -/
namespace Sys2Proof.Machine
open Sys2Proof.Safety

/-! ### Memory cleared -/

theorem Memory.read_below {a : Nat} : ∀ {m : Mem} {lo : Nat}, Memory.wfFrom lo m = true → a < lo → Memory.read m a = 0
  | [], _, _, _ => rfl
  | (k, x) :: r, lo, w, h => by
    obtain ⟨hk, -, -⟩ := Memory.wfFrom_cons.mp w
    simp [Memory.read, show k ≠ a by omega, show a < k by omega]

/-- What a memory reads where only the bytes of some addresses are left. -/
theorem Memory.read_filter (keep : Nat → Bool) (a : Nat) : ∀ {m : Mem} {lo : Nat}, Memory.wfFrom lo m = true →
    Memory.read (m.filter (fun x => keep x.1)) a = if keep a then Memory.read m a else 0
  | [], _, _ => by simp [Memory.read]
  | (k, x) :: r, lo, w => by
    obtain ⟨-, -, hr⟩ := Memory.wfFrom_cons.mp w
    have rest := Memory.read_filter keep a hr
    rw [List.filter_cons]
    rcases Nat.lt_trichotomy a k with h | rfl | h
    · have gone := Memory.read_below hr (a := a) (by omega)
      split
      · simp [Memory.read, show k ≠ a by omega, h]
      · simp [rest, gone, Memory.read, show k ≠ a by omega, h]
    · have gone := Memory.read_below hr (a := a) (by omega)
      split
      · simp [Memory.read]
      · next hk => simp [rest, hk]
    · have step (l : Mem) : Memory.read ((k, x) :: l) a = Memory.read l a := by
        simp [Memory.read, show k ≠ a by omega, show ¬a < k by omega]
      rw [step r]
      split
      · rw [step, rest]
      · exact rest

theorem Mem.read_clear {m : Mem} (w : Memory.wf m = true) (lo hi a : Nat) :
    Memory.read (m.clear lo hi) a = if lo ≤ a ∧ a < hi then 0 else Memory.read m a := by
  rw [Mem.clear, Memory.read_filter (fun k => decide (k < lo) || decide (hi ≤ k)) a w]
  by_cases h : lo ≤ a ∧ a < hi
  · rw [if_pos h, if_neg (by simp; omega)]
  · rw [if_neg h, if_pos (by simp; omega)]

/-! ### The work of a package dropped -/

theorem State.foldl_spoilBy (l : List Launch) (s : State) : ∃ x, l.foldl State.spoilBy s = { s with spoiled := x } := by
  induction l generalizing s with
  | nil => exact ⟨s.spoiled, rfl⟩
  | cons y r ih => exact ih (s.spoilBy y)

/-- R292: nothing of a package's work stays, and nothing else changes but it. -/
theorem State.dropPkgWork_spec (s : State) (n : Nat) :
    (s.dropPkgWork n).ctl = s.ctl ∧ (s.dropPkgWork n).ten = s.ten ∧ (s.dropPkgWork n).host = s.host ∧
      (s.dropPkgWork n).pkgs = s.pkgs ∧ (s.dropPkgWork n).agents = s.agents.filter (fun a => a.pkg != n) ∧
      (s.dropPkgWork n).crews = s.crews.filter (fun c => c.pkg != n) ∧
      (s.dropPkgWork n).launches = s.launches.filter (fun l => l.pkg != n) ∧
      (s.dropPkgWork n).cmds = s.cmds.filter (fun c => c.pkg != n) ∧
      (s.dropPkgWork n).cohTrs = s.cohTrs.filter (fun t => t.pkg != n) ∧
      (s.dropPkgWork n).homes = s.homes ∧ (s.dropPkgWork n).promoting = s.promoting ∧
      (s.dropPkgWork n).rebuilding = s.rebuilding := by
  obtain ⟨x, hx⟩ := State.foldl_spoilBy (s.launches.filter (fun l => l.pkg == n)) s
  unfold State.dropPkgWork
  rw [hx]
  and_intros <;> rfl

/-- R299: nothing of a package's work and no byte of its memory stays. -/
theorem State.wipe_spec (s : State) (n : Nat) :
    (s.wipe n).ctl = s.ctl.clear (n * 2 ^ 33) ((n + 1) * 2 ^ 33) ∧
      (s.wipe n).ten = s.ten.clear (n * 2 ^ 40) ((n + 1) * 2 ^ 40) ∧ (s.wipe n).pkgs = s.pkgs ∧
      (s.wipe n).crews = s.crews.filter (fun c => c.pkg != n) ∧
      (s.wipe n).launches = s.launches.filter (fun l => l.pkg != n) ∧
      (s.wipe n).cmds = s.cmds.filter (fun c => c.pkg != n) ∧
      (s.wipe n).cohTrs = s.cohTrs.filter (fun t => t.pkg != n) := by
  obtain ⟨hc, ht, -, hp, -, hk, hl, hm, hr, -⟩ := s.dropPkgWork_spec n
  exact ⟨congrArg (fun m : Mem => m.clear _ _) hc, congrArg (fun m : Mem => m.clear _ _) ht, hp, hk, hl, hm, hr⟩

/-- R299: where several packages start anew, the bytes of each of them are gone, and no others. -/
theorem State.foldl_wipe_read {f : State → Mem} {size : Nat}
    (hf : ∀ s n, f (s.wipe n) = (f s).clear (n * size) ((n + 1) * size)) (a : Nat) (l : List Pkg) {s : State}
    (w : Memory.wf (f s) = true) :
    ((∃ r ∈ l, r.num * size ≤ a ∧ a < (r.num + 1) * size) → Memory.read (f (l.foldl (fun s p => s.wipe p.num) s)) a = 0) ∧
      ((¬∃ r ∈ l, r.num * size ≤ a ∧ a < (r.num + 1) * size) →
        Memory.read (f (l.foldl (fun s p => s.wipe p.num) s)) a = Memory.read (f s) a) := by
  induction l generalizing s with
  | nil => simp
  | cons p r ih =>
    have w' : Memory.wf (f (s.wipe p.num)) = true := by
      rw [hf]
      exact Mem.wf_clear _ _ _ w
    obtain ⟨gone, stays⟩ := ih w'
    rw [List.foldl_cons]
    have here : Memory.read (f (s.wipe p.num)) a =
        if p.num * size ≤ a ∧ a < (p.num + 1) * size then 0 else Memory.read (f s) a := by
      rw [hf, Mem.read_clear w]
    by_cases hr : ∃ q ∈ r, q.num * size ≤ a ∧ a < (q.num + 1) * size
    · exact ⟨fun _ => gone hr, fun h => absurd (by obtain ⟨q, hq, ha⟩ := hr; exact ⟨q, by simp [hq], ha⟩) h⟩
    · rw [stays hr, here]
      refine ⟨fun ⟨q, hq, ha⟩ => ?_, fun h => if_neg fun ha => h ⟨p, by simp, ha⟩⟩
      rcases List.mem_cons.mp hq with rfl | hq
      · exact if_pos ha
      · exact absurd ⟨q, hq, ha⟩ hr

/-! ### Transitions that go on (R190) -/

/-- What the start of a transition leaves: everything but its side, which may go on, and the requests to the host. -/
structure CohFrame where
  ctl : Mem
  ten : Mem
  host : Mem
  crews : List Crew
  launches : List Launch
  cmds : List Cmd
  traffic : List (Nat × Flit)
  lists : List (Nat × Nat) × List Nat × List Nat × List Nat × List (Nat × Nat)
  agents : List (Nat × Option Cc)
  pkgs : List Pkg

def State.cohFrame (s : State) : CohFrame :=
  { ctl := s.ctl, ten := s.ten, host := s.host, crews := s.crews, launches := s.launches, cmds := s.cmds, traffic := s.traffic,
    lists := (s.homes, s.promoting, s.rebuilding, s.lost, s.detected), agents := s.agents.map (fun a => (a.pkg, a.cc)),
    pkgs := s.pkgs.map (fun p => { p with haReqs := [] }) }

theorem State.cohFrame_sideDone (s : State) (i : Nat) (slot : Bool) (n : Nat) : (s.sideDone i slot n).cohFrame = s.cohFrame := by
  unfold State.sideDone State.cohFrame
  rw [State.modAgent_agents, List.map_modFirst fun a => ?_]
  · rfl
  · split
    · cases slot <;> rfl
    · rfl

theorem State.cohFrame_modPkg (s : State) (n : Nat) {f : Pkg → Pkg}
    (h : ∀ p, ({ f p with haReqs := [] } : Pkg) = { p with haReqs := [] }) : (s.modPkg n f).cohFrame = s.cohFrame := by
  unfold State.cohFrame
  rw [State.modPkg_map s n h]
  rfl

theorem State.cohFrame_raiseHa (s : State) (pkg func vf : Nat) (addr data : DW) (ref_ : Nat) :
    (s.raiseHa pkg func vf addr data ref_).cohFrame = s.cohFrame :=
  s.cohFrame_modPkg pkg fun _ => rfl

/-- R189, R190: a transition that starts is complete at once, or waits to flip, or asks the host. -/
theorem State.cohBegin_cases (s : State) (t : CohTr) : ∃ l,
    s.cohBegin t = ({ s with cohTrs := l } : State).sideDone t.agent t.slot t.len ∨
    s.cohBegin t = { s with cohTrs := l } ∨
    ∃ data, s.cohBegin t = ({ s with cohTrs := l } : State).raiseHa t.pkg 3 0xFF t.va data t.id := by
  unfold State.cohBegin
  simp only
  split
  · exact ⟨_, .inl rfl⟩
  · cases s.pkg? t.pkg with
    | none => exact ⟨_, .inr (.inl rfl)⟩
    | some p =>
      simp only
      split
      · exact ⟨_, .inr (.inr ⟨_, rfl⟩)⟩
      · exact ⟨_, .inr (.inl rfl)⟩

theorem State.cohFrame_cohBegin (s : State) (t : CohTr) : (s.cohBegin t).cohFrame = s.cohFrame := by
  obtain ⟨l, h | h | ⟨data, h⟩⟩ := s.cohBegin_cases t
  · rw [h, State.cohFrame_sideDone]
    rfl
  · rw [h]
    rfl
  · rw [h, State.cohFrame_raiseHa]
    rfl

theorem State.cohFrame_cohWake (s : State) : s.cohWake.cohFrame = s.cohFrame := by
  unfold State.cohWake
  exact foldl_keeps State.cohFrame _ (fun s t => by split <;> simp only [State.cohFrame_cohBegin]) _ s

/-- The start of a transition leaves every package but its own as it is. -/
theorem State.pkg?_cohBegin {n : Nat} {t : CohTr} (ht : t.pkg ≠ n) (s : State) : (s.cohBegin t).pkg? n = s.pkg? n := by
  obtain ⟨l, h | h | ⟨data, h⟩⟩ := s.cohBegin_cases t
  · rw [h]
    rfl
  · rw [h]
    rfl
  · rw [h]
    exact State.pkg?_modPkg_ne { s with cohTrs := l } t.pkg n _ (fun p hp => hp) ht.symm

theorem State.pkg?_cohWake {s : State} {n : Nat} (h : ∀ t ∈ s.cohTrs, t.pkg ≠ n) : s.cohWake.pkg? n = s.pkg? n := by
  unfold State.cohWake
  refine List.foldlRecOn (motive := fun u : State => u.pkg? n = s.pkg? n) _ _ rfl fun u hu t ht => ?_
  split
  · exact hu
  · rw [State.pkg?_cohBegin (h t (List.mem_filter.mp ht).1), hu]

/-! ### Control cores (R295, R299) -/

/-- R295: a package has its sixteen control cores, started or halted. -/
theorem Pkg.mem_cores (p : Pkg) (id : Nat) (start : Bool) {k : Nat} (hk : k < 16) :
    ∃ a ∈ p.cores id start, ∃ c, a.pkg = p.num ∧ a.cc = some c ∧ c.num = k ∧ c.supervisor = true ∧ c.halted = !start :=
  ⟨_, List.mem_map.mpr ⟨k, List.mem_range.mpr hk, rfl⟩, _, rfl, rfl, rfl, rfl, rfl⟩

/-- R299 step 7: the control cores of packages that join start, unless their image did not verify. -/
theorem mem_startCores {p : Pkg} {k : Nat} (hk : k < 16) : ∀ {l : List Pkg} (id : Nat), p ∈ l →
    ∃ a ∈ startCores id l, ∃ c, a.pkg = p.num ∧ a.cc = some c ∧ c.num = k ∧ c.supervisor = true ∧ c.halted = p.recovery
  | q :: r, id, h => by
    rcases List.mem_cons.mp h with rfl | h
    · obtain ⟨a, ha, c, hp, hc, hn, hs, hh⟩ := p.mem_cores id (!p.recovery) hk
      exact ⟨a, List.mem_append_left _ ha, c, hp, hc, hn, hs, by rw [hh, Bool.not_not]⟩
    · obtain ⟨a, ha, spec⟩ := mem_startCores hk (id + 16) h
      exact ⟨a, List.mem_append_right _ ha, spec⟩

/-! ### PACKAGE_RESET -/

/-- The state that PACKAGE_RESET leaves. -/
def State.packageReset (s : State) (pkg : Nat) (q : Pkg) : State :=
  let s1 := ((s.wipe pkg).modPkg pkg (fun _ => q)).cohWake
  { s1 with agents := s1.agents ++ q.cores s1.nextId false, nextId := s1.nextId + 16 }

theorem packageReset_next {s : State} {pkg : Nat} {p : Pkg} (h : s.pkg? pkg = some p) :
    exec (.packageReset pkg) s = .next (s.packageReset pkg (p.bringUp s.aclk)) := by
  simp [execPackageReset, h, State.packageReset]

theorem State.packageReset_frame (s : State) (pkg : Nat) (q : Pkg) :
    (s.packageReset pkg q).ctl = (s.wipe pkg).ctl ∧ (s.packageReset pkg q).ten = (s.wipe pkg).ten ∧
      (s.packageReset pkg q).crews = (s.wipe pkg).crews ∧ (s.packageReset pkg q).launches = (s.wipe pkg).launches ∧
      (s.packageReset pkg q).cmds = (s.wipe pkg).cmds := by
  have frame := State.cohFrame_cohWake ((s.wipe pkg).modPkg pkg (fun _ => q))
  exact ⟨congrArg CohFrame.ctl frame, congrArg CohFrame.ten frame, congrArg CohFrame.crews frame,
    congrArg CohFrame.launches frame, congrArg CohFrame.cmds frame⟩

theorem State.packageReset_pkg {s : State} {pkg : Nat} {p q : Pkg} (h : s.pkg? pkg = some p) (hq : q.num = pkg) :
    (s.packageReset pkg q).pkg? pkg = some q := by
  obtain ⟨-, -, hp, -, -, -, ht⟩ := s.wipe_spec pkg
  have others : ∀ t ∈ ((s.wipe pkg).modPkg pkg (fun _ => q)).cohTrs, t.pkg ≠ pkg := by
    intro t hm
    rw [show ((s.wipe pkg).modPkg pkg (fun _ => q)).cohTrs = (s.wipe pkg).cohTrs from rfl, ht] at hm
    simpa using (List.mem_filter.mp hm).2
  have wiped : (s.wipe pkg).pkg? pkg = some p := by rw [State.pkg?, hp]; exact h
  show (State.cohWake _).pkg? pkg = some q
  rw [State.pkg?_cohWake others, State.pkg?_modPkg _ _ _ fun _ _ => hq, wiped, Option.map_some]

end Sys2Proof.Machine
end

section
/-! The formation of a domain (R17, R291, R298, R299). -/
namespace Sys2Proof.Machine
open Sys2Proof.Safety

/-! ### The members of a domain -/

/-- What the formation of a domain gives a package. -/
def Pkg.seat (p : Pkg) : Nat × Bool × Bool × Nat × Boot × Vector Link 18 :=
  (p.num, p.formed, p.recovery, p.mirror, p.boot, p.links)

theorem State.candidate_serial (s : State) (n : Nat) : (s.candidate n).boot.serial = n := by
  unfold State.candidate
  split
  · next p hp =>
    have serial : p.boot.serial = n := by simpa using List.find?_some hp
    split <;> exact serial
  · rfl

theorem State.mem_joining {s : State} {order : List Nat} {q : Pkg} (h : q ∈ s.joining order) :
    order[q.num]? = some q.boot.serial := by
  obtain ⟨i, hi, rfl⟩ := List.mem_map.mp h
  have lt : i < order.length := List.mem_range.mp (List.mem_filter.mp hi).1
  show order[i]? = some (s.candidate (order.getD i 0)).boot.serial
  rw [State.candidate_serial, List.getElem?_eq_getElem lt, List.getD_eq_getElem?_getD, List.getElem?_eq_getElem lt,
    Option.getD_some]

theorem Pkg.keeps_spec {p : Pkg} {order : List Nat} (h : p.keeps order = true) : order[p.num]? = some p.boot.serial := by
  simp only [Pkg.keeps, Bool.and_eq_true, beq_iff_eq] at h
  exact h.2

/-- R291: the members that a domain of these serial numbers keeps, and those that join it. -/
def State.members (s : State) (order : List Nat) : List Pkg := s.pkgs.filter (fun p => p.keeps order) ++ s.joining order

theorem State.mem_members {s : State} {order : List Nat} {q : Pkg} (h : q ∈ s.members order) :
    order[q.num]? = some q.boot.serial := by
  rcases List.mem_append.mp h with h | h
  · exact Pkg.keeps_spec (List.mem_filter.mp h).2
  · exact State.mem_joining h

/-- R291: every number of the domain is some member's. -/
theorem State.members_num (s : State) {order : List Nat} {i : Nat} (hi : i < order.length) :
    ∃ q ∈ s.members order, q.num = i := by
  cases hk : s.pkgs.any (fun p => p.keeps order && p.num == i) with
  | true =>
    obtain ⟨p, hp, hpi⟩ := List.any_eq_true.mp hk
    simp only [Bool.and_eq_true, beq_iff_eq] at hpi
    exact ⟨p, List.mem_append_left _ (List.mem_filter.mpr ⟨hp, hpi.1⟩), hpi.2⟩
  | false =>
    have joins : i ∈ (List.range order.length).filter (fun i => !(s.pkgs.any (fun p => p.keeps order && p.num == i))) :=
      List.mem_filter.mpr ⟨List.mem_range.mpr hi, by rw [hk]; rfl⟩
    exact ⟨_, List.mem_append_right _ (List.mem_map.mpr ⟨i, joins, rfl⟩), rfl⟩

theorem Link.joined_up (l : Link) (up keep : Bool) (now : Nat) : (l.joined up keep now).up = up := by
  unfold Link.joined
  split
  · next h => simp_all
  · rfl

/-- R291: a member's links are up where they lead to other members. -/
theorem Pkg.joined_link_up (p : Pkg) (order : List Nat) (now : Nat) {k : Nat} (hk : k < 18) :
    ((p.joined order now).link k).up = (Config.linkPeer p.boot.serial k).any (fun x => order.contains x.1) := by
  simp only [Pkg.link, Pkg.joined, Vector.getElem?_eq_getElem hk, Vector.getElem_ofFn, Option.getD_some, Link.joined_up]

theorem State.mem_aside {s : State} {order : List Nat} {q : Pkg} (h : q ∈ s.aside order) : q.formed = false ∧ q.recovery = true := by
  obtain ⟨x, hx, rfl⟩ := List.mem_map.mp h
  have kept := (List.mem_filter.mp (List.of_mem_zip (a := x.1) (b := x.2) hx).2).2
  simpa using kept

/-! ### DOMAIN_FORM -/

/-- What the packages say to one another changes what is on its way alone. -/
theorem State.agree_eq (s : State) (n : Nat) : ∃ l, s.agree n = { s with traffic := l } := by
  unfold State.agree
  refine List.foldlRecOn (motive := fun u : State => ∃ l, u = { s with traffic := l }) _ _ ⟨s.traffic, rfl⟩ fun u hu q _ => ?_
  obtain ⟨l, rfl⟩ := hu
  exact State.carry_eq _ ..

theorem State.foldl_agree_eq {α : Type} (g : α → Nat) (l : List α) (s : State) :
    ∃ m, l.foldl (fun s x => s.agree (g x)) s = { s with traffic := m } := by
  refine List.foldlRecOn (motive := fun u : State => ∃ m, u = { s with traffic := m }) _ _ ⟨s.traffic, rfl⟩ fun u hu x _ => ?_
  obtain ⟨m, rfl⟩ := hu
  obtain ⟨m', hm⟩ := State.agree_eq { s with traffic := m } (g x)
  exact ⟨m', hm⟩

/-- The machine without the work and the memory of the packages that a domain does not keep as they are. -/
def State.leavers (s : State) (order : List Nat) : State :=
  (s.pkgs.filter (fun p => !p.keeps order)).foldl (fun s p => s.wipe p.num) s

theorem noteRoutes_seat (s : State) : s.noteRoutes.pkgs.map Pkg.seat = s.pkgs.map Pkg.seat := by
  unfold State.noteRoutes
  rw [List.map_map]
  refine List.map_congr_left fun p _ => ?_
  simp only [Function.comp_apply]
  split <;> rfl

/-- Packages that agree but for their requests to the host have the same seats. -/
theorem cohFrame_seat {s t : State} (h : t.cohFrame = s.cohFrame) : t.pkgs.map Pkg.seat = s.pkgs.map Pkg.seat := by
  have same : (t.pkgs.map (fun p => ({ p with haReqs := [] } : Pkg))).map Pkg.seat =
      (s.pkgs.map (fun p => ({ p with haReqs := [] } : Pkg))).map Pkg.seat := congrArg (List.map Pkg.seat) (congrArg CohFrame.pkgs h)
  rwa [List.map_map, List.map_map] at same

/-- R291, R299: what DOMAIN_FORM leaves: the memory of the members that stay, the seats of the packages, and the control cores of those
that join. -/
theorem domainForm_next {s : State} {l : List Nat} (h0 : 0 < (s.admitted l).length) (h512 : (s.admitted l).length ≤ 512) :
    ∃ t, exec (.domainForm l) s = .next t ∧ t.ctl = (s.leavers (s.admitted l)).ctl ∧ t.ten = (s.leavers (s.admitted l)).ten ∧
      t.host = (s.leavers (s.admitted l)).host ∧ t.crews = (s.leavers (s.admitted l)).crews ∧
      t.pkgs.map Pkg.seat = ((s.members (s.admitted l)).map (fun p => p.joined (s.admitted l) s.aclk) ++
        s.aside (s.admitted l)).map Pkg.seat ∧
      t.agents.map (fun a => (a.pkg, a.cc)) = ((s.leavers (s.admitted l)).agents ++
        startCores (s.leavers (s.admitted l)).nextId (s.joining (s.admitted l) ++ s.aside (s.admitted l))).map
          (fun a => (a.pkg, a.cc)) := by
  have go : ¬((s.admitted l).isEmpty || decide (512 < (s.admitted l).length)) = true := by
    simp only [Bool.or_eq_true, List.isEmpty_iff_length_eq_zero, decide_eq_true_eq]
    omega
  simp only [exec_domainForm, execDomainForm]
  rw [if_neg go]
  refine ⟨_, rfl, ?_⟩
  generalize hs2 : State.noteRoutes _ = s2
  obtain ⟨m, hm⟩ := State.foldl_agree_eq (fun x : Nat × Nat => x.2) (s.admitted l).zipIdx s2
  rw [hm]
  have frame := State.cohFrame_cohWake { s2 with traffic := m }
  have seats := cohFrame_seat frame
  have agents := congrArg CohFrame.agents frame
  generalize State.cohWake _ = t at frame seats agents
  have hc := congrArg CohFrame.ctl frame
  have ht := congrArg CohFrame.ten frame
  have hh := congrArg CohFrame.host frame
  have hk := congrArg CohFrame.crews frame
  subst hs2
  exact ⟨hc, ht, hh, hk, seats.trans (noteRoutes_seat _), agents⟩

end Sys2Proof.Machine
end

section
/-! What of a domain no access, no resolution and no record changes: its homes, its losses, its packages with their partitions, and
whose its agents and commands are. -/
namespace Sys2Proof.Machine

/-- The packages of a domain with their partitions, its homes and losses (R292, R293), and the packages of its agents. -/
structure Roster where
  homes : List (Nat × Nat)
  promoting : List Nat
  rebuilding : List Nat
  lost : List Nat
  detected : List (Nat × Nat)
  pkgs : List (Nat × Vector Part 64)
  agents : List Nat

def State.roster (s : State) : Roster :=
  { homes := s.homes, promoting := s.promoting, rebuilding := s.rebuilding, lost := s.lost, detected := s.detected,
    pkgs := s.pkgs.map (fun p => (p.num, p.parts)), agents := s.agents.map Agent.pkg }

theorem State.lists_of_roster {s t : State} (h : t.roster = s.roster) :
    t.homes = s.homes ∧ t.promoting = s.promoting ∧ t.rebuilding = s.rebuilding ∧ t.lost = s.lost :=
  ⟨congrArg Roster.homes h, congrArg Roster.promoting h, congrArg Roster.rebuilding h, congrArg Roster.lost h⟩

/-- The roster and the commands are as they were. -/
structure State.Calm (s t : State) : Prop where
  roster : t.roster = s.roster
  cmds : t.cmds = s.cmds

namespace State.Calm

theorem refl (s : State) : s.Calm s := ⟨rfl, rfl⟩

theorem trans {s t u : State} (h : s.Calm t) (g : t.Calm u) : s.Calm u := ⟨g.roster.trans h.roster, g.cmds.trans h.cmds⟩

/-- A list of calm steps is calm. -/
theorem foldl {α : Type} {f : State → α → State} (h : ∀ (s : State) (x : α), s.Calm (f s x)) (l : List α) (s : State) : s.Calm (l.foldl f s) :=
  List.foldlRecOn (motive := fun t : State => s.Calm t) l f (refl s) fun t ht x _ => ht.trans (h t x)

theorem ite {s t u : State} {c : Prop} [Decidable c] (h : s.Calm t) (g : s.Calm u) : s.Calm (if c then t else u) := by
  split
  · exact h
  · exact g

end State.Calm

/-! ### Updates -/

theorem State.calm_modPkg (s : State) (n : Nat) {f : Pkg → Pkg} (h : ∀ p, ((f p).num, (f p).parts) = (p.num, p.parts)) :
    s.Calm (s.modPkg n f) := by
  have kept := State.modPkg_map s n (w := fun p => (p.num, p.parts)) h
  exact ⟨congrArg (fun l => { s.roster with pkgs := l }) kept, rfl⟩

theorem State.calm_mapPkgs (s : State) {f : Pkg → Pkg} (h : ∀ p, ((f p).num, (f p).parts) = (p.num, p.parts)) :
    s.Calm { s with pkgs := s.pkgs.map f } := by
  have kept : (s.pkgs.map f).map (fun p => (p.num, p.parts)) = s.pkgs.map (fun p => (p.num, p.parts)) := by
    rw [List.map_map]
    exact List.map_congr_left fun p _ => h p
  exact ⟨congrArg (fun l => { s.roster with pkgs := l }) kept, rfl⟩

theorem State.calm_modAgent (s : State) (i : Nat) {f : Agent → Agent} (h : ∀ a, (f a).pkg = a.pkg) : s.Calm (s.modAgent i f) := by
  have kept : (List.modFirst (fun a => a.id == i) f s.agents).map Agent.pkg = s.agents.map Agent.pkg := List.map_modFirst h _
  exact ⟨congrArg (fun l => { s.roster with agents := l }) kept, rfl⟩

/-- A frame whose agents are of the packages they were of. -/
theorem State.Calm.of_agents {s t : State} (h : t.agents.map Agent.pkg = s.agents.map Agent.pkg)
    (r : { t.roster with agents := [] } = { s.roster with agents := [] }) (c : t.cmds = s.cmds) : s.Calm t := by
  refine ⟨?_, c⟩
  rw [State.roster, State.roster, Roster.mk.injEq] at r ⊢
  obtain ⟨homes, promoting, rebuilding, lost, detected, pkgs, -⟩ := r
  exact ⟨homes, promoting, rebuilding, lost, detected, pkgs, h⟩

/-- An agent put in the place of one of its package. -/
theorem State.calm_setAgent {s : State} {a b : Agent} (ha : s.agent? b.id = some a) (hp : b.pkg = a.pkg) : s.Calm (s.setAgent b) := by
  have same : List.modFirst (fun x => x.id == b.id) (fun _ => b) s.agents =
      List.modFirst (fun x => x.id == b.id) (fun x => { b with pkg := x.pkg }) s.agents := by
    refine List.modFirst_congr fun x hx => ?_
    rw [← Option.some.inj (ha.symm.trans hx), ← hp]
  have kept : (List.modFirst (fun x => x.id == b.id) (fun _ => b) s.agents).map Agent.pkg = s.agents.map Agent.pkg := by
    rw [same]
    exact List.map_modFirst (f := fun x => { b with pkg := x.pkg }) (w := Agent.pkg) (fun _ => rfl) s.agents
  exact ⟨congrArg (fun l => { s.roster with agents := l }) kept, rfl⟩

theorem State.calm_modVf (s : State) (n v : Nat) (f : Vf → Vf) : s.Calm (s.modVf n v f) := s.calm_modPkg n fun _ => rfl

theorem State.calm_modLaunch (s : State) (i : Nat) (f : Launch → Launch) : s.Calm (s.modLaunch i f) := ⟨rfl, rfl⟩

/-! ### What goes over the links -/

theorem State.calm_probe (s : State) (p l : Nat) (bs : List Byte) : s.Calm (s.probe p l bs) := by
  obtain ⟨q, h⟩ := s.probe_rest p l bs
  rw [h]
  exact ⟨rfl, rfl⟩

theorem State.calm_exchange (s : State) (sp : Space) (p a : Nat) (xs ys : List Byte) : s.Calm (s.exchange sp p a xs ys) := by
  obtain ⟨l, h⟩ := s.exchange_rest sp p a xs ys
  rw [h]
  exact ⟨rfl, rfl⟩

theorem State.calm_readTables (s : State) (p : Nat) (l : List Nat) : s.Calm (s.readTables p l) :=
  State.Calm.foldl (fun s a => s.calm_exchange .ctl p a [] _) _ s

theorem State.calm_agree (s : State) (p : Nat) : s.Calm (s.agree p) := by
  obtain ⟨l, h⟩ := s.agree_eq p
  rw [h]
  exact ⟨rfl, rfl⟩

/-! ### The directory and the memories -/

theorem State.calm_note (s : State) (p : Place) (lo n : Nat) : s.Calm (s.note p lo n) := ⟨rfl, rfl⟩

theorem State.calm_dirNote (s : State) (w : Who) (line : Nat) : s.Calm (s.dirNote w line) := by
  unfold State.dirNote
  split
  · exact .refl s
  · exact .ite (s.calm_modPkg _ fun _ => rfl) (.refl s)

theorem State.calm_hardTouch (s : State) (w : Who) (line : Nat) (write keep : Bool) : s.Calm (s.hardTouch w line write keep) := by
  have start : s.Calm (if s.hardHit w line write then s else s.dirNote w line) := .ite (.refl s) (s.calm_dirNote w line)
  unfold State.hardTouch
  simp only
  generalize (if s.hardHit w line write then s else s.dirNote w line) = u at start
  generalize hv : List.foldl _ _ (List.filter _ u.pkgs) = v
  have probed : s.Calm v := by
    rw [← hv]
    refine start.trans (.trans ?_ (.foldl (fun s p => s.calm_probe _ _ _) _ _))
    split
    · exact u.calm_mapPkgs fun _ => rfl
    · exact u.calm_mapPkgs fun _ => rfl
  split
  · exact probed
  · exact .ite (probed.trans (v.calm_modPkg _ fun _ => rfl)) probed

theorem State.calm_hostLines (s : State) (p a n : Nat) (write : Bool) : s.Calm (s.hostLines p a n write) :=
  State.Calm.foldl (fun s l => s.calm_hardTouch _ l write false) _ s

theorem State.calm_setMem (s : State) (sp : Space) (m : Mem) : s.Calm (s.setMem sp m) := by cases sp <;> exact ⟨rfl, rfl⟩

theorem State.calm_setPoison (s : State) (sp : Space) (l : List (Nat × Nat)) : s.Calm (s.setPoison sp l) := by
  cases sp <;> exact ⟨rfl, rfl⟩

theorem State.calm_ownWrite (s : State) (p a : Nat) (bs : List Byte) : s.Calm (s.ownWrite p a bs) :=
  (s.calm_note .ctl a bs.length).trans ((State.calm_setMem _ .ctl _).trans (State.calm_hostLines _ p a bs.length true))

theorem State.calm_homeWrite (s : State) (sp : Space) (a : Nat) (bs : List Byte) : s.Calm (s.homeWrite sp a bs) :=
  (s.calm_note sp.place a bs.length).trans (State.calm_setMem _ sp _)

/-! ### Records -/

theorem State.calm_putRecord (s : State) (p v k : Nat) (bs : List Byte) : s.Calm (s.putRecord p v k bs) := by
  unfold State.putRecord
  split
  · next pa _ =>
    refine (s.calm_ownWrite p pa bs).trans ?_
    unfold State.recordSent
    simp only
    split
    · exact (State.calm_readTables _ _ _).trans (State.calm_exchange _ _ _ _ _ _)
    · exact .refl _
  · exact .refl s

theorem State.calm_putRecords (p v : Nat) (l : List (Nat × List Byte)) :
    ∀ s : State, s.Calm (l.foldl (fun s x => s.putRecord p v x.1 x.2) s) := by
  induction l with
  | nil => exact .refl
  | cons x l ih => exact fun s => (s.calm_putRecord p v x.1 x.2).trans (ih _)

theorem State.calm_writeRecords (s : State) (p v launch : Nat) (recs : List (List Byte)) :
    s.Calm (s.writeRecords p v launch recs).2 := by
  unfold State.writeRecords
  simp only
  split
  · exact .refl s
  · split
    · exact (s.calm_modVf p v _).trans ((State.calm_modLaunch _ launch _).trans (State.calm_putRecords p v _ _))
    · exact s.calm_modVf p v _

theorem State.calm_freeRecord (s : State) (p v k : Nat) : s.Calm (s.freeRecord p v k) :=
  (s.calm_modVf p v _).trans ⟨rfl, rfl⟩

theorem State.calm_freeResumed (s : State) (l : List Cmd) : s.Calm (s.freeResumed l) :=
  State.Calm.foldl (fun s _ => .ite (s.calm_freeRecord _ _ _) (.refl s)) l s

/-! ### Resolutions -/

theorem State.calm_lkStale (s : State) (a : Agent) : s.Calm (s.lkStale a) := s.calm_modPkg a.pkg fun _ => rfl

theorem State.calm_l1DropTensor (s : State) (p k : Nat) : s.Calm (s.l1DropTensor p k) := s.calm_modPkg p fun _ => rfl

theorem State.calm_softRefresh (s : State) (p k : Nat) : s.Calm (s.softRefresh p k) := s.calm_modPkg p fun _ => rfl

theorem State.calm_observeDone (s : State) (a : Agent) : s.Calm (s.observeDone a) :=
  (s.calm_lkStale a).trans ((State.calm_l1DropTensor _ _ _).trans (State.calm_softRefresh _ _ _))

theorem Agent.setV_place (a : Agent) (r : Nat) (m : W) (f : Nat → W) : (a.setV r m f).id = a.id ∧ (a.setV r m f).pkg = a.pkg := by
  unfold Agent.setV
  split <;> exact ⟨rfl, rfl⟩

theorem Agent.spoilV_place (a : Agent) (r : Nat) (m : W) : (a.spoilV r m).id = a.id ∧ (a.spoilV r m).pkg = a.pkg := by
  unfold Agent.spoilV
  split <;> exact ⟨rfl, rfl⟩

theorem Agent.takeRes_place (a : Agent) (m : MmaRes) (free : Nat) :
    (a.takeRes m free).id = a.id ∧ (a.takeRes m free).pkg = a.pkg := by
  unfold Agent.takeRes
  refine List.foldlRecOn (motive := fun b : Agent => b.id = a.id ∧ b.pkg = a.pkg) _ _ ⟨rfl, rfl⟩ fun b hb i _ => ?_
  simp only
  rw [(Agent.spoilV_place _ _ _).1, (Agent.spoilV_place _ _ _).2, (Agent.setV_place _ _ _ _).1, (Agent.setV_place _ _ _ _).2]
  exact hb

theorem State.calm_takeResOf (s : State) (m : MmaRes) (id : Nat) : s.Calm (s.takeResOf m id) := by
  unfold State.takeResOf
  split
  · next a ha =>
    obtain ⟨hid, hp⟩ := a.takeRes_place m s.free
    have found : s.agent? (a.takeRes m s.free).id = some a := by rw [hid, State.agent?_id ha, ha]
    have set : s.Calm { s.setAgent (a.takeRes m s.free) with free := s.free + 1024 } := (State.calm_setAgent found hp).trans ⟨rfl, rfl⟩
    exact .ite set (.refl s)
  · exact .refl s

theorem State.calm_learn (s : State) (ids : List Nat) (p : MmaRes → Bool) : s.Calm (s.learn ids p) := by
  unfold State.learn
  exact .ite (.refl s) (.trans (.foldl (fun s m => .foldl (fun s id => s.calm_takeResOf m id) ids s) _ s) ⟨rfl, rfl⟩)

theorem State.calm_resolve (s : State) (inst : Nat) (st : W) : s.Calm (s.resolve inst st) := by
  unfold State.resolve
  refine .trans ?_ (State.calm_learn _ _ _)
  refine .trans ?_ (.foldl State.calm_observeDone _ _)
  refine .of_agents ?_ rfl rfl
  rw [List.map_map]
  rfl

theorem State.calm_sideDone (s : State) (i : Nat) (slot : Bool) (n : Nat) : s.Calm (s.sideDone i slot n) := by
  refine s.calm_modAgent i fun a => ?_
  split
  · cases slot <;> rfl
  · rfl

theorem State.calm_tlbInvCheck (s : State) : s.Calm s.tlbInvCheck :=
  .trans (t := { s with tlbInvs := s.tlbInvs.filter (fun t => !t.waitFor.isEmpty) }) ⟨rfl, rfl⟩
    (.foldl (fun s (t : TlbInv) => s.calm_sideDone t.agent t.slot t.len) _ _)

theorem State.calm_passCheck (s : State) (inst : Nat) : s.Calm (s.passCheck inst) := by
  unfold State.passCheck
  refine .ite (.refl s) (.trans ?_ (State.calm_tlbInvCheck _))
  exact ⟨rfl, rfl⟩

theorem State.calm_raiseHa (s : State) (pkg func vf : Nat) (addr data : DW) (ref_ : Nat) :
    s.Calm (s.raiseHa pkg func vf addr data ref_) := s.calm_modPkg pkg fun _ => rfl

theorem State.calm_walkSent (s : State) (w : Who) (va : DW) : s.Calm (s.walkSent w va) := by
  unfold State.walkSent
  exact .ite (.refl s) (s.calm_readTables _ _)

theorem State.calm_faultWait (s : State) (w : Who) (va : DW) (sub level : Nat) : s.Calm (s.faultWait w va sub level).2 := by
  have walk := s.calm_walkSent w va
  unfold State.faultWait
  simp only
  generalize s.walkSent w va = u at walk
  have fresh : s.Calm u.fresh.2 := walk.trans ⟨rfl, rfl⟩
  split
  · exact walk
  · split
    · exact walk
    · split
      · exact walk
      · split
        · exact fresh.trans ((State.calm_modPkg u.fresh.2 w.pkg fun _ => by rfl).trans (State.calm_raiseHa _ _ _ _ _ _ _))
        · exact fresh.trans (State.calm_modPkg u.fresh.2 w.pkg fun _ => by rfl)

end Sys2Proof.Machine
end

section
/-! What the fences of a lost peer do to a domain: nothing of its roster, and no command of a package that had none (R293). -/
namespace Sys2Proof.Machine

/-! ### What the engines write -/

theorem State.calm_mmioWrite (s : State) (w : Who) (off : Nat) (bs : List Byte) : s.Calm (s.mmioWrite w off bs) := by
  have set (f : Pkg → Vector XeSub 16) : s.Calm (s.modPkg w.pkg (fun p => { p with xeSub := f p })) :=
    s.calm_modPkg w.pkg fun _ => rfl
  have asked (x : Turn) : s.Calm { s with agenda := x :: s.agenda } := ⟨rfl, rfl⟩
  unfold State.mmioWrite
  simp only
  exact .ite (.refl s) (.ite (.ite (set _) (.ite (asked _) (.ite (set _) (.ite (set _) (.refl s))))) (asked _))

/-- A write of no core, as the engines' and the management processor's are. -/
theorem State.calm_putT (s : State) {w : Who} (h : w.core = none) (t : Target) (bs : List Byte) (keep : Bool) :
    s.Calm (s.putT w t bs keep) := by
  unfold State.putT
  cases t with
  | ctl pa coh =>
    rw [h]
    exact .ite ((s.calm_homeWrite .ctl pa bs).trans (State.calm_hardTouch _ w _ true false)) (s.calm_homeWrite .ctl pa bs)
  | ten pa =>
    rw [h]
    exact s.calm_homeWrite .ten pa bs
  | pad k off e => exact (s.calm_note (.pad k) off bs.length).trans ⟨rfl, rfl⟩
  | mmio off => exact s.calm_mmioWrite w off bs

theorem State.calm_sendAccess (s : State) (w : Who) (t : Target) (xs ys : List Byte) : s.Calm (s.sendAccess w t xs ys) := by
  cases t with
  | ctl pa coh => exact s.calm_exchange .ctl w.pkg pa xs ys
  | ten pa => exact s.calm_exchange .ten w.pkg pa xs ys
  | pad k off e => exact .refl s
  | mmio off => exact .refl s

theorem State.calm_stray (s : State) (t : Target) (n : Nat) : s.Calm (s.stray t n) := by
  cases t <;> exact ⟨rfl, rfl⟩

theorem State.calm_writeT (s : State) {w : Who} (h : w.core = none) (t : Target) (bs : List Byte) (keep : Bool) :
    s.Calm (s.writeT w t bs keep) := by
  have put := s.calm_putT h t bs keep
  exact .trans (.ite put (put.trans (State.calm_sendAccess _ w t bs []))) (State.calm_stray _ t _)

theorem State.calm_engWriteT (s : State) (c : Cmd) {w : Who} (h : w.core = none) (t : Target) (bs : List Byte) :
    s.Calm (s.engWriteT c w t bs) := by
  cases t with
  | pad k off e => exact ⟨rfl, rfl⟩
  | ctl pa coh => exact s.calm_writeT h (.ctl pa coh) bs false
  | ten pa => exact s.calm_writeT h (.ten pa) bs false
  | mmio off => exact s.calm_writeT h (.mmio off) bs false

theorem State.calm_engPoison (s : State) (t : Target) (n : Nat) : s.Calm (s.engPoison t n) := by
  cases t with
  | ctl pa coh => exact s.calm_setPoison .ctl _
  | ten pa => exact s.calm_setPoison .ten _
  | pad k off e => exact ⟨rfl, rfl⟩
  | mmio off => exact .refl s

theorem State.calm_clearPoison (s : State) (ts : List (Target × Nat)) : s.Calm (s.clearPoison ts) := by
  unfold State.clearPoison
  simp only
  generalize h1 : (if s.ctlPoison.isEmpty = true then s else _) = s1
  have ctl : s.Calm s1 := h1 ▸ .ite (.refl s) ⟨rfl, rfl⟩
  generalize h2 : (if s1.tenPoison.isEmpty = true then s1 else _) = s2
  have ten : s1.Calm s2 := h2 ▸ .ite (.refl s1) ⟨rfl, rfl⟩
  exact ctl.trans (ten.trans (.ite (.refl s2) ⟨rfl, rfl⟩))

theorem State.calm_engWrite (s : State) (c : Cmd) {w : Who} (h : w.core = none) (ts : List (Target × Nat)) (bs : List Byte)
    (poisoned : Bool) : s.Calm (s.engWrite c w ts bs poisoned) := by
  unfold State.engWrite
  simp only
  generalize hr : List.foldl _ (s, bs) ts = r
  have written : s.Calm r.1 := by
    rw [← hr]
    refine List.foldlRecOn (motive := fun x : State × List Byte => s.Calm x.1) ts _ (.refl s) fun acc hacc x _ => ?_
    have one := acc.1.calm_engWriteT c h x.1 (acc.2.take x.2)
    exact hacc.trans (.ite (one.trans (State.calm_engPoison _ _ _)) one)
  exact .ite written (written.trans (State.calm_clearPoison _ ts))

theorem State.whoCmd_core (s : State) (c : Cmd) : (s.whoCmd c).core = none := by
  unfold State.whoCmd
  split <;> rfl

/-- Unpredictable values taken. -/
theorem State.calm_free (s : State) (n : Nat) : s.Calm { s with free := n } := ⟨rfl, rfl⟩

theorem State.calm_scramble (s : State) (c : Cmd) : s.Calm (s.scramble c) := by
  refine State.Calm.foldl (fun u i => ?_) _ s
  refine .ite ?_ (.refl u)
  exact (u.calm_engWrite c (s.whoCmd_core c) _ _ false).trans (State.calm_free _ _)

theorem State.calm_cohWake (s : State) : s.Calm s.cohWake := by
  have frame := s.cohFrame_cohWake
  have lists := congrArg CohFrame.lists frame
  have pkgs := congrArg (List.map (fun p : Pkg => (p.num, p.parts))) (congrArg CohFrame.pkgs frame)
  have agents := congrArg (List.map (fun x : Nat × Option Cc => x.1)) (congrArg CohFrame.agents frame)
  simp only [State.cohFrame, List.map_map, Prod.mk.injEq] at lists pkgs agents
  obtain ⟨homes, promoting, rebuilding, lost, detected⟩ := lists
  refine .of_agents agents ?_ (congrArg CohFrame.cmds frame)
  rw [State.roster, State.roster, Roster.mk.injEq]
  exact ⟨homes, promoting, rebuilding, lost, detected, pkgs, rfl⟩

end Sys2Proof.Machine
end

section
/-! What the fences of a lost peer spare (R293): the roster, and that no command is of a package that had none. -/
namespace Sys2Proof.Machine

/-- The roster is as it was, and package `n` has no command if it had none. -/
structure State.Spares (n : Nat) (s t : State) : Prop where
  roster : t.roster = s.roster
  cmds : (∀ c ∈ s.cmds, c.pkg ≠ n) → ∀ c ∈ t.cmds, c.pkg ≠ n

namespace State.Spares

theorem of_calm {n : Nat} {s t : State} (h : s.Calm t) : Spares n s t := ⟨h.roster, fun none => h.cmds ▸ none⟩

theorem trans {n : Nat} {s t u : State} (h : Spares n s t) (g : Spares n t u) : Spares n s u :=
  ⟨g.roster.trans h.roster, fun none => g.cmds (h.cmds none)⟩

/-- A list of sparing steps spares. -/
theorem foldl {α : Type} {n : Nat} {f : State → α → State} {l : List α}
    (h : ∀ (s : State), ∀ x ∈ l, Spares n s (f s x)) (s : State) : Spares n s (l.foldl f s) :=
  List.foldlRecOn (motive := fun t : State => Spares n s t) l f (.of_calm (.refl s)) fun t ht x hx => ht.trans (h t x hx)

/-- Commands that go. -/
theorem filter {n : Nat} (s : State) (p : Cmd → Bool) : Spares n s { s with cmds := s.cmds.filter p } :=
  ⟨rfl, fun none c hc => none c (List.mem_filter.mp hc).1⟩

/-- A command of another package that comes. -/
theorem append {n : Nat} (s : State) {c : Cmd} (h : c.pkg ≠ n) : Spares n s { s with cmds := s.cmds ++ [c] } := by
  refine ⟨rfl, fun none d hd => ?_⟩
  rcases List.mem_append.mp hd with hd | hd
  · exact none d hd
  · exact List.mem_singleton.mp hd ▸ h

end State.Spares

/-! ### A command that ends -/

theorem State.spares_modCmd (n : Nat) (s : State) (i : Nat) {f : Cmd → Cmd} (h : ∀ c, (f c).pkg = c.pkg) :
    State.Spares n s (s.modCmd i f) := by
  refine ⟨rfl, fun none c hc => ?_⟩
  rcases List.mem_modFirst hc with hc | ⟨d, hd, -, rfl⟩
  · exact none c hc
  · rw [h d]
    exact none d hd

theorem State.spares_subForget (n : Nat) (s : State) (c : Cmd) : State.Spares n s (s.subForget c) :=
  (State.Spares.filter s _).trans (.of_calm (State.calm_modAgent _ c.agent fun _ => rfl))

theorem State.spares_subDone {n : Nat} {c : Cmd} (h : c.pkg ≠ n) (s : State) (st : W) : State.Spares n s (s.subDone c st) := by
  have forget := s.spares_subForget n c
  have later (s : State) (x : Stall) : State.Spares n s { s with cmds := s.cmds.filter (fun d => d.inst != c.inst) ++
      [{ c with phase := .reporting, final := some st, wait := some x, snap := [], snapVa := [] }] } :=
    (State.Spares.filter s _).trans (.append _ h)
  unfold State.subDone
  split
  · exact .of_calm (.refl s)
  · simp only
    split
    · split
      · exact forget.trans (.of_calm (State.calm_writeT _ rfl _ _ _))
      · exact .trans (.of_calm (s.calm_faultWait _ _ _ _)) (later _ _)
      · exact later s _
      · exact forget.trans (.of_calm ⟨rfl, rfl⟩)
    · exact forget.trans (.of_calm ⟨rfl, rfl⟩)

/-! ### The fences -/

theorem State.spares_collEnd {n : Nat} {l : List Cmd} (h : ∀ c ∈ l, c.pkg ≠ n) (s : State) (cause : Cmd → Nat) :
    State.Spares n s (s.collEnd l cause) := by
  have done : State.Spares n s
      (l.foldl (fun s c => (s.resolveWith c.inst (cause c)).subDone c (statusWord (cause c) 0)) s) :=
    .foldl (fun s c hc => .trans (.of_calm (s.calm_resolve _ _)) (State.spares_subDone (h c hc) _ _)) s
  exact done.trans ((State.Spares.filter _ _).trans (.foldl (fun s c _ => .of_calm (s.calm_passCheck c.inst)) _))

theorem State.spares_fenceColls (n : Nat) (s : State) : State.Spares n s (s.fenceColls n) := by
  unfold State.fenceColls
  simp only
  generalize hl : List.filter _ (List.filter _ s.cmds) = l
  have others : ∀ c ∈ l, c.pkg ≠ n := by
    intro c hc
    rw [← hl] at hc
    have named := (List.mem_filter.mp (List.mem_filter.mp hc).1).2
    simp only [Bool.and_eq_true, bne_iff_ne] at named
    obtain ⟨⟨-, other⟩, -⟩ := named
    exact other
  have scrambled : State.Spares n s (l.foldl State.scramble s) := .foldl (fun s c _ => .of_calm (s.calm_scramble c)) s
  exact (scrambled.trans (State.spares_collEnd others _ _)).trans (.filter _ _)

theorem State.spares_fenceIncs (n : Nat) (s : State) : State.Spares n s (s.fenceIncs n) := by
  unfold State.fenceIncs
  simp only
  generalize hl : (List.eraseDups _ : List Nat) = l
  have stopped : State.Spares n s (l.foldl (fun s i =>
      s.fresh.2.modCmd i (fun c => c.stopped s.fresh.1 Cause.peerLost (blkDst c.blk))) s) :=
    .foldl (fun s i _ => .trans (t := s.fresh.2) (.of_calm ⟨rfl, rfl⟩) (State.spares_modCmd n _ i fun _ => by rfl)) s
  exact stopped.trans (.of_calm ⟨rfl, rfl⟩)

theorem State.spares_refuseSend {n : Nat} {c : Cmd} (h : c.pkg ≠ n) (s : State) (cause sub : Nat) :
    State.Spares n s (s.refuseSend c cause sub) := by
  have gone := State.Spares.filter (n := n) s (fun d => d.inst != c.inst)
  unfold State.refuseSend
  simp only
  split
  · exact gone.trans (.append _ h)
  · refine gone.trans (.trans (.of_calm ?_) (State.spares_subDone h _ _))
    exact .trans (.trans (State.calm_freeResumed _ _) (State.calm_writeRecords _ _ _ _ _)) (State.calm_resolve _ _ _)

theorem State.spares_fenceSends {n : Nat} {s : State} (h : ∀ c ∈ s.cmds, c.pkg ≠ n) : State.Spares n s s.fenceSends :=
  .foldl (fun s c hc => State.spares_refuseSend (h c (List.mem_filter.mp hc).1) s _ _) s

end Sys2Proof.Machine
end

section
/-! The agreement on a lost peer (R293): what it takes out of the domain, where the peer's home goes, and the flits sent again. -/
namespace Sys2Proof.Machine

theorem mem_setInsert {n k : Nat} {l : List Nat} : k ∈ setInsert n l ↔ k = n ∨ k ∈ l := by
  induction l with
  | nil => simp [setInsert]
  | cons x l ih =>
    unfold setInsert
    split
    · exact List.mem_cons
    · split
      · next hx => simp [hx]
      · rw [List.mem_cons, ih, List.mem_cons]
        exact or_left_comm

theorem mem_inOrder {x y : Nat × Flit} {l : List (Nat × Flit)} : y ∈ inOrder x l ↔ y = x ∨ y ∈ l := by
  induction l with
  | nil => simp [inOrder]
  | cons z l ih =>
    unfold inOrder
    split
    · rw [List.mem_cons, ih, List.mem_cons]
      exact or_left_comm
    · exact List.mem_cons

theorem mem_foldr_inOrder {y : Nat × Flit} {l : List (Nat × Flit)} : y ∈ l.foldr inOrder [] ↔ y ∈ l := by
  induction l with
  | nil => rfl
  | cons x l ih => rw [List.foldr_cons, mem_inOrder, ih, List.mem_cons]

/-! ### What is on its way stays on its way -/

theorem State.carry_keeps (s : State) (v : Nat) (k : FlitKind) (p q a : Nat) (bs : List Byte) {x : Nat × Flit}
    (h : x ∈ s.traffic) : x ∈ (s.carry v k p q a bs).traffic := by
  by_cases hpq : p = q
  · unfold State.carry
    rw [if_pos hpq]
    exact h
  · obtain ⟨fs, hfs, -⟩ := s.carry_flits v k a bs hpq
    rw [hfs]
    exact List.mem_append_left _ h

theorem State.agree_keeps (s : State) (n : Nat) {x : Nat × Flit} (h : x ∈ s.traffic) : x ∈ (s.agree n).traffic :=
  List.foldlRecOn (motive := fun u : State => x ∈ u.traffic) _ _ h fun _ hu _ _ => State.carry_keeps _ _ _ _ _ _ _ hu

/-- Every package of the domain says so to the others. -/
def State.agreeAll (s : State) : State := (s.pkgs.filter (fun q => q.formed)).foldl (fun s q => s.agree q.num) s

theorem State.agreeAll_keeps (s : State) {x : Nat × Flit} (h : x ∈ s.traffic) : x ∈ s.agreeAll.traffic :=
  List.foldlRecOn (motive := fun u : State => x ∈ u.traffic) _ _ h fun u hu q _ => u.agree_keeps q.num hu

theorem State.calm_agreeAll (s : State) : s.Calm s.agreeAll :=
  State.Calm.foldl (f := fun (s : State) (q : Pkg) => s.agree q.num) (fun s q => s.calm_agree q.num) _ s

/-! ### The flits sent again -/

theorem State.calm_resendLost (s : State) (peer : Nat) (held : List Nat) (l : List Flit) : s.Calm (s.resendLost peer held l) := by
  rw [State.resendLost_rest]
  exact ⟨rfl, rfl⟩

/-- A flit of the control space to the lost home goes on to the home that took its place. -/
theorem State.resendLost_to {s : State} {peer home : Nat} {held : List Nat} {l : List Flit} {f : Flit} (hf : f ∈ l)
    (hctl : f.ofCtl = true) (hcount : f.counted = true) (hheld : f.addr.toNat / 2 ^ 33 ∈ held) (hdst : f.dst = peer)
    (hhome : s.homeOf (f.addr.toNat / 2 ^ 33) = home) (hsrc : f.src ≠ home) (alive : s.lost.contains f.src = false)
    (taken : s.lost.contains home = false) :
    ∃ x ∈ (s.resendLost peer held l).traffic, x.1 = f.src ∧ x.2 = { f with dst := home, ord := x.2.ord } := by
  have again : s.rehome peer f = some { f with dst := home } := by
    unfold State.rehome
    simp only
    rw [if_pos hdst]
    have goes : s.homeAt .ctl f.addr.toNat = home := hhome
    rw [goes, Option.filter_some, if_pos]
    simp only [Bool.and_eq_true, bne_iff_ne, Bool.not_eq_true']
    exact ⟨⟨hsrc, alive⟩, taken⟩
  have mine : f ∈ l.filter (fun f => f.ofCtl && f.counted && held.contains (f.addr.toNat / 2 ^ 33)) := by
    rw [List.mem_filter, hctl, hcount, List.contains_iff_mem.mpr hheld]
    exact ⟨hf, rfl⟩
  have sent : { f with dst := home } ∈ (((l.filter (fun f => f.ofCtl && f.counted &&
      held.contains (f.addr.toNat / 2 ^ 33))).map (fun f => (peer, f))).foldr inOrder []).filterMap (fun x => s.rehome peer x.2) :=
    List.mem_filterMap.mpr ⟨(peer, f), mem_foldr_inOrder.mpr (List.mem_map_of_mem mine), again⟩
  obtain ⟨n, hn⟩ := State.placed_mem (s := s) sent
  exact ⟨(f.src, { f with dst := home, ord := n }), List.mem_append_right _ (List.mem_map_of_mem hn), rfl, rfl⟩

/-! ### The home that is lost -/

/-- A home whose copy the mirror holds goes to the mirror, which rebuilds its own. -/
theorem State.loseHome_mirrored {s : State} {mirror h : Nat} (hm : (s.pkg? mirror).isSome = true)
    (hr : s.rebuilding.contains h = false) : s.loseHome mirror h =
      { s with promoting := setInsert h s.promoting, homes := (h, mirror) :: s.homes.filter (fun x => x.1 != h),
               rebuilding := setInsert h s.rebuilding } := by
  have there : s.pkgs.any (fun p => p.num == mirror) = true := by
    rw [State.pkg?, List.find?_isSome] at hm
    exact List.any_eq_true.mpr hm
  unfold State.loseHome
  simp only
  rw [there, hr]
  rfl

/-- Package `n` keeps home `h`, which is promoted and rebuilt. -/
structure State.Rehomed (n h : Nat) (s : State) : Prop where
  home : s.homeOf h = n
  promoting : h ∈ s.promoting
  rebuilding : h ∈ s.rebuilding

theorem State.Rehomed.of_lists {n h : Nat} {s t : State} (r : s.Rehomed n h) (homes : t.homes = s.homes)
    (promoting : t.promoting = s.promoting) (rebuilding : h ∈ s.rebuilding → h ∈ t.rebuilding) : t.Rehomed n h := by
  refine ⟨?_, promoting ▸ r.promoting, rebuilding r.rebuilding⟩
  rw [State.homeOf, homes]
  exact r.home

theorem State.homeOf_cons {s : State} {h k : Nat} (n : Nat) (hn : n ≠ h) :
    { s with homes := (h, k) :: s.homes.filter (fun x => x.1 != h) }.homeOf n = s.homeOf n := by
  have others : (fun x : Nat × Nat => decide ((x.1 != h) = true ∧ (x.1 == n) = true)) = fun x => x.1 == n := by
    funext x
    by_cases hx : x.1 = n
    · simp [hx, hn]
    · simp [hx]
  unfold State.homeOf
  rw [List.find?_cons_of_neg (by simpa using hn.symm), List.find?_filter, others]

theorem State.Rehomed.loseHome {n h : Nat} {s : State} (r : s.Rehomed n h) {mirror k : Nat} (hk : k ≠ h) :
    (s.loseHome mirror k).Rehomed n h := by
  obtain ⟨home, promoting, rebuilding⟩ := r
  unfold State.loseHome
  simp only
  split
  · exact ⟨(State.homeOf_cons h hk.symm).trans home, mem_setInsert.mpr (.inr promoting), mem_setInsert.mpr (.inr rebuilding)⟩
  · split
    · refine ⟨(State.homeOf_cons h hk.symm).trans home, ?_, mem_setInsert.mpr (.inr rebuilding)⟩
      exact List.mem_filter.mpr ⟨promoting, by simpa using hk.symm⟩
    · exact ⟨home, promoting, rebuilding⟩

/-- A package that holds its own memory is the first home it holds. -/
theorem State.homesAt_own {s : State} {n : Nat} (h : s.homeOf n = n) : ∃ l, s.homesAt n = n :: l ∧ ∀ k ∈ l, k ≠ n := by
  unfold State.homesAt
  rw [List.filter_cons_of_pos (by simpa using h), List.eraseDups_cons]
  refine ⟨_, rfl, fun k hk => ?_⟩
  have kept := (List.mem_filter.mp (List.mem_eraseDups.mp hk)).2
  simpa using kept

/-- The homes a lost package held go where its mirror or the next package is. -/
def State.loseHomes (s : State) (mirror : Nat) (held : List Nat) : State := held.foldl (fun s h => s.loseHome mirror h) s

theorem State.loseHome_rest (s : State) (mirror h : Nat) :
    s.loseHome mirror h = { s with
      homes := (s.loseHome mirror h).homes, promoting := (s.loseHome mirror h).promoting,
      rebuilding := (s.loseHome mirror h).rebuilding, ctlPoison := (s.loseHome mirror h).ctlPoison } := by
  unfold State.loseHome
  simp only
  split
  · rfl
  · split <;> rfl

theorem State.loseHomes_rest (s : State) (mirror : Nat) (held : List Nat) : ∃ homes promoting rebuilding poison,
    s.loseHomes mirror held = { s with homes := homes, promoting := promoting, rebuilding := rebuilding, ctlPoison := poison } := by
  refine List.foldlRecOn (motive := fun u : State => ∃ homes promoting rebuilding poison,
    u = { s with homes := homes, promoting := promoting, rebuilding := rebuilding, ctlPoison := poison }) held _
    ⟨s.homes, s.promoting, s.rebuilding, s.ctlPoison, rfl⟩ fun u hu h _ => ?_
  obtain ⟨homes, promoting, rebuilding, poison, rfl⟩ := hu
  exact ⟨_, _, _, _, State.loseHome_rest _ _ _⟩

/-- The lost package's own home goes to its mirror. -/
theorem State.loseHomes_rehomed {s : State} {mirror n : Nat} {l : List Nat} (hl : ∀ k ∈ l, k ≠ n)
    (hm : (s.pkg? mirror).isSome = true) (hr : s.rebuilding.contains n = false) :
    (s.loseHomes mirror (n :: l)).Rehomed mirror n := by
  have first : (s.loseHome mirror n).Rehomed mirror n := by
    rw [State.loseHome_mirrored hm hr]
    refine ⟨?_, mem_setInsert.mpr (.inl rfl), mem_setInsert.mpr (.inl rfl)⟩
    simp [State.homeOf]
  exact List.foldlRecOn (motive := fun u : State => u.Rehomed mirror n) l _ first fun u hu k hk => hu.loseHome (hl k hk)

end Sys2Proof.Machine
end

section
/-! PEER_LOSS_AGREE (R293), put together of its fences, the cut of the peer, and the move of its homes. -/
namespace Sys2Proof.Machine

/-- The machine after the fences, the lost peer still in it. -/
def State.lossFenced (s : State) (peer : Nat) : State := ((s.landChunks peer).fenceColls peer).fenceIncs peer

/-- The machine without the lost peer, its partitions paused at `now`. -/
def State.lossCut (s : State) (peer now : Nat) : State :=
  { s.dropPkgWork peer with
    pkgs := (s.pkgs.filter (fun q => q.num != peer)).map (fun q =>
      ({ q with unreach := q.unreach.filter (fun x => x.1 != peer) }).peerPause now)
    lost := setInsert peer s.lost
    traffic := s.traffic.filter (fun x => x.1 != peer && x.2.src != peer && x.2.dst != peer)
    detected := s.detected.filter (fun x => x.1 != peer && x.2 != peer) }

/-- The homes of the lost peer moved, and what waited for it woken. -/
def State.lossMoved (s : State) (peer mirror : Nat) (held : List Nat) : State :=
  (((s.loseHomes mirror held).newMirrors peer).fenceSends).cohWake

/-- The homes are moved before what was on its way to them. -/
def State.lossSettled (s : State) (peer mirror : Nat) : State :=
  ((s.lossFenced peer).lossCut peer s.aclk).lossMoved peer mirror (s.homesAt peer)

/-- The machine after the agreement on a lost peer. -/
def State.lossAgreed (s : State) (peer mirror : Nat) : State :=
  ((s.lossSettled peer mirror).resendLost peer (s.homesAt peer) (s.lossFenced peer).flits).agreeAll

theorem peerLossAgree_next {s : State} {peer : Nat} {q : Pkg} (hq : s.pkg? peer = some q) (hd : ∃ x ∈ s.detected, x.2 = peer) :
    exec (.peerLossAgree peer) s = .next (s.lossAgreed peer q.mirror) := by
  obtain ⟨x, hx, rfl⟩ := hd
  have found : s.detected.any (fun y => y.2 == x.2) = true := List.any_eq_true.mpr ⟨x, hx, beq_self_eq_true _⟩
  show execPeerLossAgree x.2 s = _
  unfold execPeerLossAgree
  rw [hq]
  simp only
  rw [found]
  rfl

/-! ### The cut -/

theorem Part.pause_run (q : Part) (cause : PCause) (now : Nat) : (q.pause cause now).phase ≠ .run := by
  unfold Part.pause
  split
  · exact PPhase.noConfusion
  · assumption

theorem Pkg.peerPause_run (p : Pkg) (now : Nat) {i : Nat} (h : i < 64) : ((p.peerPause now).part i).phase ≠ .run := by
  have paused : (p.peerPause now).part i = (p.parts[i]).pause .peer now := by simp [Pkg.part, Pkg.peerPause, h]
  rw [paused]
  exact Part.pause_run _ _ _

/-- Nothing of package `n` is left, and no partition runs. -/
structure Roster.Rid (n : Nat) (r : Roster) : Prop where
  pkgs : ∀ q ∈ r.pkgs, q.1 ≠ n ∧ ∀ i, i < 64 → (q.2[i]?.getD Part.reset).phase ≠ .run
  agents : ∀ a ∈ r.agents, a ≠ n
  lost : n ∈ r.lost
  detected : ∀ x ∈ r.detected, x.2 ≠ n

theorem State.lossCut_rid (s : State) (peer now : Nat) : (s.lossCut peer now).roster.Rid peer := by
  obtain ⟨-, -, -, -, hagents, -⟩ := s.dropPkgWork_spec peer
  refine ⟨fun x hx => ?_, fun x hx => ?_, mem_setInsert.mpr (.inl rfl), fun x hx => ?_⟩
  · obtain ⟨p, hp, rfl⟩ := List.mem_map.mp hx
    obtain ⟨q, hq, rfl⟩ := List.mem_map.mp hp
    have other : q.num ≠ peer := by simpa using (List.mem_filter.mp hq).2
    exact ⟨other, fun i hi => Pkg.peerPause_run _ _ hi⟩
  · have cut : (s.lossCut peer now).agents = s.agents.filter (fun a => a.pkg != peer) := hagents
    obtain ⟨a, ha, rfl⟩ := List.mem_map.mp hx
    rw [cut] at ha
    simpa using (List.mem_filter.mp ha).2
  · have kept := (List.mem_filter.mp hx).2
    simp only [Bool.and_eq_true, bne_iff_ne] at kept
    exact kept.2

theorem State.lossCut_cmds (s : State) (peer now : Nat) : ∀ c ∈ (s.lossCut peer now).cmds, c.pkg ≠ peer := by
  obtain ⟨-, -, -, -, -, -, -, hcmds, -⟩ := s.dropPkgWork_spec peer
  have cut : (s.lossCut peer now).cmds = s.cmds.filter (fun c => c.pkg != peer) := hcmds
  intro c hc
  rw [cut] at hc
  simpa using (List.mem_filter.mp hc).2

theorem State.lossCut_rebuilding (s : State) (peer now : Nat) : (s.lossCut peer now).rebuilding = s.rebuilding := by
  obtain ⟨-, -, -, -, -, -, -, -, -, -, -, kept⟩ := s.dropPkgWork_spec peer
  exact kept

theorem State.lossCut_lost (s : State) (peer now : Nat) : (s.lossCut peer now).lost = setInsert peer s.lost := rfl

/-! ### The move -/

theorem State.newMirrors_frame (s : State) (peer : Nat) :
    (s.newMirrors peer).roster = { s.roster with rebuilding := (s.newMirrors peer).rebuilding } := by
  have kept : (s.newMirrors peer).pkgs.map (fun p => (p.num, p.parts)) = s.pkgs.map (fun p => (p.num, p.parts)) := by
    unfold State.newMirrors
    rw [List.map_map]
    refine List.map_congr_left fun p _ => ?_
    simp only [Function.comp_apply]
    split <;> rfl
  exact congrArg (fun l => { s.roster with pkgs := l, rebuilding := (s.newMirrors peer).rebuilding }) kept

theorem State.newMirrors_keeps {s : State} (peer : Nat) {h : Nat} (hr : h ∈ s.rebuilding) : h ∈ (s.newMirrors peer).rebuilding :=
  List.foldlRecOn (motive := fun l : List Nat => h ∈ l) _ _ hr fun _ hl _ _ => mem_setInsert.mpr (.inr hl)

theorem State.lossMoved_cmds_before {s : State} {peer : Nat} (mirror : Nat) (held : List Nat) (h : ∀ c ∈ s.cmds, c.pkg ≠ peer) :
    ∀ c ∈ ((s.loseHomes mirror held).newMirrors peer).cmds, c.pkg ≠ peer := by
  obtain ⟨_, _, _, _, hl⟩ := s.loseHomes_rest mirror held
  rw [hl]
  exact h

theorem State.lossMoved_spares {s : State} {peer : Nat} (mirror : Nat) (held : List Nat) (h : ∀ c ∈ s.cmds, c.pkg ≠ peer) :
    State.Spares peer ((s.loseHomes mirror held).newMirrors peer) (s.lossMoved peer mirror held) :=
  (State.spares_fenceSends (State.lossMoved_cmds_before mirror held h)).trans (.of_calm (State.calm_cohWake _))

theorem State.lossMoved_cmds {s : State} {peer : Nat} (mirror : Nat) (held : List Nat) (h : ∀ c ∈ s.cmds, c.pkg ≠ peer) :
    ∀ c ∈ (s.lossMoved peer mirror held).cmds, c.pkg ≠ peer :=
  (State.lossMoved_spares mirror held h).cmds (State.lossMoved_cmds_before mirror held h)

theorem State.lossMoved_rid {s : State} {peer : Nat} (mirror : Nat) (held : List Nat) (h : ∀ c ∈ s.cmds, c.pkg ≠ peer)
    (r : s.roster.Rid peer) : (s.lossMoved peer mirror held).roster.Rid peer := by
  obtain ⟨_, _, _, _, hl⟩ := s.loseHomes_rest mirror held
  obtain ⟨pkgs, agents, lost, detected⟩ := r
  rw [(State.lossMoved_spares mirror held h).roster, State.newMirrors_frame, hl]
  exact ⟨pkgs, agents, lost, detected⟩

theorem State.lossMoved_lost {s : State} {peer : Nat} (mirror : Nat) (held : List Nat) (h : ∀ c ∈ s.cmds, c.pkg ≠ peer) :
    (s.lossMoved peer mirror held).lost = s.lost := by
  obtain ⟨_, _, _, _, hl⟩ := s.loseHomes_rest mirror held
  have moved := congrArg Roster.lost (State.lossMoved_spares mirror held h).roster
  rw [State.newMirrors_frame, hl] at moved
  exact moved

theorem State.lossMoved_rehomed {s : State} {peer mirror : Nat} {l : List Nat} (h : ∀ c ∈ s.cmds, c.pkg ≠ peer)
    (hl : ∀ k ∈ l, k ≠ peer) (hm : (s.pkg? mirror).isSome = true) (hr : s.rebuilding.contains peer = false) :
    (s.lossMoved peer mirror (peer :: l)).Rehomed mirror peer := by
  have roster := (State.lossMoved_spares mirror (peer :: l) h).roster
  rw [State.newMirrors_frame] at roster
  refine (State.loseHomes_rehomed hl hm hr).of_lists (congrArg Roster.homes roster) (congrArg Roster.promoting roster) fun hp => ?_
  rw [show (s.lossMoved peer mirror (peer :: l)).rebuilding = _ from congrArg Roster.rebuilding roster]
  exact State.newMirrors_keeps peer hp

/-! ### What the fences leave of a peer with nothing on its way -/

/-- No chunk of the peer is on its way: none lands. -/
theorem State.landChunks_none {s : State} {peer : Nat} (h : ∀ c ∈ s.cmds, c.pkg = peer → c.sent = false) :
    s.landChunks peer = s := by
  have nothing : s.cmds.filter (fun c => c.pkg == peer && c.phase == .running && c.sent) = [] := by
    refine List.filter_eq_nil_iff.mpr fun c hc mine => ?_
    simp only [Bool.and_eq_true, beq_iff_eq] at mine
    obtain ⟨⟨hp, -⟩, hs⟩ := mine
    rw [h c hc hp] at hs
    cases hs
  unfold State.landChunks
  rw [nothing]
  rfl

theorem State.lossFenced_roster {s : State} {peer : Nat} (h : ∀ c ∈ s.cmds, c.pkg = peer → c.sent = false) :
    (s.lossFenced peer).roster = s.roster := by
  unfold State.lossFenced
  rw [State.landChunks_none h]
  exact ((s.spares_fenceColls peer).trans (State.spares_fenceIncs peer _)).roster

theorem State.fenceIncs_flits (s : State) (peer : Nat) : (s.fenceIncs peer).flits = s.flits := by
  unfold State.fenceIncs
  simp only
  generalize (List.eraseDups _ : List Nat) = l
  exact List.foldlRecOn (motive := fun u : State => u.flits = s.flits) l _ rfl fun u hu i _ => hu

theorem State.lossFenced_flits {s : State} (peer : Nat) (h : s.cmds = []) : (s.lossFenced peer).flits = s.flits := by
  have quiet : (s.fenceColls peer).flits = s.flits := by
    unfold State.fenceColls
    rw [h]
    rfl
  unfold State.lossFenced
  rw [State.landChunks_none (by rw [h]; exact fun _ hc => nomatch hc), State.fenceIncs_flits, quiet]

/-- The mirror of a lost package is still in its domain. -/
theorem State.lossCut_pkg {s t : State} {peer now n : Nat} (hr : t.roster = s.roster) (hn : n ≠ peer)
    (h : (s.pkg? n).isSome = true) : ((t.lossCut peer now).pkg? n).isSome = true := by
  rw [State.pkg?, List.find?_isSome] at h ⊢
  obtain ⟨p, hp, hnum⟩ := h
  have listed : (p.num, p.parts) ∈ t.roster.pkgs := by
    rw [hr]
    exact List.mem_map_of_mem hp
  obtain ⟨q, hq, same⟩ := List.mem_map.mp listed
  have num : q.num = n := (congrArg Prod.fst same).trans (beq_iff_eq.mp hnum)
  refine ⟨_, List.mem_map_of_mem (List.mem_filter.mpr ⟨hq, ?_⟩), ?_⟩
  · simpa [num] using hn
  · exact beq_iff_eq.mpr num

/-! ### The agreement -/

theorem State.calm_lossAgreed (s : State) (peer mirror : Nat) : (s.lossSettled peer mirror).Calm (s.lossAgreed peer mirror) :=
  (State.calm_resendLost _ _ _ _).trans (State.calm_agreeAll _)

theorem State.lossAgreed_rid (s : State) (peer mirror : Nat) : (s.lossAgreed peer mirror).roster.Rid peer := by
  rw [(s.calm_lossAgreed peer mirror).roster]
  exact State.lossMoved_rid _ _ (State.lossCut_cmds _ _ _) (State.lossCut_rid _ _ _)

theorem State.lossAgreed_cmds (s : State) (peer mirror : Nat) : ∀ c ∈ (s.lossAgreed peer mirror).cmds, c.pkg ≠ peer := by
  rw [(s.calm_lossAgreed peer mirror).cmds]
  exact State.lossMoved_cmds _ _ (State.lossCut_cmds _ _ _)

section
variable {s : State} {peer mirror : Nat} (hs : ∀ c ∈ s.cmds, c.pkg = peer → c.sent = false) (hm : mirror ≠ peer)
  (hp : (s.pkg? mirror).isSome = true) (hr : s.rebuilding.contains peer = false) (hh : s.homeOf peer = peer)
include hs hm hp hr hh

theorem State.lossSettled_rehomed : (s.lossSettled peer mirror).Rehomed mirror peer := by
  obtain ⟨l, hl, others⟩ := State.homesAt_own hh
  have fenced := State.lossFenced_roster hs
  have same : ((s.lossFenced peer).lossCut peer s.aclk).rebuilding = s.rebuilding := by
    obtain ⟨-, -, kept, -⟩ := State.lists_of_roster fenced
    rw [State.lossCut_rebuilding, kept]
  unfold State.lossSettled
  rw [hl]
  exact State.lossMoved_rehomed (State.lossCut_cmds _ _ _) others (State.lossCut_pkg fenced hm hp) (by rw [same]; exact hr)

theorem State.lossAgreed_rehomed : (s.lossAgreed peer mirror).Rehomed mirror peer := by
  obtain ⟨homes, promoting, rebuilding, -⟩ := State.lists_of_roster (s.calm_lossAgreed peer mirror).roster
  exact (State.lossSettled_rehomed hs hm hp hr hh).of_lists homes promoting fun h => by rwa [rebuilding]

theorem State.lossAgreed_resends (hc : s.cmds = []) {f : Flit} (hf : f ∈ s.flits) (hctl : f.ofCtl = true)
    (hcount : f.counted = true) (haddr : f.addr.toNat / 2 ^ 33 = peer) (hdst : f.dst = peer) (hsrc : f.src ≠ peer)
    (hfm : f.src ≠ mirror) (alive : s.lost.contains f.src = false) (taken : s.lost.contains mirror = false) :
    ∃ x ∈ (s.lossAgreed peer mirror).traffic, x.1 = f.src ∧ x.2 = { f with dst := mirror, ord := x.2.ord } := by
  obtain ⟨l, hl, -⟩ := State.homesAt_own hh
  have lost : (s.lossSettled peer mirror).lost = setInsert peer s.lost := by
    obtain ⟨-, -, -, kept⟩ := State.lists_of_roster (State.lossFenced_roster hs)
    rw [State.lossSettled, State.lossMoved_lost _ _ (State.lossCut_cmds _ _ _), State.lossCut_lost, kept]
  have still {n : Nat} (hn : n ≠ peer) (h : s.lost.contains n = false) : (s.lossSettled peer mirror).lost.contains n = false := by
    rw [lost]
    simpa [mem_setInsert, hn] using h
  have home : (s.lossSettled peer mirror).homeOf (f.addr.toNat / 2 ^ 33) = mirror := by
    rw [haddr]
    exact (State.lossSettled_rehomed hs hm hp hr hh).home
  have held : f.addr.toNat / 2 ^ 33 ∈ s.homesAt peer := by
    rw [haddr, hl]
    exact List.mem_cons_self
  have mine : f ∈ (s.lossFenced peer).flits := by rwa [State.lossFenced_flits peer hc]
  obtain ⟨x, hx, going⟩ := State.resendLost_to mine hctl hcount held hdst home hfm
    (still hsrc alive) (still hm taken)
  exact ⟨x, State.agreeAll_keeps _ hx, going⟩

end

/-! ### The other events of a lost peer -/

theorem peerRouteTimeout_detects {s : State} {pkg peer : Nat} {p q : Pkg} (hp : s.pkg? pkg = some p) (hq : s.pkg? peer = some q)
    (hne : pkg ≠ peer) (hgone : p.routeGone peer s.aclk = true) (hplr : p.mp.plr = false) (hopen : p.haOpen 4 peer = false)
    (hnew : s.detected.contains (pkg, peer) = false) :
    exec (.peerRouteTimeout pkg peer) s = .next { s with detected := s.detected ++ [(pkg, peer)] } := by
  have there : s.pkgs.any (fun p => p.num == peer) = true := List.any_eq_true.mpr
    ⟨q, List.mem_of_find?_eq_some hq, beq_iff_eq.mpr (State.pkg?_num hq)⟩
  show execPeerRouteTimeout pkg peer s = _
  unfold execPeerRouteTimeout
  rw [hp]
  simp only [hgone, if_true]
  unfold State.findLost
  rw [hnew, there, hp]
  simp [hne, hopen, hplr]

theorem homePromoted_next (s : State) (n : Nat) :
    exec (.homePromoted n) s = .next { s with promoting := s.promoting.filter (fun k => k != n) } := by
  show execHomePromoted n s = _
  unfold execHomePromoted
  split
  · rfl
  · next absent =>
    have all : s.promoting.filter (fun k => k != n) = s.promoting := List.filter_eq_self.mpr fun k hk => by
      refine bne_iff_ne.mpr fun hkn => absent ?_
      exact List.contains_iff_mem.mpr (hkn ▸ hk)
    rw [all]

theorem mirrorRebuildDone_next (s : State) (n : Nat) :
    exec (.mirrorRebuildDone n) s = .next { s with rebuilding := s.rebuilding.filter (fun k => k != n) } := rfl

end Sys2Proof.Machine
end

section
/-! What a formation of a domain leaves of its packages and of their memory (R291, R299). -/
namespace Sys2Proof.Machine
open Sys2Proof.Safety

/-! ### The packages -/

section
variable {s t : State} {order : List Nat} (seats : t.pkgs.map Pkg.seat =
  ((s.members order).map (fun p => p.joined order s.aclk) ++ s.aside order).map Pkg.seat)
include seats

theorem seat_cases {q : Pkg} (hq : q ∈ t.pkgs) :
    (∃ p ∈ s.members order, q.seat = (p.joined order s.aclk).seat) ∨ ∃ p ∈ s.aside order, q.seat = p.seat := by
  have seated : q.seat ∈ t.pkgs.map Pkg.seat := List.mem_map_of_mem hq
  rw [seats] at seated
  obtain ⟨r, hr, same⟩ := List.mem_map.mp seated
  rcases List.mem_append.mp hr with hr | hr
  · obtain ⟨p, hp, rfl⟩ := List.mem_map.mp hr
    exact .inl ⟨p, hp, same.symm⟩
  · exact .inr ⟨r, hr, same.symm⟩

theorem seat_recovery {q : Pkg} (hq : q ∈ t.pkgs) (hf : q.formed = false) : q.recovery = true := by
  rcases seat_cases seats hq with ⟨p, -, same⟩ | ⟨p, hp, same⟩
  · have formed : q.formed = true := congrArg (fun x => x.2.1) same
    rw [hf] at formed
    cases formed
  · exact (congrArg (fun x => x.2.2.1) same).trans (State.mem_aside hp).2

theorem seat_member {q : Pkg} (hq : q ∈ t.pkgs) (hf : q.formed = true) :
    ∃ p ∈ s.members order, q.seat = (p.joined order s.aclk).seat := by
  rcases seat_cases seats hq with member | ⟨p, hp, same⟩
  · exact member
  · have formed : q.formed = false := (congrArg (fun x => x.2.1) same).trans (State.mem_aside hp).1
    rw [hf] at formed
    cases formed

theorem seat_number {i : Nat} (hi : i < order.length) : ∃ q ∈ t.pkgs, q.num = i ∧ q.formed = true := by
  obtain ⟨p, hp, hnum⟩ := s.members_num hi
  have seated : (p.joined order s.aclk).seat ∈ t.pkgs.map Pkg.seat := by
    rw [seats]
    exact List.mem_map_of_mem (List.mem_append_left _ (List.mem_map_of_mem hp))
  obtain ⟨q, hq, same⟩ := List.mem_map.mp seated
  have num : q.num = p.num := congrArg (fun x => x.1) same
  exact ⟨q, hq, num.trans hnum, congrArg (fun x => x.2.1) same⟩

end

/-- A member's mirror, serial number and links are as the order of the serial numbers says. -/
theorem member_seat {s : State} {order : List Nat} {p q : Pkg} (hp : p ∈ s.members order)
    (same : q.seat = (p.joined order s.aclk).seat) :
    q.mirror = (q.num + 1) % order.length ∧ order[q.num]? = some q.boot.serial ∧
      ∀ k, k < 18 → (q.link k).up = (Config.linkPeer q.boot.serial k).any (fun x => order.contains x.1) := by
  have num : q.num = p.num := congrArg (fun x => x.1) same
  have mirror : q.mirror = (p.num + 1) % order.length := congrArg (fun x => x.2.2.2.1) same
  have boot : q.boot = p.boot := congrArg (fun x => x.2.2.2.2.1) same
  have links : q.links = (p.joined order s.aclk).links := congrArg (fun x => x.2.2.2.2.2) same
  refine ⟨by rw [mirror, num], by rw [num, boot]; exact State.mem_members hp, fun k hk => ?_⟩
  rw [Pkg.link, links, boot]
  exact p.joined_link_up order s.aclk hk

/-- R299 step 7: the control cores of a member that joins start with it. -/
theorem member_cores {s t : State} {order : List Nat} {p q : Pkg} {l : List Agent} {id : Nat} (hp : p ∈ s.members order)
    (same : q.seat = (p.joined order s.aclk).seat) (joins : ∀ r ∈ s.pkgs, r.keeps order = true → r.num ≠ q.num)
    (agents : t.agents.map (fun a => (a.pkg, a.cc)) =
      (l ++ startCores id (s.joining order ++ s.aside order)).map (fun a => (a.pkg, a.cc))) {k : Nat} (hk : k < 16) :
    ∃ a ∈ t.agents, ∃ c, a.pkg = q.num ∧ a.cc = some c ∧ c.num = k ∧ c.supervisor = true ∧ c.halted = q.recovery := by
  have num : q.num = p.num := congrArg (fun x => x.1) same
  have recovery : q.recovery = p.recovery := congrArg (fun x => x.2.2.1) same
  have new : p ∈ s.joining order := by
    rcases List.mem_append.mp hp with kept | new
    · obtain ⟨there, keeps⟩ := List.mem_filter.mp kept
      exact absurd num.symm (joins p there keeps)
    · exact new
  obtain ⟨a, ha, c, hpkg, hcc, hnum, hsup, hhalt⟩ := mem_startCores hk id (List.mem_append_left (s.aside order) new)
  have listed : (a.pkg, a.cc) ∈ t.agents.map (fun a => (a.pkg, a.cc)) := by
    rw [agents]
    exact List.mem_map_of_mem (List.mem_append_right l ha)
  obtain ⟨b, hb, eq⟩ := List.mem_map.mp listed
  obtain ⟨bpkg, bcc⟩ := Prod.mk.inj eq
  exact ⟨b, hb, c, by rw [bpkg, hpkg, num], by rw [bcc, hcc], hnum, hsup, by rw [hhalt, recovery]⟩

/-! ### Their memory -/

/-- A domain that keeps every package wipes none. -/
theorem State.leavers_none {s : State} {order : List Nat} (h : ∀ r ∈ s.pkgs, r.keeps order = true) : s.leavers order = s := by
  have none : s.pkgs.filter (fun p => !p.keeps order) = [] := List.filter_eq_nil_iff.mpr fun p hp => by simp [h p hp]
  rw [State.leavers, none, List.foldl_nil]

/-- The packages that leave are those that are not kept. -/
theorem mem_leavers {s : State} {order : List Nat} {size a : Nat} :
    (∃ r ∈ s.pkgs.filter (fun p => !p.keeps order), r.num * size ≤ a ∧ a < (r.num + 1) * size) ↔
      ∃ r ∈ s.pkgs, r.keeps order = false ∧ r.num * size ≤ a ∧ a < (r.num + 1) * size := by
  constructor
  · rintro ⟨r, hr, ha⟩
    obtain ⟨there, leaves⟩ := List.mem_filter.mp hr
    exact ⟨r, there, by simpa using leaves, ha⟩
  · rintro ⟨r, there, leaves, ha⟩
    exact ⟨r, List.mem_filter.mpr ⟨there, by rw [leaves]; rfl⟩, ha⟩

/-- R299: what a memory holds after the packages that a domain does not keep are gone. -/
theorem State.leavers_read {f : State → Mem} {size : Nat}
    (hf : ∀ s n, f (s.wipe n) = (f s).clear (n * size) ((n + 1) * size)) {s : State} (order : List Nat)
    (w : Memory.wf (f s) = true) (a : Nat) :
    ((∃ r ∈ s.pkgs, r.keeps order = false ∧ r.num * size ≤ a ∧ a < (r.num + 1) * size) →
        Memory.read (f (s.leavers order)) a = 0) ∧
      (¬(∃ r ∈ s.pkgs, r.keeps order = false ∧ r.num * size ≤ a ∧ a < (r.num + 1) * size) →
        Memory.read (f (s.leavers order)) a = Memory.read (f s) a) := by
  obtain ⟨gone, stays⟩ := State.foldl_wipe_read hf a (s.pkgs.filter (fun p => !p.keeps order)) w
  exact ⟨fun h => gone (mem_leavers.mpr h), fun h => stays fun h' => h (mem_leavers.mp h')⟩

end Sys2Proof.Machine
end

section
/-! O60: the events of the fabric, of errors and of power. -/
namespace Sys2Proof
open Machine Safety

/-- R290: what it is for an event to take a link down, at both of its ends. -/
theorem linkDown_ends {s : State} {pkg k : Nat} {p : Pkg} {i : Instr} (h : s.pkg? pkg = some p) (hk : k < 18)
    (hi : exec i s = .next (s.linkDown pkg k)) :
    ∃ t q, exec i s = .next t ∧ t.pkg? pkg = some q ∧ (q.link k).up = false ∧ SameBytes s t ∧
      ∀ x r, s.farEnd p k = some x → s.pkg? x.1 = some r → x.2 < 18 → ∃ r', t.pkg? x.1 = some r' ∧ (r'.link x.2).up = false := by
  obtain ⟨q, ends⟩ := State.linkDown_spec h hk
  exact ⟨_, q, hi, ends⟩

/-! ### The thresholds as they stand (R279) -/

theorem pkg?_put {s : State} {n : Nat} {p q : Pkg} (h : s.pkg? n = some p) (hq : q.num = n) :
    (s.modPkg n (fun _ => q)).pkg? n = some q := by
  rw [State.pkg?_modPkg _ _ _ fun _ _ => hq, h, Option.map_some]

section
variable {s : State} {pkg : Nat} {p : Pkg} {v : W} (port : Nat) (h : s.pkg? pkg = some p) (hf : p.formed = true)
  (hr : p.recovery = false) (hv : v.toNat % 2 ^ 16 ≠ 0) (hret : p.retired = [])
include h hf hr hv hret

/-- Thresholds that no logged page exceeds retire none. -/
theorem errCfg_stays (few : ∀ x ∈ p.ceLog, (p.ceLog.filter (fun y =>
      y.1 == x.1 && decide (s.aclk ≤ y.2 + v.toNat % 2 ^ 16 * 1300000000))).length ≤ v.toNat / 2 ^ 16 % 16) :
    exec (.configRegisterWrite pkg (.pf port) 0x300 (toLE 4 v.toNat)) s = .next (s.modPkg pkg (fun _ => p.errCfg v)) := by
  have written := pkg?_put (q := p.errCfg v) h (State.pkg?_num h :)
  rw [configRegisterWrite_errCfg port h hf hr hv, State.testThresholds_stays written hret]
  intro x hx
  rw [Pkg.ceCount_errCfg]
  exact few x hx

/-- A threshold that the one logged page exceeds retires it. -/
theorem errCfg_asks {k : Nat} (hn : p.ceLog ≠ []) (hk : ∀ x ∈ p.ceLog, x.1 = k)
    (many : v.toNat / 2 ^ 16 % 16 < (p.ceLog.filter (fun y =>
      y.1 == k && decide (s.aclk ≤ y.2 + v.toNat % 2 ^ 16 * 1300000000))).length) :
    exec (.configRegisterWrite pkg (.pf port) 0x300 (toLE 4 v.toNat)) s =
      .next ((s.modPkg pkg (fun _ => p.errCfg v)).askRetire pkg k) := by
  have written := pkg?_put (q := p.errCfg v) h (State.pkg?_num h :)
  rw [configRegisterWrite_errCfg port h hf hr hv, State.testThresholds_asks written hret hn hk]
  rw [Pkg.ceCount_errCfg]
  exact many

end

/-- Settles O60: each clause is what the event or the operation leaves, by the rules above. -/
theorem fabricAndErrorEvents : Obligations.FabricAndErrorEvents := by
  unfold Obligations.FabricAndErrorEvents
  refine ⟨?links, ?flits, ?bytes, ?domain, ?peers, ?errors, ?power⟩
  case links =>
    intro s pkg k p f h hk hup hlen
    have num : p.num = pkg := State.pkg?_num h
    refine ⟨fun hok => flitReceive_good h hk hup hlen hok, fun hok => flitReceive_lone h hk hup hlen hok,
      fun hok => flitReceive_again h hk hup hlen hok, fun hok hn hv => ?_,
      fun hok hn h2 h3 => linkDown_ends h hk (flitReceive_linkDown h hk hup hlen hok hn h2 h3),
      fun hr => linkDown_ends h hk (linkTimeout_silent h hk hup hr), fun hr => keepaliveSend_idle h hk hup hr⟩
    rw [flitReceive_drops h hk hup hlen hok hn hv, State.dropFlit, num]
    rfl
  case flits =>
    intro s pkg k p f h hk
    refine ⟨State.putFlit_out f h, fun x hx => State.putFlit_far f h hk hx, State.forward_lost pkg,
      fun hs hd => ⟨State.forward_held hs hd, fun j hj ho hw => State.forward_sent hs hd hj ho hw⟩, ?_,
      State.acceptFlit_lost pkg k, State.dropChunk_none s, fun i e hf he hc hr => State.dropChunk_stops hf he hc hr,
      fun _ ha => s.acceptFlit_alive pkg k ha, fun hs hc ha hd => ?_, fun hs hc ha hd => ?_,
      fun hs hc hw => State.acceptFlit_credit hs h hk hc hw⟩
    · intro x hx hv hsrc hdst ho hcx hcf
      exact State.overtakes_earlier hx (by simp [Flit.before, hv, hsrc, hdst, ho, hcx, hcf])
    · rw [State.acceptFlit_counted hs hc ha, if_pos hd]
      rfl
    · rw [State.acceptFlit_counted hs hc ha, if_neg hd]
      rfl
  case bytes =>
    intro s vc kind src dst addr bs
    exact ⟨fun h => by rw [State.carry, if_pos h], s.carry_flits vc kind addr bs, fun owner => s.carryMirror_flits owner addr bs,
      fun _ => s.exchange_ten src addr bs, s.exchange_ctl_read src addr bs, fun p hp hb => State.exchange_ctl_write hp hb⟩
  case domain =>
    intro s l order h0 h512 wf gone
    obtain ⟨t, hexec, hctl, hten, hhost, hcrews, seats, agents⟩ := domainForm_next h0 h512
    refine ⟨t, hexec, fun q hq hf => seat_recovery seats hq hf, fun q hq hf => ?_, fun i hi => seat_number seats hi, fun stay => ?_,
      fun a => ?_, fun a => ?_⟩
    · obtain ⟨p, hp, same⟩ := seat_member seats hq hf
      obtain ⟨mirror, serial, links⟩ := member_seat hp same
      exact ⟨mirror, serial, links, fun joins k hk => member_cores hp same joins agents hk⟩
    · rw [State.leavers_none stay] at hctl hten hhost hcrews
      exact sameBytes_of_eq hctl hten hhost hcrews
    · rw [hctl]
      exact State.leavers_read (fun s n => (s.wipe_spec n).1) _ wf.1 a
    · rw [hten]
      exact State.leavers_read (fun s n => (s.wipe_spec n).2.1) _ wf.2.1 a
  case peers =>
    intro s pkg peer p q hp hq hne
    refine ⟨fun hg hl ho hd => peerRouteTimeout_detects hp hq hne hg hl ho hd,
      fun hd => ⟨_, peerLossAgree_next hq hd, ?_⟩, homePromoted_next s peer, mirrorRebuildDone_next s peer⟩
    obtain ⟨pkgs, agents, lost, detected⟩ := s.lossAgreed_rid peer q.mirror
    refine ⟨fun r hr => pkgs _ (List.mem_map_of_mem hr), fun a ha => agents _ (List.mem_map_of_mem ha),
      s.lossAgreed_cmds peer q.mirror, lost, detected, fun hs hm hi hr hh => ?_,
      fun f hf hctl hcount haddr hdst hsrc hfm alive taken hc hm hi hr hh => ?_⟩
    · obtain ⟨home, promoting, rebuilding⟩ := State.lossAgreed_rehomed hs hm hi hr hh
      exact ⟨home, promoting, rebuilding⟩
    · have quiet : ∀ c ∈ s.cmds, c.pkg = peer → c.sent = false := by simp [hc]
      exact State.lossAgreed_resends quiet hm hi hr hh hc hf hctl hcount haddr hdst hsrc hfm alive taken
  case errors =>
    intro s pkg n r i j l p h
    refine ⟨fun hu => ⟨eccCorrectable_nowhere hu rfl, eccUncorrectable_nowhere hu rfl⟩, fun a hr hj => ?lane,
      fun hu => eccUncorrectable_nowhere hu rfl, fun hu => ?bead, fun hu => ⟨fun host => ?ctl, fun hc => ?counted⟩, ?thresholds,
      fun hu host => ?ten, fun hu => eccUncorrectable_nowhere hu rfl, ?table, rfl⟩
    case lane =>
      exact ⟨a.poisonLane_same hr hj, by rw [Agent.poisonLane_eq hr], by rw [Agent.poisonLane_eq hr],
        fun u v _ hne => a.poisonLane_other hr hne⟩
    case bead =>
      rw [eccUncorrectable_nowhere hu rfl]
      exact congrArg (fun f => Host.Outcome.next (State.modCrew _ i f)) (funext fun c => c.poisonBeads_bead n)
    case ctl =>
      have failed : ((s.countUe pkg).poisonUnit pkg (.ctl l)).pkg? pkg = some _ := State.pkg?_countUe h
      obtain ⟨q, hq, hmp, hctl, -⟩ := State.askRetire_host failed host
      exact ⟨_, q, eccUncorrectable_page hu rfl, hq, hctl, by rw [hmp]⟩
    case counted => exact eccCorrectable_ctl h hu hc
    case thresholds =>
      intro port v hf hr hv hlt hret p1 put count goes
      exact ⟨fun few => errCfg_stays port h hf hr hv hret few, fun k hn hk many => errCfg_asks port h hf hr hv hret hn hk many⟩
    case ten =>
      have failed : ((s.countUe pkg).poisonUnit pkg (.ten l)).pkg? pkg = some _ := State.pkg?_countUe h
      obtain ⟨q, -, -, -, hten⟩ := State.askRetire_host failed host
      exact ⟨_, eccUncorrectable_page hu rfl, hten⟩
    case table => exact eccUncorrectable_nowhere (by simp [State.unitOn, h]) rfl
  case power =>
    intro s pkg vf p g h
    refine ⟨fun wf => ?_, rfl, rfl⟩
    obtain ⟨hctl, hten, hcrews, hlaunches, hcmds⟩ := s.packageReset_frame pkg (p.bringUp s.aclk)
    obtain ⟨wctl, wten, -, wcrews, wlaunches, wcmds, -⟩ := s.wipe_spec pkg
    have num : p.num = pkg := State.pkg?_num h
    refine ⟨_, packageReset_next h, State.packageReset_pkg h num, ?_, ?_, ?_, fun k hk => ?_, fun a => ?_, fun a => ?_⟩
    · intro c hc
      rw [hcrews, wcrews] at hc
      simpa using (List.mem_filter.mp hc).2
    · intro l hl
      rw [hlaunches, wlaunches] at hl
      simpa using (List.mem_filter.mp hl).2
    · intro c hc
      rw [hcmds, wcmds] at hc
      simpa using (List.mem_filter.mp hc).2
    · obtain ⟨a, ha, c, hpkg, spec⟩ := (p.bringUp s.aclk).mem_cores _ false hk
      exact ⟨a, List.mem_append_right _ ha, c, hpkg.trans num, spec⟩
    · rw [hctl, wctl, Mem.read_clear wf.1]
    · rw [hten, wten, Mem.read_clear wf.2.1]

end Sys2Proof
end

section
/-! The fields of fmt and the words that read and write it (R50, R51, R398, R452), and TRAP (R463). -/
namespace Sys2Proof.Machine
open Sys2Proof.Safety

/-- The field of `len` bits from bit `s` on is clear where the number meets no bit of its mask. -/
theorem and_field_eq_zero (v s len : Nat) : v &&& (2 ^ len - 1) <<< s = 0 ↔ v / 2 ^ s % 2 ^ len = 0 := by
  have shifted : v &&& (2 ^ len - 1) <<< s = (v / 2 ^ s % 2 ^ len) <<< s := by
    refine Nat.eq_of_testBit_eq fun i => ?_
    by_cases hi : s ≤ i <;> simp [hi, ← Nat.shiftRight_eq_div_pow, Bool.and_comm]
  rw [shifted, Nat.shiftLeft_eq, Nat.mul_eq_zero, or_iff_left (by positivity)]

/-- R50, R51: bits 31:20 and 15:12 of fmt are reserved. -/
theorem reserved_clear (w : W) :
    w &&& 0xFFF0F000 = 0 ↔ w.toNat / 2 ^ 20 = 0 ∧ w.toNat / 2 ^ 12 % 2 ^ 4 = 0 := by
  have mask : (0xFFF0F000 : W).toNat = (2 ^ 12 - 1) <<< 20 ||| (2 ^ 4 - 1) <<< 12 := rfl
  have high : w.toNat / 2 ^ 20 % 2 ^ 12 = w.toNat / 2 ^ 20 := Nat.mod_eq_of_lt (by omega)
  rw [← BitVec.toNat_inj, BitVec.toNat_and, mask, show (0 : W).toNat = 0 from rfl, Nat.and_or_distrib_left,
    Nat.or_eq_zero_iff, and_field_eq_zero, and_field_eq_zero, high]

/-- R51: the values that SETFMT takes, by the fields of the number. -/
theorem fmtOk_iff (w : W) : fmtOk w = true ↔ w.toNat / 2 ^ 20 = 0 ∧ w.toNat / 2 ^ 12 % 2 ^ 4 = 0 ∧ w.toNat / 2 ^ 9 % 4 ≠ 3 ∧
    w.toNat / 2 ^ 5 % 16 ∈ [0, 1, 2, 3, 4, 5, 0xB, 0xC] := by
  have gsz : (w.extractLsb' 9 2 = 3) ↔ w.toNat / 2 ^ 9 % 4 = 3 := by
    rw [← BitVec.toNat_inj, BitVec.extractLsb'_toNat, Nat.shiftRight_eq_div_pow]; rfl
  have qf : fmtQf w = w.toNat / 2 ^ 5 % 16 := by
    rw [fmtQf, BitVec.extractLsb'_toNat, Nat.shiftRight_eq_div_pow]
  have listed (c : Nat) : qfOk c = true ↔ c ∈ [0, 1, 2, 3, 4, 5, 0xB, 0xC] := by
    simp [qfOk]; omega
  simp only [fmtOk, Bool.and_eq_true, beq_iff_eq, bne_iff_ne, ne_eq, reserved_clear, gsz, qf, listed, and_assoc]

variable {s : State} {x : Agent} {sd : Side} {c : Cursor}

/-- R65: a scalar-form word with no active lane only advances. -/
theorem scalarWord_idle {g : Pred} (h : Issues s x sd c) (hm : activeMask x sd g = 0) (k : Agent → Side → Cursor → State) :
    scalarWord s g k = .next (s.retire c) := by
  rw [scalarWord_next h, if_pos hm]

/-- R65: a scalar-form word with an active lane acts. -/
theorem scalarWord_acts {g : Pred} (h : Issues s x sd c) (hm : activeMask x sd g ≠ 0) (k : Agent → Side → Cursor → State) :
    scalarWord s g k = .next (k x sd c) := by
  rw [scalarWord_next h, if_neg hm]

end Sys2Proof.Machine
end

section
/-! O30: SETFMT, GETFMT and TRAP. -/
namespace Sys2Proof
open Machine Safety

/-- Settles O30: each word is a scalar-form word, and `fmtOk_iff` says which values SETFMT takes. -/
theorem fmtAndTrapResults : Obligations.FmtAndTrapResults := by
  unfold Obligations.FmtAndTrapResults
  refine ⟨fun s x sd c g r h => ?fmt, fun s x sd c g k h => ⟨fun hm => ?_, fun hm => ?_⟩⟩
  case fmt =>
    refine ⟨fun hm => ⟨?_, ?_⟩, fun hm => ?_, fun hm ok => ?_, fun hm bad => ?_⟩
    · rw [exec_setfmt, execSetfmt, scalarWord_idle h hm]
    · rw [exec_getfmt, execGetfmt, scalarWord_idle h hm]
    · rw [exec_getfmt, execGetfmt, scalarWord_acts h hm, wroteS]
    · rw [exec_setfmt, execSetfmt, scalarWord_acts h hm, if_pos ((fmtOk_iff _).mpr ok)]
    · rw [exec_setfmt, execSetfmt, scalarWord_acts h hm, if_neg (mt (fmtOk_iff _).mp bad)]
  · rw [exec_trap, execTrap, scalarWord_idle h hm]
  · rw [exec_trap, execTrap, scalarWord_acts h hm, Cause.trapInstr]

end Sys2Proof
end

section
/-! O14: conversions of infinities and NaNs. -/
namespace Sys2Proof
open Machine

theorem convertTo_inf_hasInf {f : Fmt} (h : Fmt.hasInf f = true) (rm : Rm) (ov : Ov) (ftz n : Bool) :
    convertTo f rm ov ftz (.inf n) = Conv.plain (Fmt.signBit f n + Fmt.infBits f) := by
  simp [convertTo, h]

/-- R48: an infinity overflows a format that has none. -/
theorem convertTo_inf_overflow {f : Fmt} (h : Fmt.hasInf f = false) (rm : Rm) (ov : Ov) (ftz n : Bool) :
    convertTo f rm ov ftz (.inf n) = Conv.overflow f ov n := by
  simp [convertTo, h]

/-- R48: under SAT a floating-point format takes an overflow to its largest finite value. -/
theorem ovResult_sat {f : Fmt} (h : Fmt.isFloat f = true) (n : Bool) : ovResult f .sat n = Fmt.signBit f n + Fmt.maxBits f := by
  cases f <;> simp [Fmt.isFloat, Fmt.layout] at h <;> rfl

theorem convertTo_nan_hasNan {f : Fmt} (h : Fmt.hasNan f = true) (rm : Rm) (ov : Ov) (ftz sig : Bool) :
    convertTo f rm ov ftz (.nan sig) = { Conv.plain (Fmt.canonNan f) with sinv := sig } := by
  simp [convertTo, h]

/-- R49: a NaN becomes zero in a format that has none, and is an invalid operation. -/
theorem convertTo_nan_invalid {f : Fmt} (h : Fmt.hasNan f = false) (rm : Rm) (ov : Ov) (ftz sig : Bool) :
    convertTo f rm ov ftz (.nan sig) = { Conv.plain 0 with sinv := true } := by
  simp [convertTo, h]

/-- Settles O14: an infinity stays one or overflows, a NaN stays one or is invalid, as the format has them or not. -/
theorem conversionOverflow : Obligations.ConversionOverflow := by
  unfold Obligations.ConversionOverflow
  intro rm ov ftz n
  have bits {f : Fmt} (h : Fmt.hasInf f = false) : (convertTo f rm ov ftz (.inf n)).bits = ovResult f ov n := by
    rw [convertTo_inf_overflow h]; rfl
  refine ⟨fun f h => convertTo_inf_hasInf h rm ov ftz n, fun f hf h => ?noInf, ?i32, ?n32, ?i8, ?i4, ?e4m3, ?sat,
    fun f sig h => convertTo_nan_hasNan h rm ov ftz sig, fun sig => ?nan, fun f sig h => ?noNan⟩
  case noInf =>
    rw [convertTo_inf_overflow h]
    refine ⟨rfl, by cases ov <;> rfl, fun hs => ?_⟩
    subst hs
    exact ovResult_sat hf n
  case i32 | n32 | i8 | i4 =>
    rw [bits rfl]
    cases n <;> rfl
  case e4m3 =>
    split
    case isTrue hov => rw [bits rfl]; rcases hov with rfl | rfl <;> rfl
    case isFalse => rfl
  case sat =>
    intro hs
    subst hs
    rw [bits rfl, ovResult_sat rfl]
    cases n <;> rfl
  case nan => rw [convertTo_nan_hasNan rfl]; rfl
  case noNan => rcases h with rfl | rfl | rfl | rfl | rfl <;> exact convertTo_nan_invalid rfl rm ov ftz sig

end Sys2Proof
end

section
/-! Finite values as rational numbers (R35), and exact sums and products of them (R381). -/
namespace Sys2Proof.Machine

/-- The number that a finite value is. -/
def FVal.toRat (v : FVal) : ℚ :=
  match v with
  | .fin n m e => (if n then -1 else 1) * (m : ℚ) * (2 : ℚ) ^ e
  | _ => 0

@[simp] theorem FVal.toRat_fin (n : Bool) (m : Nat) (e : Int) :
    (FVal.fin n m e).toRat = (if n then -1 else 1) * (m : ℚ) * (2 : ℚ) ^ e := rfl

theorem FVal.toRat_neg (m : Nat) (e : Int) : (FVal.fin true m e).toRat = -((m : ℚ) * 2 ^ e) := by
  simp

theorem FVal.toRat_pos (m : Nat) (e : Int) : (FVal.fin false m e).toRat = (m : ℚ) * 2 ^ e := by
  simp

/-! ### Products -/

theorem FVal.mul_fin (n k : Bool) (m p : Nat) (e g : Int) :
    (FVal.fin n m e).mul (.fin k p g) = .fin (n != k) (m * p) (e + g) := rfl

/-- The product of finite values is exact. -/
theorem FVal.toRat_mul (n k : Bool) (m p : Nat) (e g : Int) :
    (FVal.fin (n != k) (m * p) (e + g)).toRat = (FVal.fin n m e).toRat * (FVal.fin k p g).toRat := by
  cases n <;> cases k <;> simp [zpow_add₀] <;> ring

/-- R44: a product is a NaN only of a NaN, or of a zero and an infinity. -/
theorem FVal.isNan_mul {a b : FVal} (ha : a.isNan = false) (hb : b.isNan = false) (h : mulInvalid a b = false) :
    (a.mul b).isNan = false := by
  cases a <;> cases b <;> simp_all [FVal.isNan, FVal.mul, mulInvalid, FVal.isZero, FVal.isInf]

theorem FVal.isSig_of_isNan {v : FVal} (h : v.isNan = false) : v.isSig = false := by
  cases v <;> simp_all [FVal.isNan, FVal.isSig]

/-! ### Sums -/

theorem scaleTo_mul {e q : Int} (h : q ≤ e) (m : Nat) : (scaleTo m e q : ℚ) * 2 ^ q = m * 2 ^ e := by
  have split : (2 : ℚ) ^ e = 2 ^ (e - q).toNat * 2 ^ q := by
    rw [← zpow_natCast, ← zpow_add₀ two_ne_zero, Int.toNat_of_nonneg (by omega), sub_add_cancel]
  rw [scaleTo, Nat.cast_mul, Nat.cast_pow, Nat.cast_ofNat, split, mul_assoc]

/-- A finite value as a multiple of a power of two below its own. -/
theorem FVal.toIntAt_mul {e q : Int} (h : q ≤ e) (n : Bool) (m : Nat) :
    ((FVal.toIntAt q (.fin n m e) : Int) : ℚ) * 2 ^ q = (FVal.fin n m e).toRat := by
  cases n <;> simpa [FVal.toIntAt] using scaleTo_mul h m

/-- The step of `minExp`. -/
def minStep (acc : Option Int) (v : FVal) : Option Int :=
  match v with
  | .fin _ _ e =>
    match acc with
    | none => some e
    | some q => some (if e < q then e else q)
  | _ => acc

theorem minExp_eq (l : List FVal) : minExp l = l.foldl minStep none := rfl

/-- From an exponent on, the fold gives one that neither it nor any of the terms is below. -/
theorem minFold_le {l : List FVal} (fin : ∀ v ∈ l, ∃ n m e, v = .fin n m e) (q0 : Int) :
    ∃ q ≤ q0, l.foldl minStep (some q0) = some q ∧ ∀ n m e, .fin n m e ∈ l → q ≤ e := by
  induction l generalizing q0 with
  | nil => exact ⟨q0, le_rfl, rfl, by simp⟩
  | cons v t ih =>
    obtain ⟨n, m, e, rfl⟩ := fin v (by simp)
    obtain ⟨q, hq, hfold, hle⟩ := ih (fun w hw => fin w (by simp [hw])) (if e < q0 then e else q0)
    have both : q ≤ e ∧ q ≤ q0 := by split at hq <;> omega
    refine ⟨q, both.2, hfold, fun n' m' e' h => ?_⟩
    rcases List.mem_cons.mp h with h | h
    · cases h; exact both.1
    · exact hle _ _ _ h

/-- The least exponent of finite terms is one that none of them is below. -/
theorem minExp_le {l : List FVal} (hl : l ≠ []) (fin : ∀ v ∈ l, ∃ n m e, v = .fin n m e) :
    ∃ q, minExp l = some q ∧ ∀ n m e, .fin n m e ∈ l → q ≤ e := by
  cases l with
  | nil => exact absurd rfl hl
  | cons v t =>
    obtain ⟨n, m, e, rfl⟩ := fin v (by simp)
    obtain ⟨q, hq, hfold, hle⟩ := minFold_le (l := t) (fun w hw => fin w (by simp [hw])) e
    refine ⟨q, (minExp_eq _).trans hfold, fun n' m' e' h => ?_⟩
    rcases List.mem_cons.mp h with h | h
    · cases h; exact hq
    · exact hle _ _ _ h

/-- Terms taken as multiples of one power of two add up to their sum. -/
theorem sum_toIntAt {l : List FVal} {q : Int} (fin : ∀ v ∈ l, ∃ n m e, v = .fin n m e) (hle : ∀ n m e, .fin n m e ∈ l → q ≤ e) :
    (((l.map (FVal.toIntAt q)).sum : Int) : ℚ) * 2 ^ q = (l.map FVal.toRat).sum := by
  induction l with
  | nil => simp
  | cons v t ih =>
    obtain ⟨n, m, e, rfl⟩ := fin v (by simp)
    rw [List.map_cons, List.sum_cons, List.map_cons, List.sum_cons, Int.cast_add, add_mul,
      FVal.toIntAt_mul (hle n m e (by simp)),
      ih (fun w hw => fin w (by simp [hw])) (fun n m e h => hle n m e (by simp [h]))]

/-- The sign of a sum that is zero (R381, R55): that of its terms where they are zeros of one sign, else `nz`. -/
def zeroSign (nz : Bool) (l : List FVal) : Bool :=
  if l.all (fun v => v.isZero && v.sign) then true else if l.all (fun v => v.isZero && !v.sign) then false else nz

/-- The sum of finite terms: an integer multiple of a power of two, or a zero with its sign. -/
theorem sumExact_terms {l : List FVal} (nz : Bool) (hl : l ≠ []) (fin : ∀ v ∈ l, ∃ n m e, v = .fin n m e) :
    ∃ (t q : Int), (t : ℚ) * 2 ^ q = (l.map FVal.toRat).sum ∧
      sumExact nz l = if t = 0 then .fin (zeroSign nz l) 0 0 else .fin (t < 0) t.natAbs q := by
  obtain ⟨q, hmin, hle⟩ := minExp_le hl fin
  have notNan : l.any FVal.isNan = false := List.any_eq_false.mpr fun v hv => by
    obtain ⟨n, m, e, rfl⟩ := fin v hv; simp [FVal.isNan]
  have notInf (k : Bool) : l.any (fun v => v == .inf k) = false := List.any_eq_false.mpr fun v hv => by
    obtain ⟨n, m, e, rfl⟩ := fin v hv; simp
  refine ⟨(l.map (FVal.toIntAt q)).sum, q, sum_toIntAt fin hle, ?_⟩
  simp only [sumExact, sumInvalid, notNan, notInf, hmin, ← List.sum_eq_foldl, zeroSign, Bool.or_self, Bool.and_self,
    Bool.false_eq_true, if_false]
  split_ifs <;> rfl

/-- The sum of finite values is exact, and the sign of a zero sum is that of `zeroSign`. -/
theorem sumExact_fin {l : List FVal} (nz : Bool) (hl : l ≠ []) (fin : ∀ v ∈ l, ∃ n m e, v = .fin n m e) :
    ∃ n m e, sumExact nz l = .fin n m e ∧ (FVal.fin n m e).toRat = (l.map FVal.toRat).sum ∧ (m = 0 → n = zeroSign nz l) := by
  obtain ⟨t, q, hsum, heq⟩ := sumExact_terms nz hl fin
  rw [heq, ← hsum]
  rcases lt_trichotomy t 0 with ht | rfl | ht
  · refine ⟨true, t.natAbs, q, by simp [ht, ht.ne], ?_, by omega⟩
    rw [FVal.toRat_neg, Nat.cast_natAbs, abs_of_neg ht]
    push_cast; ring
  · exact ⟨zeroSign nz l, 0, 0, rfl, by simp, fun _ => rfl⟩
  · refine ⟨false, t.natAbs, q, by simp [ht.ne', ht.le], ?_, by omega⟩
    rw [FVal.toRat_pos, Nat.cast_natAbs, abs_of_pos ht]

/-- An infinity with no NaN and no infinity of the other sign beside it is the sum. -/
theorem sumExact_inf {l : List FVal} {k : Bool} (nz : Bool) (hk : .inf k ∈ l) (h : ∀ v ∈ l, v.isNan = false ∧ v ≠ .inf (!k)) :
    sumExact nz l = .inf k := by
  have notNan : l.any FVal.isNan = false := List.any_eq_false.mpr fun v hv => by simp [(h v hv).1]
  have this : l.any (fun v => v == .inf k) = true := List.any_eq_true.mpr ⟨_, hk, by simp⟩
  have other : l.any (fun v => v == .inf (!k)) = false := List.any_eq_false.mpr fun v hv => by simp [(h v hv).2]
  cases k
  · simp only [Bool.not_false] at other
    simp [sumExact, sumInvalid, notNan, this, other]
  · simp only [Bool.not_true] at other
    simp [sumExact, sumInvalid, notNan, this, other]

/-! ### One rounding -/

section
variable {f : Fmt} (rm : Rm) (ftz : Bool) {a b a1 b1 c : FVal}

/-- R381: a sum that is not invalid and has no NaN is rounded once. -/
theorem sumRes_rounds {l : List FVal} (hn : ∀ v ∈ l, v.isNan = false) (h : sumInvalid l = false) :
    sumRes f rm ftz false l = roundRes f rm ftz (sumExact (rm == .rdn) l) := by
  have notNan : l.any FVal.isNan = false := List.any_eq_false.mpr fun v hv => by simp [hn v hv]
  simp [sumRes, h, notNan]

theorem addRes_rounds (ha : a.isNan = false) (hb : b.isNan = false) (h : sumInvalid [a, b] = false) :
    addRes f rm ftz a b = roundRes f rm ftz (sumExact (rm == .rdn) [a, b]) := by
  rw [addRes, FVal.isSig_of_isNan ha, FVal.isSig_of_isNan hb]
  exact sumRes_rounds rm ftz (by simp [ha, hb]) h

theorem mulRes_rounds (ha : a.isNan = false) (hb : b.isNan = false) (h : mulInvalid a b = false) :
    mulRes f rm ftz a b = roundRes f rm ftz (a.mul b) := by
  simp [mulRes, FVal.isSig_of_isNan ha, FVal.isSig_of_isNan hb, ha, hb, h]

theorem fmaRes_rounds (ha : a.isNan = false) (hb : b.isNan = false) (hc : c.isNan = false) (hm : mulInvalid a b = false)
    (h : sumInvalid [a.mul b, c] = false) :
    fmaRes f rm ftz a b c = roundRes f rm ftz (sumExact (rm == .rdn) [a.mul b, c]) := by
  rw [fmaRes, FVal.isSig_of_isNan ha, FVal.isSig_of_isNan hb, FVal.isSig_of_isNan hc, hm]
  exact sumRes_rounds rm ftz (by simp [FVal.isNan_mul ha hb hm, hc]) h

theorem dot2Res_rounds (ha : a.isNan = false) (hb : b.isNan = false) (ha1 : a1.isNan = false) (hb1 : b1.isNan = false)
    (hc : c.isNan = false) (hm : mulInvalid a b = false) (hm1 : mulInvalid a1 b1 = false)
    (h : sumInvalid [a.mul b, a1.mul b1, c] = false) :
    dot2Res rm ftz a b a1 b1 c = roundRes .fp32 rm ftz (sumExact (rm == .rdn) [a.mul b, a1.mul b1, c]) := by
  rw [dot2Res, FVal.isSig_of_isNan ha, FVal.isSig_of_isNan hb, FVal.isSig_of_isNan ha1, FVal.isSig_of_isNan hb1,
    FVal.isSig_of_isNan hc, hm, hm1]
  exact sumRes_rounds rm ftz (by simp [FVal.isNan_mul ha hb hm, FVal.isNan_mul ha1 hb1 hm1, hc]) h

end

end Sys2Proof.Machine
end

section
/-! The magnitudes of a format in order (R35, R36, R38): what a pattern without its sign stands for. -/
namespace Sys2Proof.Machine

/-! ### Steps -/

/-- The magnitude pattern `p` of a format with `fb` fraction bits, as a multiple of the least subnormal: its significand 0.F or
1.F without the point, times the power of two of its exponent. -/
def magUnits (fb p : Nat) : Nat := ((if p / 2 ^ fb = 0 then 0 else 2 ^ fb) + p % 2 ^ fb) * 2 ^ (p / 2 ^ fb - 1)

/-- An exponent and a significand, one beyond the largest among them, give the pattern of their product. -/
theorem magUnits_add {fb a n : Nat} (hn : n ≤ 2 ^ (fb + 1)) (ha : a = 0 ∨ 2 ^ fb ≤ n) :
    magUnits fb (a * 2 ^ fb + n) = n * 2 ^ a := by
  have pos : 0 < 2 ^ fb := by positivity
  have quot : (a * 2 ^ fb + n) / 2 ^ fb = a + n / 2 ^ fb := by rw [Nat.add_comm, Nat.add_mul_div_right _ _ pos, Nat.add_comm]
  rw [pow_succ'] at hn
  rw [magUnits, quot, Nat.mul_add_mod']
  rcases Nat.lt_or_ge n (2 ^ fb) with lo | lo
  · obtain rfl : a = 0 := ha.resolve_right (by omega)
    simp [Nat.div_eq_of_lt lo, Nat.mod_eq_of_lt lo]
  · obtain ⟨r, rfl⟩ := Nat.exists_eq_add_of_le lo
    rcases Nat.lt_or_ge r (2 ^ fb) with hi | hi
    · simp [Nat.div_eq_of_lt hi, Nat.mod_eq_of_lt hi, pos]
    · obtain rfl : r = 2 ^ fb := by omega
      simp [← two_mul, pow_succ']
      ring

/-- The significand and the exponent of a pattern. -/
theorem magUnits_parts (fb p : Nat) : ∃ a n, p = a * 2 ^ fb + n ∧ a = p / 2 ^ fb - 1 ∧ n < 2 ^ (fb + 1) ∧ (a = 0 ∨ 2 ^ fb ≤ n) := by
  have pos : 0 < 2 ^ fb := by positivity
  have split := Nat.div_add_mod' p (2 ^ fb)
  have rem := Nat.mod_lt p pos
  rw [pow_succ]
  rcases Nat.eq_zero_or_pos (p / 2 ^ fb) with h | h
  · rw [h] at split
    exact ⟨0, p, by simp, by omega, by omega, .inl rfl⟩
  · obtain ⟨a, ha⟩ : ∃ a, p / 2 ^ fb = a + 1 := ⟨_, (Nat.sub_add_cancel h).symm⟩
    rw [ha, Nat.add_one_mul] at split
    exact ⟨a, 2 ^ fb + p % 2 ^ fb, by omega, by omega, by omega, .inr (by omega)⟩

/-- From one pattern to the next is one unit of its exponent. -/
theorem magUnits_succ (fb p : Nat) : magUnits fb (p + 1) = magUnits fb p + 2 ^ (p / 2 ^ fb - 1) := by
  obtain ⟨a, n, hp, ha, hn, hlo⟩ := magUnits_parts fb p
  have here : magUnits fb p = n * 2 ^ a := hp ▸ magUnits_add hn.le hlo
  have next : magUnits fb (p + 1) = (n + 1) * 2 ^ a := by
    rw [hp, Nat.add_assoc]
    exact magUnits_add hn (hlo.imp_right Nat.le_succ_of_le)
  rw [next, here, ← ha, Nat.add_one_mul]

/-! ### Magnitudes -/

/-- The magnitude that pattern `p` of a floating-point format stands for, as if there were no largest exponent. -/
def Fmt.magVal (f : Fmt) (p : Nat) : ℚ :=
  match Fmt.layout f with
  | some (_, fb, bias) => magUnits fb p * (2 : ℚ) ^ (1 - (bias : Int) - fb)
  | none => 0

variable {f : Fmt} {eb fb bias : Nat}

theorem Fmt.magVal_eq (h : Fmt.layout f = some (eb, fb, bias)) (p : Nat) :
    Fmt.magVal f p = magUnits fb p * (2 : ℚ) ^ (1 - (bias : Int) - fb) := by
  rw [Fmt.magVal, h]

theorem Fmt.layout_of_isFloat (h : Fmt.isFloat f = true) : ∃ eb fb bias, Fmt.layout f = some (eb, fb, bias) := by
  obtain ⟨⟨eb, fb, bias⟩, hl⟩ := Option.isSome_iff_exists.mp h
  exact ⟨eb, fb, bias, hl⟩

@[simp] theorem Fmt.magVal_zero (f : Fmt) : Fmt.magVal f 0 = 0 := by
  unfold Fmt.magVal
  split <;> simp [magUnits]

theorem Fmt.magVal_succ (h : Fmt.layout f = some (eb, fb, bias)) (p : Nat) :
    Fmt.magVal f (p + 1) = Fmt.magVal f p + 2 ^ (p / 2 ^ fb - 1) * (2 : ℚ) ^ (1 - (bias : Int) - fb) := by
  rw [Fmt.magVal_eq h, Fmt.magVal_eq h, magUnits_succ]
  push_cast
  ring

theorem Fmt.magVal_strictMono (h : Fmt.isFloat f = true) : StrictMono (Fmt.magVal f) := by
  obtain ⟨eb, fb, bias, hl⟩ := Fmt.layout_of_isFloat h
  refine strictMono_nat_of_lt_succ fun p => ?_
  rw [Fmt.magVal_succ hl]
  exact lt_add_of_pos_right _ (by positivity)

/-! ### Limits -/

theorem Fmt.bits_of_layout (h : Fmt.layout f = some (eb, fb, bias)) : Fmt.bits f = eb + fb + 1 := by
  cases f <;> cases h <;> rfl

theorem Fmt.one_le_fraction (h : Fmt.layout f = some (eb, fb, bias)) : 1 ≤ fb := by
  cases f <;> cases h <;> decide

theorem Fmt.maxBits_lt (h : Fmt.layout f = some (eb, fb, bias)) : Fmt.maxBits f < 2 ^ (eb + fb) := by
  cases f <;> cases h <;> decide

/-- R36: a format with an infinity gives it the greatest exponent. -/
theorem Fmt.maxBits_of_hasInf (h : Fmt.layout f = some (eb, fb, bias)) (hi : Fmt.hasInf f = true) :
    Fmt.maxBits f + 1 = (2 ^ eb - 1) * 2 ^ fb := by
  cases f <;> cases h <;> simp [Fmt.hasInf] at hi <;> rfl

/-- Beyond the largest finite value the steps of its exponent go on. -/
theorem Fmt.magVal_beyond (h : Fmt.isFloat f = true) :
    Fmt.magVal f (Fmt.maxBits f + 1) =
      Fmt.magVal f (Fmt.maxBits f) + (Fmt.magVal f (Fmt.maxBits f) - Fmt.magVal f (Fmt.maxBits f - 1)) := by
  obtain ⟨eb, fb, bias, hl⟩ := Fmt.layout_of_isFloat h
  have same : Fmt.maxBits f = Fmt.maxBits f - 1 + 1 ∧ Fmt.maxBits f / 2 ^ fb = (Fmt.maxBits f - 1) / 2 ^ fb := by
    cases f <;> cases hl <;> decide
  have here := Fmt.magVal_succ hl (Fmt.maxBits f - 1)
  rw [← same.1, ← same.2] at here
  rw [Fmt.magVal_succ hl, here]
  ring

/-! ### What a pattern stands for -/

theorem Fmt.value_layout (h : Fmt.layout f = some (eb, fb, bias)) (x : Nat) :
    Fmt.value f x = decodeFloat f eb fb bias (x % 2 ^ (1 + eb + fb)) := by
  unfold Fmt.value
  rw [h]

/-- The fields of a pattern, by its sign and the rest. -/
theorem pattern_fields (eb fb x : Nat) :
    x % 2 ^ (1 + eb + fb) / 2 ^ (eb + fb) % 2 = x / 2 ^ (eb + fb) % 2 ∧
    x % 2 ^ (1 + eb + fb) / 2 ^ fb % 2 ^ eb = x % 2 ^ (eb + fb) / 2 ^ fb ∧
    x % 2 ^ (1 + eb + fb) % 2 ^ fb = x % 2 ^ (eb + fb) % 2 ^ fb ∧
    x % 2 ^ (1 + eb + fb) % 2 ^ (eb + fb) = x % 2 ^ (eb + fb) := by
  have width : 2 ^ (1 + eb + fb) = 2 ^ (eb + fb) * 2 := by rw [← pow_succ]; congr 1; omega
  have low : 2 ^ (eb + fb) = 2 ^ fb * 2 ^ eb := by rw [← pow_add, Nat.add_comm]
  have rest : x % 2 ^ (1 + eb + fb) % 2 ^ (eb + fb) = x % 2 ^ (eb + fb) := Nat.mod_mod_of_dvd _ ⟨2, width⟩
  refine ⟨?_, ?_, ?_, rest⟩
  · rw [width, Nat.mod_mul_right_div_self, Nat.mod_mod]
  · rw [← Nat.mod_mul_right_div_self, ← low, rest]
  · rw [← rest, Nat.mod_mod_of_dvd _ ⟨_, low⟩]

/-- A format without an infinity is E4M3, whose one pattern beyond the largest finite value is its NaN, or E2M1, which has none. -/
theorem Fmt.noInf_cases (h : Fmt.layout f = some (eb, fb, bias)) (hi : Fmt.hasInf f = false) :
    (f = .e4m3 ∧ eb + fb = 7 ∧ Fmt.maxBits f = 126) ∨ (f ≠ .e4m3 ∧ Fmt.maxBits f + 1 = 2 ^ (eb + fb)) := by
  cases f <;> cases h <;> simp [Fmt.hasInf] at hi <;> decide

/-- R36: the patterns that stand for no finite value. -/
def Fmt.special (f : Fmt) (eb fb x : Nat) : Prop :=
  (f = .e4m3 ∧ x % 128 = 127) ∨ (Fmt.hasInf f = true ∧ x / 2 ^ fb % 2 ^ eb = 2 ^ eb - 1)

/-- The special patterns are those beyond the largest finite value. -/
theorem Fmt.special_iff (h : Fmt.layout f = some (eb, fb, bias)) (x : Nat) :
    Fmt.special f eb fb (x % 2 ^ (1 + eb + fb)) ↔ Fmt.maxBits f < x % 2 ^ (eb + fb) := by
  obtain ⟨-, exp, -, rest⟩ := pattern_fields eb fb x
  have low : x % 2 ^ (eb + fb) < 2 ^ (eb + fb) := Nat.mod_lt _ (by positivity)
  rw [Fmt.special, exp]
  cases hi : Fmt.hasInf f
  · rcases Fmt.noInf_cases h hi with ⟨rfl, width, top⟩ | ⟨other, top⟩
    · rw [width] at low rest ⊢
      simp [show (128 : Nat) = 2 ^ 7 from rfl, top]
      omega
    · simp [other]
      omega
  · have noE4m3 : f ≠ .e4m3 := by rintro rfl; cases hi
    have top := Fmt.maxBits_of_hasInf h hi
    have quot : x % 2 ^ (eb + fb) / 2 ^ fb < 2 ^ eb :=
      Nat.div_lt_of_lt_mul (by rwa [← pow_add, Nat.add_comm fb])
    have bound := Nat.le_div_iff_mul_le (x := 2 ^ eb - 1) (y := x % 2 ^ (eb + fb)) (show 0 < 2 ^ fb by positivity)
    simp only [noE4m3, false_and, true_and, false_or]
    omega

theorem decodeFloat_special {x : Nat} (hx : Fmt.special f eb fb x) (n : Bool) (m : Nat) (e : Int) :
    decodeFloat f eb fb bias x ≠ .fin n m e := by
  rcases hx with ⟨rfl, h⟩ | ⟨hi, h⟩
  · simp [decodeFloat, h]
  · simp only [decodeFloat, hi, h]
    split_ifs <;> simp_all

/-- R35: a pattern that is not special is a subnormal, or has the significand 1.F. -/
theorem decodeFloat_finite {x : Nat} (hx : ¬Fmt.special f eb fb x) :
    decodeFloat f eb fb bias x = .fin (x / 2 ^ (eb + fb) % 2 == 1)
      ((if x / 2 ^ fb % 2 ^ eb = 0 then 0 else 2 ^ fb) + x % 2 ^ fb)
      ((x / 2 ^ fb % 2 ^ eb - 1 : Nat) + (1 - (bias : Int) - fb)) := by
  obtain ⟨noNan, noInf⟩ := not_or.mp hx
  have notNan : (f == .e4m3 && x % 128 == 0x7F) = false := by simpa using noNan
  have notInf : (Fmt.hasInf f && x / 2 ^ fb % 2 ^ eb == 2 ^ eb - 1) = false := by simpa using noInf
  simp only [decodeFloat, notNan, notInf, Bool.false_eq_true, if_false, beq_iff_eq]
  by_cases exp : x / 2 ^ fb % 2 ^ eb = 0
  · simp [exp]
  · have least : ((x / 2 ^ fb % 2 ^ eb - 1 : Nat) : Int) + (1 - (bias : Int) - fb) = (x / 2 ^ fb % 2 ^ eb : Nat) - bias - fb := by
      omega
    rw [if_neg exp, if_neg exp, least]

/-- Up to the largest finite value a pattern stands for the magnitude of its rest, with its sign. -/
theorem Fmt.value_of_le (h : Fmt.layout f = some (eb, fb, bias)) {x : Nat} (hx : x % 2 ^ (eb + fb) ≤ Fmt.maxBits f) :
    ∃ m e, Fmt.value f x = .fin (x / 2 ^ (eb + fb) % 2 == 1) m e ∧ (m : ℚ) * 2 ^ e = Fmt.magVal f (x % 2 ^ (eb + fb)) := by
  obtain ⟨sign, exp, frac, -⟩ := pattern_fields eb fb x
  have val := Fmt.value_layout h x
  rw [decodeFloat_finite (mt (Fmt.special_iff h x).mp hx.not_gt), sign, exp, frac] at val
  refine ⟨_, _, val, ?_⟩
  rw [Fmt.magVal_eq h, magUnits, zpow_add₀ two_ne_zero, zpow_natCast]
  push_cast
  ring

/-- A finite value is that of its sign and of the magnitude of the rest of its pattern. -/
theorem Fmt.value_fin (hf : Fmt.isFloat f = true) {x m : Nat} {n : Bool} {e : Int} (hx : Fmt.value f x = .fin n m e) :
    x % 2 ^ (Fmt.bits f - 1) ≤ Fmt.maxBits f ∧ n = (x / 2 ^ (Fmt.bits f - 1) % 2 == 1) ∧
      (m : ℚ) * 2 ^ e = Fmt.magVal f (x % 2 ^ (Fmt.bits f - 1)) := by
  obtain ⟨eb, fb, bias, h⟩ := Fmt.layout_of_isFloat hf
  rw [Fmt.bits_of_layout h, Nat.add_sub_cancel]
  by_cases le : x % 2 ^ (eb + fb) ≤ Fmt.maxBits f
  · obtain ⟨m', e', hv, hmag⟩ := Fmt.value_of_le h le
    obtain ⟨rfl, rfl, rfl⟩ : _ = n ∧ m' = m ∧ e' = e := by simpa [hv] using hx
    exact ⟨le, rfl, hmag⟩
  · rw [Fmt.value_layout h] at hx
    exact absurd hx (decodeFloat_special ((Fmt.special_iff h x).mpr (not_le.mp le)) n m e)

theorem Fmt.signBit_eq (f : Fmt) (n : Bool) : Fmt.signBit f n = 2 ^ (Fmt.bits f - 1) * n.toNat := by
  cases n <;> simp [Fmt.signBit]

/-- A sign and a magnitude pattern stand for that magnitude with that sign. -/
theorem Fmt.value_signBit_add (hf : Fmt.isFloat f = true) (n : Bool) {p : Nat} (hp : p ≤ Fmt.maxBits f) :
    (Fmt.signBit f n + p) % 2 ^ (Fmt.bits f - 1) = p ∧
      ∃ m e, Fmt.value f (Fmt.signBit f n + p) = .fin n m e ∧ (m : ℚ) * 2 ^ e = Fmt.magVal f p := by
  obtain ⟨eb, fb, bias, h⟩ := Fmt.layout_of_isFloat hf
  have low : p < 2 ^ (eb + fb) := hp.trans_lt (Fmt.maxBits_lt h)
  have rest : (Fmt.signBit f n + p) % 2 ^ (eb + fb) = p := by
    rw [Fmt.signBit_eq, Fmt.bits_of_layout h, Nat.add_sub_cancel, Nat.mul_add_mod, Nat.mod_eq_of_lt low]
  have sign : (Fmt.signBit f n + p) / 2 ^ (eb + fb) = n.toNat := by
    rw [Fmt.signBit_eq, Fmt.bits_of_layout h, Nat.add_sub_cancel, Nat.mul_add_div (by positivity), Nat.div_eq_of_lt low, Nat.add_zero]
  obtain ⟨m, e, hv, hmag⟩ := Fmt.value_of_le h (x := Fmt.signBit f n + p) (rest.symm ▸ hp)
  rw [rest] at hmag
  rw [sign, show (n.toNat % 2 == 1) = n by cases n <;> rfl] at hv
  rw [Fmt.bits_of_layout h, Nat.add_sub_cancel]
  exact ⟨rest, m, e, hv, hmag⟩

/-- A pattern is its sign and the rest. -/
theorem Fmt.pattern_eq (hf : Fmt.isFloat f = true) {x : Nat} (hx : x < 2 ^ Fmt.bits f) :
    Fmt.signBit f (x / 2 ^ (Fmt.bits f - 1) % 2 == 1) + x % 2 ^ (Fmt.bits f - 1) = x := by
  obtain ⟨eb, fb, bias, h⟩ := Fmt.layout_of_isFloat hf
  rw [Fmt.bits_of_layout h, pow_succ] at hx
  rw [Fmt.signBit_eq, Fmt.bits_of_layout h, Nat.add_sub_cancel]
  have sign : x / 2 ^ (eb + fb) < 2 := Nat.div_lt_of_lt_mul hx
  have bit : (x / 2 ^ (eb + fb) % 2 == 1).toNat = x / 2 ^ (eb + fb) := by
    interval_cases x / 2 ^ (eb + fb) <;> rfl
  rw [bit, Nat.div_add_mod]

end Sys2Proof.Machine
end

section
/-! Rounding (R45, R46): which pattern an exact magnitude rounds to, said by the order of the format's magnitudes. -/
namespace Sys2Proof.Machine

/-! ### What it is to round -/

/-- R45: whether a directed mode takes a value of this sign away from zero. -/
def roundsAway (rm : Rm) (neg : Bool) : Bool := (rm == .rup && !neg) || (rm == .rdn && neg)

/-- R45: whether the magnitude `y` rounds to pattern `k` or a lower one, where pattern `i` stands for `V i`. -/
def RoundsAtMost (V : Nat → ℚ) (rm : Rm) (neg : Bool) (y : ℚ) (k : Nat) : Prop :=
  if rm = .rne then 2 * y < V k + V (k + 1) ∨ 2 * y = V k + V (k + 1) ∧ k % 2 = 0
  else if roundsAway rm neg then y ≤ V k else y < V (k + 1)

/-- R45: the magnitude `y` rounds to pattern `K`. -/
def RoundsTo (V : Nat → ℚ) (rm : Rm) (neg : Bool) (y : ℚ) (K : Nat) : Prop := ∀ k, K ≤ k ↔ RoundsAtMost V rm neg y k

section
variable {V : Nat → ℚ} (hV : StrictMono V) {rm : Rm} {neg : Bool} {y : ℚ} {K k : Nat}
include hV

/-- Below the pattern next below a magnitude it does not round. -/
theorem not_roundsAtMost_of_le (h : V (k + 1) ≤ y) : ¬RoundsAtMost V rm neg y k := by
  have step := hV k.lt_succ_self
  unfold RoundsAtMost
  split_ifs <;> grind

/-- To a pattern beyond a magnitude, or one below, it rounds. -/
theorem roundsAtMost_of_lt (h : y < V k) : RoundsAtMost V rm neg y k := by
  have step := hV k.lt_succ_self
  unfold RoundsAtMost
  split_ifs
  · exact .inl (by grind)
  · exact h.le
  · exact h.trans step

/-- A magnitude of the format rounds to its own pattern. -/
theorem RoundsTo.exact (h : RoundsTo V rm neg (V k) K) : K = k := by
  refine le_antisymm ((h k).mpr ?_) (not_lt.mp fun hlt => ?_)
  · have step := hV k.lt_succ_self
    unfold RoundsAtMost
    split_ifs
    · exact .inl (by grind)
    · exact le_rfl
    · exact step
  · exact not_roundsAtMost_of_le hV (hV.monotone hlt) ((h K).mp le_rfl)

/-! ### What rounding gives in each mode -/

/-- A lower magnitude is no nearer, and as near only where the result is even. -/
theorem RoundsTo.nearest_of_lt (h : RoundsTo V .rne neg y K) (lt : k < K) :
    |V K - y| ≤ |V k - y| ∧ (|V K - y| = |V k - y| → K % 2 = 0) := by
  obtain ⟨j, rfl⟩ : ∃ j, K = j + 1 := ⟨K - 1, by omega⟩
  have before : ¬RoundsAtMost V .rne neg y j := fun hj => absurd ((h j).mpr hj) (by omega)
  simp only [RoundsAtMost, if_true, not_or, not_lt, not_and] at before
  obtain ⟨mid, odd⟩ := before
  have lower : V k ≤ V j := hV.monotone (by omega)
  have step := hV lt
  have dist : |V k - y| = y - V k := by rw [abs_sub_comm, abs_of_nonneg (by linarith)]
  rw [dist]
  refine ⟨abs_le.mpr ⟨by linarith, by linarith⟩, fun tie => ?_⟩
  have between : 2 * y = V j + V (j + 1) := by
    rcases abs_cases (V (j + 1) - y) with ⟨eq, -⟩ | ⟨eq, -⟩ <;> linarith
  have := odd between
  omega

/-- A higher magnitude is no nearer, and as near only where the result is even. -/
theorem RoundsTo.nearest_of_gt (h : RoundsTo V .rne neg y K) (gt : K < k) :
    |V K - y| ≤ |V k - y| ∧ (|V K - y| = |V k - y| → K % 2 = 0) := by
  have here : 2 * y < V K + V (K + 1) ∨ 2 * y = V K + V (K + 1) ∧ K % 2 = 0 := by simpa [RoundsAtMost] using (h K).mp le_rfl
  have mid : 2 * y ≤ V K + V (K + 1) := here.elim le_of_lt fun tie => tie.1.le
  have higher : V (K + 1) ≤ V k := hV.monotone gt
  have step := hV gt
  have dist : |V k - y| = V k - y := abs_of_nonneg (by linarith)
  rw [dist]
  refine ⟨abs_le.mpr ⟨by linarith, by linarith⟩, fun tie => (here.resolve_left fun less => ?_).2⟩
  rcases abs_cases (V K - y) with ⟨eq, -⟩ | ⟨eq, -⟩ <;> linarith

/-- To nearest: no magnitude is nearer, a tie going to the even pattern. -/
theorem RoundsTo.nearest (h : RoundsTo V .rne neg y K) (k : Nat) :
    |V K - y| ≤ |V k - y| ∧ (|V K - y| = |V k - y| → k ≠ K → K % 2 = 0) := by
  rcases lt_trichotomy k K with lt | rfl | gt
  · exact (h.nearest_of_lt hV lt).imp_right fun even tie _ => even tie
  · exact ⟨le_rfl, fun _ ne => absurd rfl ne⟩
  · exact (h.nearest_of_gt hV gt).imp_right fun even tie _ => even tie

/-- Toward zero: the greatest magnitude that is not beyond. -/
theorem RoundsTo.down (h : RoundsTo V rm neg y K) (ne : rm ≠ .rne) (away : roundsAway rm neg = false) (h0 : V 0 ≤ y) :
    V K ≤ y ∧ ∀ k, V k ≤ y → V k ≤ V K := by
  have iff (k : Nat) : K ≤ k ↔ y < V (k + 1) := by simpa [RoundsAtMost, ne, away] using h k
  constructor
  · cases K with
    | zero => exact h0
    | succ j => exact not_lt.mp fun hlt => absurd ((iff j).mpr hlt) (by omega)
  · exact fun k hk => hV.monotone (Nat.lt_succ_iff.mp (hV.lt_iff_lt.mp (hk.trans_lt ((iff K).mp le_rfl))))

/-- Away from zero: the least magnitude that is not short. -/
theorem RoundsTo.up (h : RoundsTo V rm neg y K) (ne : rm ≠ .rne) (away : roundsAway rm neg = true) :
    y ≤ V K ∧ ∀ k, y ≤ V k → V K ≤ V k := by
  have iff (k : Nat) : K ≤ k ↔ y ≤ V k := by simpa [RoundsAtMost, ne, away] using h k
  exact ⟨(iff K).mp le_rfl, fun k hk => hV.monotone ((iff k).mpr hk)⟩

end

/-! ### Rounding between two neighbours -/

/-- The magnitude `y` between `lo`, the number `N`, and `hi`, the number after it, rounded by the mode; and inexactness. -/
def roundCell (rm : Rm) (neg : Bool) (N : Nat) (lo hi y : ℚ) : Nat × Bool :=
  (roundInt rm neg N (decide (lo < y) && decide (2 * y < lo + hi)) (decide (2 * y = lo + hi)) (decide (lo + hi < 2 * y)),
    decide (lo ≠ y))

theorem roundInt_mem (rm : Rm) (neg : Bool) (N : Nat) (below tie above : Bool) :
    roundInt rm neg N below tie above = N ∨ roundInt rm neg N below tie above = N + 1 := by
  cases rm <;> simp only [roundInt] <;> grind

/-- Where a rounding keeps the number below. -/
theorem roundInt_le_iff (rm : Rm) (neg : Bool) (N : Nat) (below tie above : Bool) :
    roundInt rm neg N below tie above ≤ N ↔
      if rm = .rne then above = false ∧ (tie = true → N % 2 = 0)
      else if roundsAway rm neg then below = false ∧ tie = false ∧ above = false else True := by
  cases rm <;> cases neg <;> simp [roundInt, roundsAway] <;> grind

/-- A rounding adds to a number as it does to one of the same parity. -/
theorem roundInt_add {a : Nat} (ha : a % 2 = 0) (rm : Rm) (neg : Bool) (N : Nat) (below tie above : Bool) :
    roundInt rm neg (a + N) below tie above = a + roundInt rm neg N below tie above := by
  have parity : (a + N) % 2 = N % 2 := by omega
  cases rm <;> simp only [roundInt, parity] <;> split_ifs <;> omega

/-- Rounding between a pattern and the next is rounding to the format. -/
theorem roundCell_roundsTo {V : Nat → ℚ} (hV : StrictMono V) (rm : Rm) (neg : Bool) {y : ℚ} {P : Nat} (lo : V P ≤ y)
    (hi : y < V (P + 1)) : RoundsTo V rm neg y (roundCell rm neg P (V P) (V (P + 1)) y).1 := by
  intro k
  have mem := roundInt_mem rm neg P (decide (V P < y) && decide (2 * y < V P + V (P + 1))) (decide (2 * y = V P + V (P + 1)))
    (decide (V P + V (P + 1) < 2 * y))
  rcases lt_trichotomy k P with lt | rfl | gt
  · refine iff_of_false (by simp only [roundCell]; omega) (not_roundsAtMost_of_le hV (le_trans (hV.monotone lt) lo))
  · simp only [roundCell, roundInt_le_iff, RoundsAtMost]
    split_ifs
    · simp only [decide_eq_false_iff_not, decide_eq_true_eq]; grind
    · simp only [decide_eq_false_iff_not, Bool.and_eq_false_iff]; grind
    · exact iff_of_true trivial hi
  · exact iff_of_true (by simp only [roundCell]; omega) (roundsAtMost_of_lt hV (hi.trans_le (hV.monotone gt)))


/-- Rounding to a pattern is inexact where the pattern stands for another magnitude. -/
theorem roundCell_inexact {V : Nat → ℚ} (hV : StrictMono V) (rm : Rm) (neg : Bool) {y : ℚ} {P : Nat} (lo : V P ≤ y)
    (hi : y < V (P + 1)) :
    (roundCell rm neg P (V P) (V (P + 1)) y).2 = decide (V (roundCell rm neg P (V P) (V (P + 1)) y).1 ≠ y) := by
  have rounds := roundCell_roundsTo hV rm neg lo hi
  refine decide_eq_decide.mpr (not_congr ⟨fun eq => ?_, fun eq => ?_⟩)
  · subst eq
    rw [rounds.exact hV]
  · generalize (roundCell rm neg P (V P) (V (P + 1)) y).1 = K at eq
    subst eq
    have le := hV.le_iff_le.mp lo
    have lt := hV.lt_iff_lt.mp hi
    rw [show P = K by omega]

/-! ### The rounding of the model -/

/-- A number that is a multiple already is rounded to itself. -/
theorem roundCell_self (rm : Rm) (neg : Bool) (N : Nat) {lo hi : ℚ} (h : lo < hi) : roundCell rm neg N lo hi lo = (N, false) := by
  have tie : 2 * lo ≠ lo + hi := by grind
  have above : ¬lo + hi < 2 * lo := by grind
  simp only [roundCell, lt_irrefl, tie, above, decide_false, Bool.false_and, ne_eq, not_true_eq_false, Prod.mk.injEq, and_true]
  cases rm <;> simp [roundInt]

/-- A multiple of a power of two is rounded between two neighbouring multiples. -/
theorem roundAt_eq_roundCell (rm : Rm) (neg : Bool) (m : Nat) (e q : Int) :
    ∃ N : Nat, (N : ℚ) * 2 ^ q ≤ m * 2 ^ e ∧ (m : ℚ) * 2 ^ e < (N + 1 : Nat) * 2 ^ q ∧
      roundAt rm neg m e q = roundCell rm neg N (N * 2 ^ q) ((N + 1 : Nat) * 2 ^ q) (m * 2 ^ e) := by
  by_cases hq : q ≤ e
  · have step : (scaleTo m e q : ℚ) * 2 ^ q < (scaleTo m e q + 1 : Nat) * 2 ^ q := by gcongr; simp
    refine ⟨scaleTo m e q, (scaleTo_mul hq m).le, scaleTo_mul hq m ▸ step, ?_⟩
    rw [roundAt, if_pos hq, ← scaleTo_mul hq, roundCell_self rm neg _ step]
  · obtain ⟨j, rfl⟩ : ∃ j : Nat, q = (j + 1 : Nat) + e := ⟨(q - e).toNat - 1, by omega⟩
    have unit : (0 : ℚ) < 2 ^ e := by positivity
    have split := Nat.div_add_mod' m (2 ^ (j + 1))
    have rem := Nat.mod_lt m (show 0 < 2 ^ (j + 1) by positivity)
    have scaled (n : Nat) : (n : ℚ) * 2 ^ ((j + 1 : Nat) + e) = (n * 2 ^ (j + 1) : Nat) * 2 ^ e := by
      rw [zpow_add₀ two_ne_zero, zpow_natCast]; push_cast; ring
    have double (n k : Nat) : (n : ℚ) * 2 ^ e + k * 2 ^ e = (n + k : Nat) * 2 ^ e := by push_cast; ring
    have twice (n : Nat) : 2 * ((n : ℚ) * 2 ^ e) = (2 * n : Nat) * 2 ^ e := by push_cast; ring
    have lt (n k : Nat) : (n : ℚ) * 2 ^ e < k * 2 ^ e ↔ n < k := by rw [mul_lt_mul_iff_left₀ unit, Nat.cast_lt]
    have le (n k : Nat) : (n : ℚ) * 2 ^ e ≤ k * 2 ^ e ↔ n ≤ k := by rw [mul_le_mul_iff_left₀ unit, Nat.cast_le]
    have eq (n k : Nat) : (n : ℚ) * 2 ^ e = k * 2 ^ e ↔ n = k := by rw [mul_left_inj' unit.ne', Nat.cast_inj]
    have succ (n : Nat) : (n + 1) * 2 ^ (j + 1) = n * 2 ^ (j + 1) + 2 ^ (j + 1) := Nat.add_one_mul _ _
    refine ⟨m / 2 ^ (j + 1), ?_, ?_, ?_⟩
    · rw [scaled, le]; omega
    · rw [scaled, lt, succ]; omega
    · simp only [roundAt, roundCell, if_neg hq, scaled, double, twice, lt, eq, ne_eq, succ,
        show ((j + 1 : Nat) + e - e).toNat = j + 1 by omega, Nat.add_sub_cancel]
      generalize m / 2 ^ (j + 1) * 2 ^ (j + 1) = a at split
      generalize m % 2 ^ (j + 1) = r at split rem
      have half : 2 ^ (j + 1) = 2 * 2 ^ j := pow_succ' 2 j
      have least : a < m ↔ 0 < r := by omega
      have below : 2 * m < a + (a + 2 ^ (j + 1)) ↔ r < 2 ^ j := by omega
      have tie : 2 * m = a + (a + 2 ^ (j + 1)) ↔ r = 2 ^ j := by omega
      have above : a + (a + 2 ^ (j + 1)) < 2 * m ↔ 2 ^ j < r := by omega
      have whole : a = m ↔ r = 0 := by omega
      simp only [least, below, tie, above, whole]

/-! ### The magnitude of a floating-point result -/

/-- The exponent of the highest bit of a value. -/
theorem log2Of_le {m : Nat} (hm : m ≠ 0) (e : Int) : (2 : ℚ) ^ log2Of m e ≤ m * 2 ^ e := by
  rw [log2Of, zpow_add₀ two_ne_zero, zpow_natCast]
  gcongr
  exact_mod_cast Nat.log2_self_le hm

theorem lt_log2Of {m : Nat} (e : Int) : (m : ℚ) * 2 ^ e < 2 ^ (log2Of m e + 1) := by
  rw [log2Of, add_right_comm, zpow_add₀ two_ne_zero, ← Nat.cast_add_one, zpow_natCast]
  gcongr
  exact_mod_cast Nat.lt_log2_self

variable {f : Fmt} {eb fb bias : Nat}

theorem Fmt.isFloat_of_layout (h : Fmt.layout f = some (eb, fb, bias)) : Fmt.isFloat f = true := by
  rw [Fmt.isFloat, h]; rfl

/-- A significand and an exponent above the least give the pattern of their magnitude. -/
theorem Fmt.magVal_add (h : Fmt.layout f = some (eb, fb, bias)) {a n : Nat} (hn : n ≤ 2 ^ (fb + 1)) (ha : a = 0 ∨ 2 ^ fb ≤ n) :
    Fmt.magVal f (a * 2 ^ fb + n) = n * 2 ^ (a + (1 - (bias : Int) - fb)) := by
  rw [Fmt.magVal_eq h, magUnits_add hn ha, zpow_add₀ two_ne_zero, zpow_natCast]
  push_cast
  ring

/-- The exponent of the last place of a result: that of the highest bit less the format's fraction, or the least exponent. -/
def lastPlace (fb bias m : Nat) (e : Int) : Int :=
  if log2Of m e - fb < 1 - (bias : Int) - fb then 1 - (bias : Int) - fb else log2Of m e - fb

theorem le_lastPlace (fb bias m : Nat) (e : Int) : 1 - (bias : Int) - fb ≤ lastPlace fb bias m e := by
  unfold lastPlace
  split <;> omega

/-- A value has no more bits above its last place than the format. -/
theorem lt_lastPlace (fb bias m : Nat) (e : Int) : (m : ℚ) * 2 ^ e < (2 ^ (fb + 1) : Nat) * 2 ^ lastPlace fb bias m e := by
  have exp : log2Of m e + 1 ≤ (fb + 1 : Nat) + lastPlace fb bias m e := by
    unfold lastPlace
    split <;> omega
  calc (m : ℚ) * 2 ^ e < 2 ^ (log2Of m e + 1) := lt_log2Of e
    _ ≤ 2 ^ ((fb + 1 : Nat) + lastPlace fb bias m e) := zpow_le_zpow_right₀ one_le_two exp
    _ = _ := by rw [zpow_add₀ two_ne_zero, zpow_natCast, Nat.cast_pow, Nat.cast_ofNat]

/-- Above the least exponent a value has as many bits as the format. -/
theorem lastPlace_le {m : Nat} (hm : m ≠ 0) (fb bias : Nat) (e : Int) (h : lastPlace fb bias m e ≠ 1 - (bias : Int) - fb) :
    ((2 ^ fb : Nat) : ℚ) * 2 ^ lastPlace fb bias m e ≤ m * 2 ^ e := by
  have exp : (fb : Int) + lastPlace fb bias m e = log2Of m e := by
    unfold lastPlace at h ⊢
    split at h <;> omega
  calc _ = (2 : ℚ) ^ ((fb : Int) + lastPlace fb bias m e) := by
        rw [zpow_add₀ two_ne_zero, zpow_natCast, Nat.cast_pow, Nat.cast_ofNat]
    _ ≤ _ := exp ▸ log2Of_le hm e

theorem roundMag_eq {m : Nat} (hm : m ≠ 0) (eb fb bias : Nat) (rm : Rm) (neg : Bool) (e : Int) :
    roundMag eb fb bias rm neg m e =
      ((lastPlace fb bias m e - (1 - (bias : Int) - fb)).toNat * 2 ^ fb + (roundAt rm neg m e (lastPlace fb bias m e)).1,
        (roundAt rm neg m e (lastPlace fb bias m e)).2) := by
  rw [roundMag, if_neg hm]
  rfl

/-- A magnitude is rounded between the pattern below it and the next one. -/
theorem roundMag_eq_roundCell (h : Fmt.layout f = some (eb, fb, bias)) (rm : Rm) (neg : Bool) (m : Nat) (e : Int) :
    ∃ P, Fmt.magVal f P ≤ m * 2 ^ e ∧ (m : ℚ) * 2 ^ e < Fmt.magVal f (P + 1) ∧
      roundMag eb fb bias rm neg m e = roundCell rm neg P (Fmt.magVal f P) (Fmt.magVal f (P + 1)) (m * 2 ^ e) := by
  by_cases hm : m = 0
  · have low : (0 : ℚ) < Fmt.magVal f (0 + 1) := by
      rw [Fmt.magVal_succ h, Fmt.magVal_zero, zero_add]
      positivity
    subst hm
    refine ⟨0, by simp, by simpa using low, ?_⟩
    simp only [roundMag, if_true, Fmt.magVal_zero, Nat.cast_zero, zero_mul, roundCell_self rm neg 0 low]
  · rw [roundMag_eq hm]
    have least := le_lastPlace fb bias m e
    have high := lt_lastPlace fb bias m e
    have normal := lastPlace_le hm fb bias e
    generalize lastPlace fb bias m e = q at *
    obtain ⟨a, rfl⟩ : ∃ a : Nat, q = a + (1 - (bias : Int) - fb) := ⟨(q - (1 - (bias : Int) - fb)).toNat, by omega⟩
    obtain ⟨N, lo, hi, eq⟩ := roundAt_eq_roundCell rm neg m e (a + (1 - (bias : Int) - fb))
    have unit : (0 : ℚ) < 2 ^ (a + (1 - (bias : Int) - fb)) := by positivity
    have small : N < 2 ^ (fb + 1) := Nat.cast_lt.mp ((mul_lt_mul_iff_left₀ unit).mp (lo.trans_lt high))
    have large : a = 0 ∨ 2 ^ fb ≤ N := or_iff_not_imp_left.mpr fun ha =>
      Nat.lt_succ_iff.mp (Nat.cast_lt.mp ((mul_lt_mul_iff_left₀ unit).mp ((normal (by omega)).trans_lt hi)))
    have even : a * 2 ^ fb % 2 = 0 :=
      Nat.mod_eq_zero_of_dvd ((dvd_pow_self 2 (Nat.one_le_iff_ne_zero.mp (Fmt.one_le_fraction h))).mul_left a)
    have here := Fmt.magVal_add h small.le large
    have after := Fmt.magVal_add h (n := N + 1) small (large.imp_right Nat.le_succ_of_le)
    rw [← Nat.add_assoc] at after
    refine ⟨a * 2 ^ fb + N, here ▸ lo, after ▸ hi, ?_⟩
    rw [here, after, eq, add_sub_cancel_right, Int.toNat_natCast]
    simp only [roundCell, roundInt_add even]

/-- The magnitude of a floating-point result is rounded to the format, and marked inexact where it differs. -/
theorem roundMag_roundsTo (h : Fmt.layout f = some (eb, fb, bias)) (rm : Rm) (neg : Bool) (m : Nat) (e : Int) :
    RoundsTo (Fmt.magVal f) rm neg (m * 2 ^ e) (roundMag eb fb bias rm neg m e).1 ∧
      (roundMag eb fb bias rm neg m e).2 = decide (Fmt.magVal f (roundMag eb fb bias rm neg m e).1 ≠ m * 2 ^ e) := by
  have mono := Fmt.magVal_strictMono (Fmt.isFloat_of_layout h)
  obtain ⟨P, lo, hi, eq⟩ := roundMag_eq_roundCell h rm neg m e
  rw [eq]
  exact ⟨roundCell_roundsTo mono rm neg lo hi, roundCell_inexact mono rm neg lo hi⟩

end Sys2Proof.Machine
end

section
/-! The rounded result with its sign, its overflow and its flush (R45, R46). -/
namespace Sys2Proof.Machine

/-! ### Signed results -/

/-- The sign of a finite value. -/
def sgn (n : Bool) : ℚ := if n then -1 else 1

theorem FVal.toRat_eq (n : Bool) (m : Nat) (e : Int) : (FVal.fin n m e).toRat = sgn n * (m * 2 ^ e) := by
  rw [FVal.toRat_fin, sgn, mul_assoc]

theorem sgn_mul_self (n : Bool) : sgn n * sgn n = 1 := by cases n <;> simp [sgn]

theorem abs_sgn_mul (n : Bool) (x : ℚ) : |sgn n * x| = |x| := by cases n <;> simp [sgn]

section
variable {V : Nat → ℚ} (hV : StrictMono V) (h0 : V 0 = 0) {rm : Rm} {y z : ℚ} {K k : Nat}
include hV h0

/-- The nearest of the magnitudes is the nearest of the signed values, a tie going to the even pattern. -/
theorem RoundsTo.signed_nearest {n : Bool} (h : RoundsTo V .rne n y K) (hy : 0 ≤ y) (hz : z = V k ∨ z = -V k) :
    |sgn n * V K - sgn n * y| ≤ |z - sgn n * y| ∧ (|sgn n * V K - sgn n * y| = |z - sgn n * y| → z ≠ sgn n * V K → K % 2 = 0) := by
  have near := h.nearest hV k
  have pos : 0 ≤ V k := h0 ▸ hV.monotone k.zero_le
  have turn : |z - sgn n * y| = |sgn n * z - y| := by
    rw [← abs_sgn_mul n (z - _), mul_sub, ← mul_assoc, sgn_mul_self, one_mul]
  rw [turn, ← mul_sub, abs_sgn_mul]
  have same : sgn n * z = V k ∨ sgn n * z = -V k := by
    cases n <;> rcases hz with rfl | rfl <;> simp [sgn]
  rcases same with eq | eq <;> rw [eq]
  · refine ⟨near.1, fun tie ne => near.2 tie fun hk => ne ?_⟩
    rw [← hk, ← eq, ← mul_assoc, sgn_mul_self, one_mul]
  · have far : |-V k - y| = V k + y := by rw [← abs_neg, abs_of_nonneg] <;> linarith
    have less : |V k - y| ≤ V k + y := abs_le.mpr ⟨by linarith, by linarith⟩
    refine ⟨far ▸ near.1.trans less, fun tie _ => ?_⟩
    by_cases hk : k = K
    · subst hk
      rw [far] at tie
      have zero : V k = 0 ∨ y = 0 := by
        rcases abs_cases (V k - y) with ⟨eq, -⟩ | ⟨eq, -⟩
        · exact .inr (by linarith)
        · exact .inl (by linarith)
      rcases zero with zero | rfl
      · rw [hV.injective (zero.trans h0.symm)]
      · rw [← h0] at h
        rw [h.exact hV]
    · exact near.2 (le_antisymm near.1 (by rw [tie, far]; exact less)) hk

/-- A signed value not beyond a magnitude is not beyond the magnitude it is rounded down to. -/
theorem le_of_roundsDown (h : V K ≤ y ∧ ∀ k, V k ≤ y → V k ≤ V K) (hz : z = V k ∨ z = -V k) (le : z ≤ y) : z ≤ V K := by
  have pos (i : Nat) : 0 ≤ V i := h0 ▸ hV.monotone i.zero_le
  rcases hz with rfl | rfl
  · exact h.2 k le
  · exact (neg_nonpos.mpr (pos k)).trans (pos K)

/-- A signed value not short of a magnitude is not short of the magnitude it is rounded up to. -/
theorem le_of_roundsUp (h : y ≤ V K ∧ ∀ k, y ≤ V k → V K ≤ V k) (hy : 0 ≤ y) (hz : z = V k ∨ z = -V k) (le : y ≤ z) :
    V K ≤ z := by
  have pos : 0 ≤ V k := h0 ▸ hV.monotone k.zero_le
  rcases hz with rfl | rfl
  · exact h.2 k le
  · have zero : V K ≤ V 0 := h.2 0 (by linarith)
    linarith

/-- Toward zero. -/
theorem RoundsTo.signed_rtz {n : Bool} (h : RoundsTo V .rtz n y K) (hy : 0 ≤ y) :
    |sgn n * V K| ≤ |sgn n * y| ∧ ∀ k z, (z = V k ∨ z = -V k) → |z| ≤ |sgn n * y| → |z| ≤ |sgn n * V K| := by
  have pos (i : Nat) : 0 ≤ V i := h0 ▸ hV.monotone i.zero_le
  have down := h.down hV (by decide) (by cases n <;> rfl) (h0 ▸ hy)
  rw [abs_sgn_mul, abs_sgn_mul, abs_of_nonneg (pos K), abs_of_nonneg hy]
  refine ⟨down.1, fun k z hz le => ?_⟩
  have mag : |z| = V k := by rcases hz with rfl | rfl <;> simp [abs_of_nonneg (pos k)]
  rw [mag] at le ⊢
  exact down.2 k le

/-- Downward: toward zero above it, away from it below. -/
theorem RoundsTo.signed_rdn {n : Bool} (h : RoundsTo V .rdn n y K) (hy : 0 ≤ y) :
    sgn n * V K ≤ sgn n * y ∧ ∀ k z, (z = V k ∨ z = -V k) → z ≤ sgn n * y → z ≤ sgn n * V K := by
  cases n
  · have down := h.down hV (by decide) rfl (h0 ▸ hy)
    simp only [sgn, Bool.false_eq_true, if_false, one_mul]
    exact ⟨down.1, fun k z hz => le_of_roundsDown hV h0 down hz⟩
  · have up := h.up hV (by decide) rfl
    simp only [sgn, if_true, neg_one_mul]
    refine ⟨neg_le_neg up.1, fun k z hz le => le_neg_of_le_neg ?_⟩
    exact le_of_roundsUp hV h0 up hy (hz.symm.imp neg_eq_iff_eq_neg.mpr (congrArg Neg.neg)) (le_neg_of_le_neg le)

/-- Upward: away from zero above it, toward it below. -/
theorem RoundsTo.signed_rup {n : Bool} (h : RoundsTo V .rup n y K) (hy : 0 ≤ y) :
    sgn n * y ≤ sgn n * V K ∧ ∀ k z, (z = V k ∨ z = -V k) → sgn n * y ≤ z → sgn n * V K ≤ z := by
  cases n
  · have up := h.up hV (by decide) rfl
    simp only [sgn, Bool.false_eq_true, if_false, one_mul]
    exact ⟨up.1, fun k z hz => le_of_roundsUp hV h0 up hy hz⟩
  · have down := h.down hV (by decide) rfl (h0 ▸ hy)
    simp only [sgn, if_true, neg_one_mul]
    refine ⟨neg_le_neg down.1, fun k z hz le => neg_le_of_neg_le ?_⟩
    exact le_of_roundsDown hV h0 down (hz.symm.imp neg_eq_iff_eq_neg.mpr (congrArg Neg.neg)) (neg_le_of_neg_le le)

end

/-! ### The result of the model -/

variable {f : Fmt}

/-- A finite value of a format is one of its magnitudes with a sign. -/
theorem Fmt.toRat_of_value (hf : Fmt.isFloat f = true) {x m : Nat} {n : Bool} {e : Int} (h : Fmt.value f x = .fin n m e) :
    ∃ k, (FVal.fin n m e).toRat = Fmt.magVal f k ∨ (FVal.fin n m e).toRat = -Fmt.magVal f k := by
  obtain ⟨-, -, mag⟩ := Fmt.value_fin hf h
  refine ⟨x % 2 ^ (Fmt.bits f - 1), ?_⟩
  rw [FVal.toRat_eq, mag]
  cases n
  · exact .inl (one_mul _)
  · exact .inr (neg_one_mul _)

/-- R46: the fraction bits of the formats whose subnormals FTZ flushes; no pattern but zero lies below 2^0. -/
def Fmt.flushBits (f : Fmt) : Nat := if f = .fp32 then 23 else if f = .fp16 then 10 else if f = .bf16 then 7 else 0

/-- The rounded result whose magnitude has pattern `K`. -/
def Fmt.rounded (f : Fmt) (rm : Rm) (ftz n : Bool) (K : Nat) (inx : Bool) : Rounded :=
  if Fmt.maxBits f < K then
    { bits := Fmt.signBit f n + if rm = .rne ∨ roundsAway rm n = true then Fmt.infBits f else Fmt.maxBits f, ovf := true, inx := true }
  else if ftz = true ∧ K ≠ 0 ∧ K < 2 ^ Fmt.flushBits f then { bits := Fmt.signBit f n, ovf := false, inx := true }
  else { bits := Fmt.signBit f n + K, ovf := false, inx := inx }

theorem Fmt.rounded_beyond {f : Fmt} {K : Nat} (h : Fmt.maxBits f < K) (rm : Rm) (ftz n inx : Bool) :
    Fmt.rounded f rm ftz n K inx =
      { bits := Fmt.signBit f n + if rm = .rne ∨ roundsAway rm n = true then Fmt.infBits f else Fmt.maxBits f, ovf := true, inx := true } :=
  if_pos h

theorem Fmt.rounded_inRange {f : Fmt} {K : Nat} (h : K ≤ Fmt.maxBits f) (rm : Rm) (n inx : Bool) :
    Fmt.rounded f rm false n K inx = { bits := Fmt.signBit f n + K, ovf := false, inx := inx } := by
  rw [Fmt.rounded, if_neg h.not_gt, if_neg (by simp)]

theorem Fmt.rounded_ovf (f : Fmt) (rm : Rm) (ftz n : Bool) (K : Nat) (inx : Bool) :
    (Fmt.rounded f rm ftz n K inx).ovf = true ↔ Fmt.maxBits f < K := by
  unfold Fmt.rounded
  split_ifs <;> simp_all

theorem ovfToInf_iff (rm : Rm) (n : Bool) : ovfToInf rm n = true ↔ rm = .rne ∨ roundsAway rm n = true := by
  cases rm <;> cases n <;> decide

theorem Fmt.flush_iff {eb fb bias : Nat} (h : Fmt.layout f = some (eb, fb, bias)) (ftz : Bool) (K : Nat) :
    (ftz && (f == .fp32 || f == .fp16 || f == .bf16) && K != 0 && decide (K < 2 ^ fb)) = true ↔
      ftz = true ∧ K ≠ 0 ∧ K < 2 ^ Fmt.flushBits f := by
  cases f <;> cases h <;> simp [Fmt.flushBits, and_assoc]

/-- A finite value is rounded once to a pattern, which the result has unless it lies beyond the format or is flushed. -/
theorem roundArith_rounds (hf : Fmt.isFloat f = true) (rm : Rm) (n : Bool) (m : Nat) (e : Int) :
    ∃ K, RoundsTo (Fmt.magVal f) rm n (m * 2 ^ e) K ∧
      ∀ ftz, roundArith f rm ftz (.fin n m e) = Fmt.rounded f rm ftz n K (decide (Fmt.magVal f K ≠ m * 2 ^ e)) := by
  obtain ⟨eb, fb, bias, h⟩ := Fmt.layout_of_isFloat hf
  obtain ⟨rounds, inexact⟩ := roundMag_roundsTo h rm n m e
  refine ⟨_, rounds, fun ftz => ?_⟩
  simp only [roundArith, h, Fmt.rounded, ← inexact, ovfToInf_iff, Fmt.flush_iff h]

end Sys2Proof.Machine
end

section
/-! O12: exact sums and products, rounded once. -/
namespace Sys2Proof
open Machine

/-- A value of the format is rounded to its own pattern. -/
theorem roundArith_value {f : Fmt} (hf : Fmt.isFloat f = true) (rm : Rm) {x : Nat} (hx : x < 2 ^ Fmt.bits f) {n : Bool} {m : Nat}
    {e : Int} (h : Fmt.value f x = .fin n m e) : roundArith f rm false (.fin n m e) = { bits := x, ovf := false, inx := false } := by
  obtain ⟨K, rounds, eq⟩ := roundArith_rounds hf rm n m e
  obtain ⟨low, rfl, mag⟩ := Fmt.value_fin hf h
  rw [mag] at rounds
  obtain rfl := rounds.exact (Fmt.magVal_strictMono hf)
  rw [eq, Fmt.rounded_inRange low, Fmt.pattern_eq hf hx, mag]
  simp

section
variable {f : Fmt} (hf : Fmt.isFloat f = true) (rm : Rm) (n : Bool) (m : Nat) (e : Int)
include hf

/-- R45: an infinite or a largest value comes of a magnitude that rounds beyond the largest finite one. -/
theorem roundArith_ovf :
    let top := Fmt.magVal f (Fmt.maxBits f)
    let step := top - Fmt.magVal f (Fmt.maxBits f - 1)
    let y : ℚ := m * 2 ^ e
    (roundArith f rm false (.fin n m e)).ovf = true ↔
      if rm = .rne then top + step / 2 < y ∨ top + step / 2 = y ∧ Fmt.maxBits f % 2 = 1
      else if roundsAway rm n then top < y else top + step ≤ y := by
  intro top step y
  obtain ⟨K, rounds, eq⟩ := roundArith_rounds hf rm n m e
  have after : Fmt.magVal f (Fmt.maxBits f + 1) = top + step := Fmt.magVal_beyond hf
  rw [eq, Fmt.rounded_ovf, ← not_le, rounds, RoundsAtMost, after]
  split_ifs
  · grind
  · exact not_le
  · exact not_lt

/-- A result that does not overflow is the sign with the pattern that the magnitude rounds to. -/
theorem roundArith_inRange (h : (roundArith f rm false (.fin n m e)).ovf = false) :
    ∃ K, RoundsTo (Fmt.magVal f) rm n (m * 2 ^ e) K ∧ K ≤ Fmt.maxBits f ∧ roundArith f rm false (.fin n m e) =
      { bits := Fmt.signBit f n + K, ovf := false, inx := decide (Fmt.magVal f K ≠ m * 2 ^ e) } := by
  obtain ⟨K, rounds, eq⟩ := roundArith_rounds hf rm n m e
  have low : K ≤ Fmt.maxBits f := Nat.le_of_not_lt fun beyond => by
    rw [eq, (Fmt.rounded_ovf ..).mpr beyond] at h
    cases h
  exact ⟨K, rounds, low, by rw [eq, Fmt.rounded_inRange low]⟩

/-- R45: where an overflow goes. -/
theorem roundArith_overflows (h : (roundArith f rm false (.fin n m e)).ovf = true) : roundArith f rm false (.fin n m e) =
    { bits := Fmt.signBit f n + if rm = .rne ∨ roundsAway rm n = true then Fmt.infBits f else Fmt.maxBits f, ovf := true, inx := true } := by
  obtain ⟨K, -, eq⟩ := roundArith_rounds hf rm n m e
  rw [eq] at h ⊢
  rw [Fmt.rounded_beyond ((Fmt.rounded_ovf ..).mp h)]

/-- R46: FTZ takes a subnormal result to zero. -/
theorem roundArith_ftz :
    let r := roundArith f rm false (.fin n m e)
    let low := r.bits % 2 ^ (Fmt.bits f - 1)
    roundArith f rm true (.fin n m e) =
      if r.ovf = false ∧ low ≠ 0 ∧ low < 2 ^ Fmt.flushBits f then { bits := Fmt.signBit f n, ovf := false, inx := true } else r := by
  obtain ⟨K, -, eq⟩ := roundArith_rounds hf rm n m e
  simp only [eq]
  rcases Nat.lt_or_ge (Fmt.maxBits f) K with beyond | inRange
  · simp [Fmt.rounded_beyond beyond]
  · have low := (Fmt.value_signBit_add hf n inRange).1
    simp [Fmt.rounded, inRange.not_gt, low]

end

theorem Fmt.toRat_magnitude {f : Fmt} (hf : Fmt.isFloat f = true) {p : Nat} (hp : p ≤ Fmt.maxBits f) :
    (Fmt.value f p).toRat = Fmt.magVal f p := by
  obtain ⟨-, m, e, value, mag⟩ := Fmt.value_signBit_add hf false hp
  rw [show Fmt.signBit f false + p = p by simp [Fmt.signBit]] at value
  rw [value, FVal.toRat_pos, mag]

/-- R45, R46, R52: the flags of a rounded result. -/
theorem roundRes_eq (f : Fmt) (rm : Rm) (ftz : Bool) (v : FVal) :
    roundRes f rm ftz v = { bits := toDW (roundArith f rm ftz v).bits,
                            flags := (if (roundArith f rm ftz v).ovf then 0x10000 else 0) +
                              (if (roundArith f rm ftz v).inx then 0x40000 else 0) } := by
  have flags : ∀ ovf inx : Bool, stickyBits ovf false inx false = (if ovf then 0x10000 else 0) + (if inx then 0x40000 else 0) := by
    decide
  rw [roundRes, flags]

theorem Fmt.signBit_even {f : Fmt} (hf : Fmt.isFloat f = true) (n : Bool) : Fmt.signBit f n % 2 = 0 := by
  cases f <;> simp [Fmt.isFloat, Fmt.layout] at hf <;> cases n <;> rfl

/-- R45: a result that does not overflow, by its pattern, its value and its mode, beside every value of the format. -/
theorem roundArith_result {f : Fmt} (hf : Fmt.isFloat f = true) (rm : Rm) (n : Bool) (m : Nat) (e : Int)
    (h : (roundArith f rm false (.fin n m e)).ovf = false) :
    ∃ K ≤ Fmt.maxBits f, RoundsTo (Fmt.magVal f) rm n (m * 2 ^ e) K ∧
      let r := roundArith f rm false (.fin n m e)
      r.bits = Fmt.signBit f n + K ∧ r.bits % 2 ^ (Fmt.bits f - 1) = K ∧ r.bits % 2 = K % 2 ∧
      (Fmt.value f r.bits).toRat = sgn n * Fmt.magVal f K ∧
      (r.inx = true ↔ (Fmt.value f r.bits).toRat ≠ (FVal.fin n m e).toRat) := by
  obtain ⟨K, rounds, le, eq⟩ := roundArith_inRange hf rm n m e h
  obtain ⟨low, m', e', value, mag⟩ := Fmt.value_signBit_add hf n le
  have val : (Fmt.value f (Fmt.signBit f n + K)).toRat = sgn n * Fmt.magVal f K := by rw [value, FVal.toRat_eq, mag]
  have unit : sgn n ≠ 0 := left_ne_zero_of_mul_eq_one (sgn_mul_self n)
  refine ⟨K, le, rounds, ?_⟩
  simp only [eq, val, FVal.toRat_eq, decide_eq_true_eq, ne_eq, mul_right_inj' unit, iff_self, and_true, true_and]
  exact ⟨low, by have := Fmt.signBit_even hf n; omega⟩

/-- Settles O12: each magnitude rounds to one pattern of the format (`roundArith_rounds`), and what the modes, the overflow and the
flush say of it follows from the order of the magnitudes; sums and products are exact before that. -/
theorem roundsTheExactResult : Obligations.RoundsTheExactResult := by
  unfold Obligations.RoundsTheExactResult
  intro val
  have toRat : val = FVal.toRat := by funext v; cases v <;> rfl
  clear_value val
  subst toRat
  refine ⟨fun f rm x n m e hf hx h => roundArith_value hf rm hx h, fun f rm n m e hf => ?result, fun nz l hl => ⟨?sum, ?infSum⟩,
    fun n k m p e g => ?product, fun f rm ftz a b a1 b1 c notNan valid valid1 => ?once⟩
  case result =>
    intro y r R low top step each away frac
    have topVal : top = Fmt.magVal f (Fmt.maxBits f) := Fmt.toRat_magnitude hf le_rfl
    have stepVal : step = Fmt.magVal f (Fmt.maxBits f) - Fmt.magVal f (Fmt.maxBits f - 1) :=
      congrArg₂ _ topVal (Fmt.toRat_magnitude hf (Nat.sub_le _ _))
    have mag : |y| = m * 2 ^ e := by
      rw [show y = sgn n * (m * 2 ^ e) from FVal.toRat_eq n m e, abs_sgn_mul, abs_of_nonneg (by positivity)]
    refine ⟨fun h => ?_, ?_, fun h inf => ?_, roundArith_ftz hf rm n m e, fun ftz => roundRes_eq f rm ftz _⟩
    · obtain ⟨K, le, rounds, bits, rest, parity, result, inexact⟩ := roundArith_result hf rm n m e h
      have pattern : low = K := rest
      refine ⟨by rw [pattern]; exact bits, pattern.trans_le le, inexact, ?_⟩
      have result : R = sgn n * Fmt.magVal f K := result
      have value : y = sgn n * (m * 2 ^ e) := FVal.toRat_eq n m e
      have mono := Fmt.magVal_strictMono hf
      have zero := Fmt.magVal_zero f
      have pos : (0 : ℚ) ≤ m * 2 ^ e := by positivity
      rw [result, value, parity]
      have every {P : ℚ → Prop} (h : ∀ j z, (z = Fmt.magVal f j ∨ z = -Fmt.magVal f j) → P z) : each P := fun z k p g hz =>
        (Fmt.toRat_of_value hf hz).elim fun j hj => h j _ hj
      cases rm
      case rne => exact every fun j z hz => rounds.signed_nearest mono zero pos hz
      case rtz => exact (rounds.signed_rtz mono zero pos).imp_right every
      case rdn => exact (rounds.signed_rdn mono zero pos).imp_right every
      case rup => exact (rounds.signed_rup mono zero pos).imp_right every
    · rw [mag, topVal, stepVal]
      exact roundArith_ovf hf rm n m e
    · have goes := roundArith_overflows hf rm n m e h
      exact ⟨congrArg Rounded.inx goes, congrArg Rounded.bits goes⟩
  case sum =>
    intro fin
    obtain ⟨n, m, e, eq, sum, sign⟩ := sumExact_fin nz hl fin
    exact ⟨n, m, e, eq, sum, sign⟩
  case infSum => exact fun k hk h => sumExact_inf nz hk h
  case product =>
    refine ⟨m * p, e + g, FVal.mul_fin n k m p e g, FVal.toRat_mul n k m p e g, rfl, fun hp => ?_⟩
    simp [FVal.mul, hp]
  case once =>
    simp only [List.forall_mem_cons] at notNan
    obtain ⟨ha, hb, ha1, hb1, hc, -⟩ := notNan
    exact ⟨addRes_rounds rm ftz ha hb, mulRes_rounds rm ftz ha hb valid, fmaRes_rounds rm ftz ha hb hc valid,
      dot2Res_rounds rm ftz ha hb ha1 hb1 hc valid valid1⟩

end Sys2Proof
end
